-- ==== Sys2Proof/Word.lean ====
section
/-! DEFINITION. The plainest data of the model: bytes, tags, and saturating counts (00_scope.md, Counts and limits). -/

namespace Sys2Proof

/-- A byte of a port frame or a loop frame. -/
abbrev Byte := BitVec 8

/-- A request tag, 0 to 255 (00_scope.md, Numbering). -/
abbrev Tag := BitVec 8

/-- A count that saturates at `top` (00_scope.md, Counts and limits). -/
def satSucc (top n : Nat) : Nat := if n < top then n + 1 else top

theorem satSucc_le (top n : Nat) : satSucc top n ≤ top := by
  unfold satSucc; split <;> omega

end Sys2Proof
end

