-- ==== Sys2Proof/Syntax.lean ====
section
/-! DEFINITION. The commands of the RZS-840: one constructor of `Instr` per row of spec/opcode_table.json, and the names their operands use. -/

namespace Sys2Proof

/-- The two command ports (00_scope.md, Ports and authority). -/
inductive Port
  | stage
  | front
deriving DecidableEq, Repr

/-- The phases of R1. SHOW is `inShow`, since `show` is a word of Lean. -/
inductive Phase
  | dark
  | prepare
  | houseOpen
  | inShow
  | showStop
  | interval
  | showOut
  | evacuation
deriving DecidableEq, Repr

/-- The stored sections of R190. -/
inductive SectionName
  | zones
  | channels
  | curtain
  | lights
  | calls
  | loop
  | ports
  | performance
deriving DecidableEq, Repr

/-- What a detector channel serves (R23). -/
inductive ChannelType
  | detectorLoop
  | callPoint
  | flowSwitch
  | notUsed
deriving DecidableEq, Repr

/-- The kind of space a zone covers (R43). -/
inductive AreaKind
  | stage
  | audience
  | front
  | backstage
deriving DecidableEq, Repr

/-- The role of a lamp channel (R101). -/
inductive LampRole
  | house
  | working
  | settingLineWarning
deriving DecidableEq, Repr

/-- What a loop address carries or is expected to carry (R156). -/
inductive UnitKind
  | lamp
  | call
  | none
deriving DecidableEq, Repr

/-- How a lamp unit takes SETs (R156, R167). -/
inductive IssueMode
  | reissue
  | streamed
deriving DecidableEq, Repr

/-- The lanes of R160. -/
inductive Lane
  | urgent
  | ordinary
deriving DecidableEq, Repr

/-- The traffic classes whose lane is a setting (R156). -/
inductive LaneClass
  | curtain
  | light
  | staff
  | showing
  | courtesy
deriving DecidableEq, Repr

/-- The classes of call orders (R124). -/
inductive CallClass
  | lifeSafety
  | staff
  | showing
  | courtesy
deriving DecidableEq, Repr

/-- What a call sounds, with the kind's number (R124). -/
inductive CallKind
  | chime (strikes : Nat)
  | bell (seconds : Nat)
  | message (number : Nat)
  | staffCode (number : Nat)
  | evac
deriving DecidableEq, Repr

/-- A call target: base area and free mask (R122). -/
structure Target where
  base : Nat
  mask : Nat
deriving DecidableEq, Repr

/-- How many repetitions an order sounds (R124). -/
inductive Repeats
  | times (n : Nat)
  | untilReleased
deriving DecidableEq, Repr

/-- What makes an order due (R124). -/
inductive Anchor
  | now
  | houseCountdown
  | intervalCountdown
deriving DecidableEq, Repr

/-- One used entry of a call plan (R129). -/
structure PlanEntry where
  offset : Nat
  kind : CallKind
  target : Target
deriving DecidableEq, Repr

/-- The two call plans (R129). -/
inductive PlanName
  | house
  | interval
deriving DecidableEq, Repr

/-- A preset: pairs of channel and level with one fade time in tenths of a second (R102). -/
structure Preset where
  levels : List (Nat × Nat)
  fade : Nat
deriving DecidableEq, Repr

/-- The notice families a port may subscribe to (R185). -/
inductive Family
  | phase
  | clearance
  | countdown
  | channel
  | curtain
  | call
  | loop
  | store
  | faultNote
  | faultMajor
  | faultCritical
deriving DecidableEq, Repr

/-- The source of a fault (R142). -/
inductive FaultSource
  | channel (n : Nat)
  | zone (n : Nat)
  | curtain
  | unit (n : Nat)
  | loop
  | store (s : SectionName)
deriving DecidableEq, Repr

/-- The fault kinds of R149. -/
inductive FaultKind
  | loopOpen
  | loopShort
  | isolated
  | channelUnstable
  | curtainStall
  | limitConflict
  | dropOverdue
  | dropOverspeed
  | creep
  | obstructedDrop
  | unitAbsent
  | unitKindMismatch
  | levelUnconfirmed
  | unitBadData
  | promiseBroken
  | unexpectedUnit
  | callNotReported
  | loopRateFallback
  | storeAborted
  | sectionLost
deriving DecidableEq, Repr

/-- What ISOLATE and RESTORE name (R39, R40). -/
inductive IsolationTarget
  | channel (n : Nat)
  | zone (n : Nat)
deriving DecidableEq, Repr

/-- The request kinds the controller knows (R188's table). SET COUNTDOWN, MANUAL LEVEL, ACKNOWLEDGE FAULT and PORT STATUS are
one kind each; the table gives two rows to each. -/
inductive RequestKind
  | phase | giveClearance | withdrawClearance | setCountdown | extendInterval | performanceStatus
  | readChannel | isolate | restore
  | acknowledge | cancel | silence | evacuate | alarmList | resetAlarms
  | curtainLower | curtainRaise | curtainDropTest | curtainDisplay | curtainHold | curtainClearFault | curtainStop
  | curtainStatus
  | manualLevel | goPreset | lightStatus
  | placeCall | withdrawCall | callStatus
  | acknowledgeFault | faultList
  | retrainLoop | unitTable
  | subscribe | portStatus | identify
  | config | storeSection | restart | getConfig
deriving DecidableEq, Repr

/-- What the kind byte of a received frame says (R180). The manual gives no table of codes (log entry 7). -/
inductive FrameKind
  | request (k : RequestKind)
  | unknown (code : Byte)
deriving DecidableEq, Repr

/-- A received frame: complete, with a good check (R179). `lengthAllowed` says whether the length is one that the request's
kind allows; the manual gives no table of lengths (log entry 7). -/
structure PortFrame where
  tag : Tag
  kind : FrameKind
  payload : List Byte
  lengthAllowed : Bool
deriving DecidableEq, Repr

/-- One field of a working section with its new value (R190, R191). Channel and zone isolation are changed by ISOLATE and
RESTORE alone (R23, R43; log entry 25). -/
inductive ConfigField
  | zoneAreaKind (zone : Nat) (kind : AreaKind)
  | zoneStaged (zone : Nat) (yes : Bool)
  | zoneVerify (zone : Nat) (yes : Bool)
  | zoneCurtainTrigger (zone : Nat) (yes : Bool)
  | zoneStaffTarget (zone : Nat) (target : Target)
  | zoneStaffMessage (zone : Nat) (message : Nat)
  | ackWindow (seconds : Nat)
  | investigationWindow (seconds : Nat)
  | channelType (channel : Nat) (type : ChannelType)
  | channelZone (channel : Nat) (zone : Nat)
  | channelOpen (channel : Nat) (threshold : Nat)
  | channelPrealarm (channel : Nat) (threshold : Nat)
  | channelAlarm (channel : Nat) (threshold : Nat)
  | channelShort (channel : Nat) (threshold : Nat)
  | channelConfirm (channel : Nat) (count : Nat)
  | settleWindow (tenthsMs : Nat)
  | offTime (seconds : Nat)
  | recoveryTime (seconds : Nat)
  | verificationWindow (seconds : Nat)
  | travel (counts : Nat)
  | stallWindow (tenths : Nat)
  | minDropInterval (tenthsMs : Nat)
  | dropLimit (seconds : Nat)
  | holdOff (seconds : Nat)
  | maxHolds (n : Nat)
  | grace (seconds : Nat)
  | dwell (seconds : Nat)
  | displayMessage (message : Nat)
  | displayTarget (target : Target)
  | lampUnit (channel : Nat) (address : Nat)
  | lampOutput (channel : Nat) (output : Nat)
  | lampRole (channel : Nat) (role : LampRole)
  | lampRest (channel : Nat) (level : Nat)
  | preset (number : Nat) (value : Option Preset)
  | phasePreset (phase : Phase) (preset : Option Nat)
  | panicFade (tenths : Nat)
  | callUnitArea (address : Nat) (area : Nat)
  | callUnitAllAreas (address : Nat) (accepts : Bool)
  | planEntry (plan : PlanName) (entry : Nat) (value : Option PlanEntry)
  | expectedKind (address : Nat) (kind : UnitKind)
  | issueMode (address : Nat) (mode : IssueMode)
  | laneOf (cls : LaneClass) (lane : Lane)
  | pollPeriod (ms : Nat)
  | surveyPeriod (seconds : Nat)
  | replyWindow (ms : Nat)
  | frontFitted (yes : Bool)
  | subscription (port : Port) (family : Family) (yes : Bool)
  | intervalLength (seconds : Nat)
  | clearanceLife (seconds : Nat)
  | displayRequired (yes : Bool)
deriving DecidableEq, Repr

/-- The lines of the quadrature encoder (R76). -/
inductive EncoderLine
  | encA
  | encB
deriving DecidableEq, Repr

/-- The kinds of the loop frame; a code to which R158 gives no kind is kept as it is. -/
inductive LoopKind
  | poll
  | set
  | read
  | call
  | cancel
  | survey
  | other (code : Nat)
deriving DecidableEq, Repr

/-- A lamp unit's answer to a SET (R159). -/
inductive SetAnswer
  | taken
  | takenFull
  | refused
deriving DecidableEq, Repr

/-- Whether a lamp unit can take a SET (R156). -/
inductive Room
  | room
  | full
deriving DecidableEq, Repr

/-- A call unit's progress for its last serial (R156). -/
inductive CallProgress
  | idle
  | sounding
  | finished
deriving DecidableEq, Repr

/-- What the one coded byte of a unit's reply stands for (R159), or a code that stands for nothing. The manual gives these codes no values
(log entry 7), so a reply frame carries the meaning of its coded byte beside its bytes. -/
inductive LoopWord
  | room (value : Room)
  | progress (value : CallProgress)
  | answer (value : SetAnswer)
  | unit (kind : UnitKind)
  | meaningless
deriving DecidableEq, Repr

/-- The payload of a unit's reply (R159), or one that reads as none of them. -/
inductive LoopBody
  | lampPoll (value : Room)
  | callPoll (serial : Nat) (progress : CallProgress)
  | setAnswer (answer : SetAnswer)
  | levels (values : List Nat)
  | identity (kind : UnitKind) (outputs : Nat) (area : Nat)
  | malformed
deriving DecidableEq, Repr

/-- A frame begun within the reply window (R158): its bytes as they came, and what its coded byte stands for. Its fields are read from the
bytes (Machine/LoopFrames.lean). -/
structure LoopFrame where
  bytes : List Byte
  word : LoopWord
deriving DecidableEq, Repr

/-- Which clearance (R1). -/
inductive ClearanceName
  | stage
  | house
deriving DecidableEq, Repr

/-- Which countdown (R1). -/
inductive CountdownName
  | house
  | interval
deriving DecidableEq, Repr

/-- The commands: the 87 rows of spec/opcode_table.json. A request carries its port and tag first (log entry 6), a
status request last the first item it names, 0 for the start (R181). A CONFIG, a GET CONFIG or a STORE SECTION whose section name is none of
the eight carries none (log entry 25). -/
inductive Instr
  | powerOn
  | resetNAsserted
  | resetNReleased
  | receivedFrame (p : Port) (frame : PortFrame)
  | badSync (p : Port)
  | badLength (p : Port)
  | incomplete (p : Port)
  | badCheck (p : Port)
  | badFraming (p : Port)
  | requestPassedOn (p : Port)
  | frameSent (p : Port)
  | phase (p : Port) (tag : Tag) (target : Phase) (countdown : Option Nat) (length : Option Nat) (override : Bool)
  | giveClearance (p : Port) (tag : Tag)
  | withdrawClearance (p : Port) (tag : Tag)
  | setCountdown (p : Port) (tag : Tag) (value : Nat)
  | setCountdownClear (p : Port) (tag : Tag)
  | extendInterval (p : Port) (tag : Tag) (seconds : Nat)
  | performanceStatus (p : Port) (tag : Tag) (first : Nat := 0)
  | clearanceLapse (which : ClearanceName)
  | uptimeAdvance
  | countdownReachesZero (which : CountdownName)
  | visit (reading : Byte)
  | offTimeEnd (channel : Nat)
  | blankingEnd (channel : Nat)
  | verificationWindowEnd (channel : Nat)
  | isolate (p : Port) (tag : Tag) (what : IsolationTarget)
  | restore (p : Port) (tag : Tag) (what : IsolationTarget)
  | readChannel (p : Port) (tag : Tag) (channel : Nat)
  | acknowledge (p : Port) (tag : Tag) (zone : Nat)
  | cancel (p : Port) (tag : Tag) (zone : Nat)
  | silence (p : Port) (tag : Tag)
  | evacuate (p : Port) (tag : Tag)
  | resetAlarms (p : Port) (tag : Tag)
  | alarmList (p : Port) (tag : Tag) (first : Nat)
  | ackWindowExpiry (zone : Nat)
  | investigationWindowExpiry (zone : Nat)
  | curtainLower (p : Port) (tag : Tag)
  | curtainRaise (p : Port) (tag : Tag)
  | curtainStop (p : Port) (tag : Tag)
  | curtainDropTest (p : Port) (tag : Tag)
  | curtainClearFault (p : Port) (tag : Tag)
  | curtainStatus (p : Port) (tag : Tag) (first : Nat := 0)
  | curtainHold (p : Port) (tag : Tag)
  | curtainDisplay (p : Port) (tag : Tag)
  | limitBottomActive
  | limitBottomLost
  | limitTopActive
  | limitTopLost
  | encoderStep (line : EncoderLine) (interval : Nat)
  | motionWatchEnd
  | settingLineChange (beamUs : Bool) (beamDs : Bool)
  | releaseExpiry
  | graceEnd
  | dropOverdue
  | dwellEnd
  | emergReleaseAsserted
  | emergReleaseReleased
  | manualLevel (p : Port) (tag : Tag) (channels : List Nat) (level : Nat) (fade : Nat)
  | manualLevelRelease (p : Port) (tag : Tag) (channels : List Nat) (fade : Nat)
  | goPreset (p : Port) (tag : Tag) (number : Nat)
  | lightStatus (p : Port) (tag : Tag) (first : Nat)
  | fadeAdvance
  | fadeEnd (channel : Nat)
  | flashClockHalf
  | placeCall (p : Port) (tag : Tag) (cls : CallClass) (kind : CallKind) (target : Target) (repeats : Repeats) (anchor : Anchor) (offset : Option Nat)
  | withdrawCall (p : Port) (tag : Tag) (named : Nat)
  | callStatus (p : Port) (tag : Tag) (first : Nat)
  | callTimeLimit
  | acknowledgeFault (p : Port) (tag : Tag) (source : FaultSource) (kind : Option FaultKind)
  | acknowledgeFaultLost (p : Port) (tag : Tag)
  | faultList (p : Port) (tag : Tag) (first : Nat)
  | loopReply (frame : LoopFrame)
  | replyWindowExpiry
  | loopBroadcastSent
  | pollDue (address : Nat)
  | surveyPeriodEnd
  | retrainLoop (p : Port) (tag : Tag)
  | unitTable (p : Port) (tag : Tag) (first : Nat)
  | subscribe (p : Port) (tag : Tag) (families : List (Option Family × Bool))
  | portStatus (p : Port) (tag : Tag) (selectorKnown : Bool) (first : Nat)
  | portStatusReadAndClear (p : Port) (tag : Tag) (first : Nat)
  | identify (p : Port) (tag : Tag)
  | config (p : Port) (tag : Tag) (name : Option SectionName) (fields : List ConfigField)
  | getConfig (p : Port) (tag : Tag) (name : Option SectionName) (first : Nat)
  | storeSection (p : Port) (tag : Tag) (name : Option SectionName)
  | storeWriteEnd
  | restart (p : Port) (tag : Tag)
deriving DecidableEq, Repr

/-- The request that a command makes, with its port and tag; none for a command that is no request (R178, R188). -/
def Instr.request : Instr → Option (Port × Tag × RequestKind)
  | .phase p tag _ _ _ _ => some (p, tag, .phase)
  | .giveClearance p tag => some (p, tag, .giveClearance)
  | .withdrawClearance p tag => some (p, tag, .withdrawClearance)
  | .setCountdown p tag _ => some (p, tag, .setCountdown)
  | .setCountdownClear p tag => some (p, tag, .setCountdown)
  | .extendInterval p tag _ => some (p, tag, .extendInterval)
  | .performanceStatus p tag _ => some (p, tag, .performanceStatus)
  | .isolate p tag _ => some (p, tag, .isolate)
  | .restore p tag _ => some (p, tag, .restore)
  | .readChannel p tag _ => some (p, tag, .readChannel)
  | .acknowledge p tag _ => some (p, tag, .acknowledge)
  | .cancel p tag _ => some (p, tag, .cancel)
  | .silence p tag => some (p, tag, .silence)
  | .evacuate p tag => some (p, tag, .evacuate)
  | .resetAlarms p tag => some (p, tag, .resetAlarms)
  | .alarmList p tag _ => some (p, tag, .alarmList)
  | .curtainLower p tag => some (p, tag, .curtainLower)
  | .curtainRaise p tag => some (p, tag, .curtainRaise)
  | .curtainStop p tag => some (p, tag, .curtainStop)
  | .curtainDropTest p tag => some (p, tag, .curtainDropTest)
  | .curtainClearFault p tag => some (p, tag, .curtainClearFault)
  | .curtainStatus p tag _ => some (p, tag, .curtainStatus)
  | .curtainHold p tag => some (p, tag, .curtainHold)
  | .curtainDisplay p tag => some (p, tag, .curtainDisplay)
  | .manualLevel p tag _ _ _ => some (p, tag, .manualLevel)
  | .manualLevelRelease p tag _ _ => some (p, tag, .manualLevel)
  | .goPreset p tag _ => some (p, tag, .goPreset)
  | .lightStatus p tag _ => some (p, tag, .lightStatus)
  | .placeCall p tag _ _ _ _ _ _ => some (p, tag, .placeCall)
  | .withdrawCall p tag _ => some (p, tag, .withdrawCall)
  | .callStatus p tag _ => some (p, tag, .callStatus)
  | .acknowledgeFault p tag _ _ => some (p, tag, .acknowledgeFault)
  | .acknowledgeFaultLost p tag => some (p, tag, .acknowledgeFault)
  | .faultList p tag _ => some (p, tag, .faultList)
  | .retrainLoop p tag => some (p, tag, .retrainLoop)
  | .unitTable p tag _ => some (p, tag, .unitTable)
  | .subscribe p tag _ => some (p, tag, .subscribe)
  | .portStatus p tag _ _ => some (p, tag, .portStatus)
  | .portStatusReadAndClear p tag _ => some (p, tag, .portStatus)
  | .identify p tag => some (p, tag, .identify)
  | .config p tag _ _ => some (p, tag, .config)
  | .getConfig p tag _ _ => some (p, tag, .getConfig)
  | .storeSection p tag _ => some (p, tag, .storeSection)
  | .restart p tag => some (p, tag, .restart)
  | _ => none

end Sys2Proof
end

