-- ==== Sys2Proof/Config.lean ====
section
/-! DEFINITION. The free values: what the manual leaves open while the controller goes on. None has a body, so no proof can see one. The first three are applied to the counter `State.freeCount`; the others are codes that every unit of one house shares. -/

namespace Sys2Proof

/-- Free value: how many items of a long status reply fit in 120 bytes (R181; log entry 8). -/
opaque Config.itemsThatFit : Nat → Nat

/-- Free value: which of several equal addresses the "rate changed" notice names (R175; log entry 14). -/
opaque Config.tieChoice : Nat → Nat

/-- Free value: the uptime that follows 4,294,967,295 (00_scope.md, Times; log entry 15). -/
opaque Config.uptimeAfterGreatest : Nat → BitVec 32

/-- Free value: the code of a call's class in a CALL broadcast (R159; log entry 7). -/
opaque Config.callClassCode : CallClass → Byte

/-- Free value: the code of a call's kind in a CALL broadcast, by the kind's place in the list of R124, from 0 (R159; log entry 7). -/
opaque Config.callKindCode : Nat → Byte

/-- Free value: the byte that stands for the number of a kind that has none, EVAC (R124, R159; log entry 7). -/
opaque Config.noNumber : Byte

end Sys2Proof
end

