-- ==== Sys2Proof/Machine/Settings.lean ====
section
/-! DEFINITION. The working settings: eight sections (R190) and their built-in defaults (R195). Times are in the unit the manual gives: seconds, tenths of a second, 0.1 ms, or ms. -/

namespace Sys2Proof.Machine

/-- Every area: every place freed (R122). The base is 0, of the EVAC order and of the defaults alike, and is shown in CALL STATUS and carried in
the CALL (the model's choice, log entry 37: R122 has a mask of 15 reach every area whatever the base, and R64, R139 and R195 give none). -/
def allAreas : Target := ⟨0, 15⟩

/-- A zone's record in the ZONES section (R43). For zone 0 the first three attributes are fixed. -/
structure ZoneSettings where
  num : Nat
  areaKind : AreaKind
  staged : Bool
  verify : Bool
  curtainTrigger : Bool
  staffTarget : Target
  staffMessage : Nat
deriving DecidableEq, Repr

/-- The ZONES section (R43). -/
structure ZonesSection where
  zones : List ZoneSettings
  ackWindow : Nat
  investigationWindow : Nat
deriving DecidableEq, Repr

/-- A channel's record in the CHANNELS section (R23). -/
structure ChannelSettings where
  num : Nat
  type : ChannelType
  zone : Nat
  openBelow : Nat
  prealarm : Nat
  alarm : Nat
  short : Nat
  confirm : Nat
  isolated : Bool
deriving DecidableEq, Repr

/-- The CHANNELS section (R23). `isolatedZones` holds the isolated zones in ascending order. Settle window in 0.1 ms. -/
structure ChannelsSection where
  channels : List ChannelSettings
  isolatedZones : List Nat
  settleWindow : Nat
  offTime : Nat
  recoveryTime : Nat
  verificationWindow : Nat
deriving DecidableEq, Repr

/-- The CURTAIN section (R71). Stall window in tenths of a second, minimum drop interval in 0.1 ms. -/
structure CurtainSection where
  travel : Nat
  stallWindow : Nat
  minDropInterval : Nat
  dropLimit : Nat
  holdOff : Nat
  maxHolds : Nat
  grace : Nat
  dwell : Nat
  displayMessage : Nat
  displayTarget : Target
deriving DecidableEq, Repr

/-- A lamp channel's record in the LIGHTS section (R101). -/
structure LampSettings where
  num : Nat
  unit : Nat
  output : Nat
  role : LampRole
  rest : Nat
deriving DecidableEq, Repr

/-- One preset's place in the LIGHTS section: its number and its value, none while undefined (R102). -/
structure PresetRow where
  num : Nat
  value : Option Preset
deriving DecidableEq, Repr

/-- One row of the phase preset map (R102). -/
structure PhasePresetRow where
  phase : Phase
  preset : Option Nat
deriving DecidableEq, Repr

/-- The LIGHTS section (R101, R102). Panic fade in tenths of a second. -/
structure LightsSection where
  lamps : List LampSettings
  presets : List PresetRow
  phasePresets : List PhasePresetRow
  panicFade : Nat
deriving DecidableEq, Repr

/-- What the CALLS section holds for one call unit (R122). -/
structure CallUnitSettings where
  address : Nat
  area : Nat
  acceptsAll : Bool
deriving DecidableEq, Repr

/-- The CALLS section (R122, R129): the call units in ascending address and six entries of each plan. -/
structure CallsSection where
  units : List CallUnitSettings
  housePlan : List (Option PlanEntry)
  intervalPlan : List (Option PlanEntry)
deriving DecidableEq, Repr

/-- What the LOOP section holds for one address (R156). -/
structure LoopRowSettings where
  address : Nat
  expected : UnitKind
  mode : IssueMode
deriving DecidableEq, Repr

/-- The LOOP section (R156). Poll period and reply window in ms, survey period in seconds. -/
structure LoopSection where
  rows : List LoopRowSettings
  laneCurtain : Lane
  laneLight : Lane
  laneStaff : Lane
  laneShow : Lane
  laneCourtesy : Lane
  pollPeriod : Nat
  surveyPeriod : Nat
  replyWindow : Nat
deriving DecidableEq, Repr

/-- One port's subscriptions (R185). -/
structure Subscriptions where
  phase : Bool
  clearance : Bool
  countdown : Bool
  channel : Bool
  curtain : Bool
  call : Bool
  loop : Bool
  store : Bool
  faultNote : Bool
  faultMajor : Bool
  faultCritical : Bool
deriving DecidableEq, Repr

/-- The PORTS section (R190). -/
structure PortsSection where
  frontFitted : Bool
  stageSubs : Subscriptions
  frontSubs : Subscriptions
  intervalLength : Nat
  clearanceLife : Nat
deriving DecidableEq, Repr

/-- The PERFORMANCE section (R190). -/
structure PerformanceSection where
  displayRequired : Bool
deriving DecidableEq, Repr

/-- The working settings (R190). -/
structure Settings where
  zones : ZonesSection
  channels : ChannelsSection
  curtain : CurtainSection
  lights : LightsSection
  calls : CallsSection
  loop : LoopSection
  ports : PortsSection
  performance : PerformanceSection
deriving DecidableEq, Repr

/-- The contents of one section, as a snapshot of it is stored (R193). -/
inductive SectionValue
  | zones (v : ZonesSection)
  | channels (v : ChannelsSection)
  | curtain (v : CurtainSection)
  | lights (v : LightsSection)
  | calls (v : CallsSection)
  | loop (v : LoopSection)
  | ports (v : PortsSection)
  | performance (v : PerformanceSection)
deriving DecidableEq, Repr

/-- The eight sections in the order of R190. -/
def SectionName.all : List SectionName :=
  [.zones, .channels, .curtain, .lights, .calls, .loop, .ports, .performance]

/-- The working values of a section. -/
def Settings.value (s : Settings) : SectionName → SectionValue
  | .zones => .zones s.zones
  | .channels => .channels s.channels
  | .curtain => .curtain s.curtain
  | .lights => .lights s.lights
  | .calls => .calls s.calls
  | .loop => .loop s.loop
  | .ports => .ports s.ports
  | .performance => .performance s.performance

/-- The settings with one section replaced. -/
def Settings.put (s : Settings) : SectionValue → Settings
  | .zones v => { s with zones := v }
  | .channels v => { s with channels := v }
  | .curtain v => { s with curtain := v }
  | .lights v => { s with lights := v }
  | .calls v => { s with calls := v }
  | .loop v => { s with loop := v }
  | .ports v => { s with ports := v }
  | .performance v => { s with performance := v }

/-- R195, defaults of a zone: STAGE, not staged, no verify, curtain trigger, all areas, message 1; zone 0 the same. -/
def ZoneSettings.default (n : Nat) : ZoneSettings := ⟨n, .stage, false, false, true, allAreas, 1⟩

/-- R195, ZONES, with the windows of R43. -/
def ZonesSection.default : ZonesSection := ⟨(List.range 13).map ZoneSettings.default, 30, 180⟩

/-- R195, a channel: DETECTOR_LOOP in zone 1, thresholds 20, 120, 170, 240, confirm count 3, not isolated. -/
def ChannelSettings.default (n : Nat) : ChannelSettings := ⟨n, .detectorLoop, 1, 20, 120, 170, 240, 3, false⟩

/-- The channel numbers 1 to 16. -/
def channelNumbers : List Nat := (List.range 16).map (· + 1)

/-- The lamp channel numbers 1 to 48. -/
def lampNumbers : List Nat := (List.range 48).map (· + 1)

/-- The loop unit addresses 1 to 31. -/
def loopAddresses : List Nat := (List.range 31).map (· + 1)

/-- R195, CHANNELS, with the timings of R23. -/
def ChannelsSection.default : ChannelsSection := ⟨channelNumbers.map ChannelSettings.default, [], 20, 5, 10, 60⟩

/-- R195, CURTAIN: the defaults of R71's table. -/
def CurtainSection.default : CurtainSection := ⟨20000, 10, 20, 30, 10, 1, 10, 30, 1, allAreas⟩

/-- R195, a lamp channel: unit (n − 1) / 8 + 1, output (n − 1) mod 8 + 1, HOUSE, rest level 100. -/
def LampSettings.default (n : Nat) : LampSettings := ⟨n, (n - 1) / 8 + 1, (n - 1) % 8 + 1, .house, 100⟩

/-- The phases of the phase preset map (R102). -/
def presetPhases : List Phase := [.dark, .prepare, .houseOpen, .inShow, .showStop, .interval, .showOut]

/-- R195, LIGHTS. -/
def LightsSection.default : LightsSection :=
  ⟨lampNumbers.map LampSettings.default, channelNumbers.map (⟨·, none⟩), presetPhases.map (⟨·, none⟩), 20⟩

/-- R195, CALLS: the unit at address a (9 to 24) serves area a − 9 and accepts all-areas calls; no plan entry used. -/
def CallsSection.default : CallsSection :=
  ⟨(List.range 16).map (fun k => ⟨k + 9, k, true⟩), List.replicate 6 none, List.replicate 6 none⟩

/-- R195, the expected kind of an address: 1 to 8 LAMP, 9 to 24 CALL, 25 to 31 NONE. -/
def LoopRowSettings.default (a : Nat) : LoopRowSettings :=
  ⟨a, if a ≤ 8 then .lamp else if a ≤ 24 then .call else .none, .reissue⟩

/-- R195, LOOP, with the lanes, periods and window of R156. -/
def LoopSection.default : LoopSection :=
  ⟨loopAddresses.map LoopRowSettings.default, .urgent, .ordinary, .ordinary, .ordinary, .ordinary, 250, 10, 4⟩

/-- R185, the Stage defaults. -/
def Subscriptions.stageDefault : Subscriptions :=
  ⟨true, true, true, true, true, true, true, true, true, true, true⟩

/-- R185, the Front defaults. -/
def Subscriptions.frontDefault : Subscriptions :=
  ⟨true, true, true, false, true, true, false, false, false, true, true⟩

/-- R195, PORTS. -/
def PortsSection.default : PortsSection := ⟨true, .stageDefault, .frontDefault, 900, 300⟩

/-- R195, PERFORMANCE. -/
def PerformanceSection.default : PerformanceSection := ⟨true⟩

/-- The built-in defaults of every section (R195). -/
def Settings.default : Settings :=
  ⟨.default, .default, .default, .default, .default, .default, .default, .default⟩

/-- Whether a port subscribes to a family (R185). -/
def Subscriptions.get (u : Subscriptions) : Family → Bool
  | .phase => u.phase
  | .clearance => u.clearance
  | .countdown => u.countdown
  | .channel => u.channel
  | .curtain => u.curtain
  | .call => u.call
  | .loop => u.loop
  | .store => u.store
  | .faultNote => u.faultNote
  | .faultMajor => u.faultMajor
  | .faultCritical => u.faultCritical

/-- One family set to yes or no (R185). -/
def Subscriptions.set (u : Subscriptions) (f : Family) (v : Bool) : Subscriptions :=
  match f with
  | .phase => { u with phase := v }
  | .clearance => { u with clearance := v }
  | .countdown => { u with countdown := v }
  | .channel => { u with channel := v }
  | .curtain => { u with curtain := v }
  | .call => { u with call := v }
  | .loop => { u with loop := v }
  | .store => { u with store := v }
  | .faultNote => { u with faultNote := v }
  | .faultMajor => { u with faultMajor := v }
  | .faultCritical => { u with faultCritical := v }

/-- A port's subscription set (R185). -/
def PortsSection.subs (v : PortsSection) : Port → Subscriptions
  | .stage => v.stageSubs
  | .front => v.frontSubs

/-- A port's subscription set replaced (R185). -/
def PortsSection.setSubs (v : PortsSection) (p : Port) (u : Subscriptions) : PortsSection :=
  match p with
  | .stage => { v with stageSubs := u }
  | .front => { v with frontSubs := u }

/-- The lane a class of the class-to-lane map has (R156). -/
def LoopSection.lane (v : LoopSection) : LaneClass → Lane
  | .curtain => v.laneCurtain
  | .light => v.laneLight
  | .staff => v.laneStaff
  | .showing => v.laneShow
  | .courtesy => v.laneCourtesy

/-- The zone record of a zone (R43). A zone with no record reads as the default one. -/
def Settings.zone (s : Settings) (n : Nat) : ZoneSettings :=
  (s.zones.zones.find? (·.num == n)).getD (ZoneSettings.default n)

/-- The configured record of a channel (R23). -/
def Settings.channel (s : Settings) (n : Nat) : ChannelSettings :=
  (s.channels.channels.find? (·.num == n)).getD (ChannelSettings.default n)

/-- The configured record of a lamp channel (R101). -/
def Settings.lamp (s : Settings) (n : Nat) : LampSettings :=
  (s.lights.lamps.find? (·.num == n)).getD (LampSettings.default n)

/-- A preset's value, none while undefined (R102). -/
def Settings.preset (s : Settings) (n : Nat) : Option Preset :=
  (s.lights.presets.find? (·.num == n)).bind (·.value)

/-- The preset that the phase preset map names for a phase (R102). -/
def Settings.phasePreset (s : Settings) (p : Phase) : Option Nat :=
  (s.lights.phasePresets.find? (·.phase == p)).bind (·.preset)

/-- What the CALLS section holds for an address (R122). -/
def Settings.callUnit (s : Settings) (a : Nat) : Option CallUnitSettings := s.calls.units.find? (·.address == a)

/-- What the LOOP section expects at an address (R156). -/
def Settings.loopRow (s : Settings) (a : Nat) : LoopRowSettings :=
  (s.loop.rows.find? (·.address == a)).getD ⟨a, .none, .reissue⟩

/-- Whether a zone is isolated (R43). -/
def Settings.zoneIsolated (s : Settings) (z : Nat) : Bool := s.channels.isolatedZones.contains z

/-- R23: a channel is isolated in effect when its own field or its zone's attribute says so. -/
def Settings.isolatedInEffect (s : Settings) (ch : Nat) : Bool :=
  (s.channel ch).isolated || s.zoneIsolated (s.channel ch).zone

/-- R43: the channels of a zone are those whose zone field names it and whose type is not NOT_USED, in ascending order. -/
def Settings.channelsOf (s : Settings) (z : Nat) : List Nat :=
  (s.channels.channels.filter (fun c => c.zone == z && c.type != .notUsed)).map (·.num)

/-- The call plan of a countdown (R129). -/
def Settings.plan (s : Settings) : PlanName → List (Option PlanEntry)
  | .house => s.calls.housePlan
  | .interval => s.calls.intervalPlan

end Sys2Proof.Machine
end

