-- ==== Sys2Proof/Machine/State.lean ====
section
/-! DEFINITION. The state of the RZS-840 as plain data: one structure per block, and the state after reset. -/

namespace Sys2Proof.Machine

/-! ## Time and lines -/

/-- Where start-up stands (R195): up to and with the survey, the scanner begun, the curtain resolved, uptime counting. -/
inductive StartStep
  | survey
  | scanner
  | curtain
  | done
deriving DecidableEq, Repr

/-- The model's own clock, in steps of 0.1 ms (log entry 5): the present as the events have told it, and when uptime, the fade engine and
the flash clock last moved. It runs on through every reset but power-on. -/
structure Clock where
  now : Nat
  second : Nat
  fade : Nat
  flash : Nat
deriving DecidableEq, Repr

/-- The input lines (00_scope.md, Lines). A broken beam is `true`. `lastStepAt` is when the last encoder step was sensed, by the model's
clock (R76, R99; log entry 13). -/
structure Lines where
  limitTop : Bool
  limitBottom : Bool
  beamUs : Bool
  beamDs : Bool
  emergRelease : Bool
  encA : Bool
  encB : Bool
  strapFast : Bool
  lastStepAt : Option Nat
deriving DecidableEq, Repr

/-- R79: the setting line is obstructed while either beam is broken. -/
def Lines.obstructed (l : Lines) : Bool := l.beamUs || l.beamDs

/-! ## Performance record (R1) -/

/-- The performance record (R1). A countdown is its seconds remaining. The display required field follows the working setting and is held
there. -/
structure PerfRecord where
  phase : Phase
  enteredAt : Nat
  number : Nat
  act : Option Nat
  displayDone : Bool
  stageClearance : Option Nat
  houseClearance : Option Nat
  houseCountdown : Option Nat
  intervalCountdown : Option Nat
deriving DecidableEq, Repr

/-! ## Scanner (R23, R32) -/

inductive Band
  | openBand
  | normal
  | prealarm
  | alarm
  | short
deriving DecidableEq, Repr

inductive ChannelState
  | normal
  | prealarm
  | alarm
  | openState
  | short
  | blanked
  | verifying
  | notUsed
deriving DecidableEq, Repr

inductive CutPurpose
  | loopReset
  | verification
deriving DecidableEq, Repr

inductive CutStep
  | off
  | blanking
  | recoveryCheck
  | window
deriving DecidableEq, Repr

/-- A supply operation in progress (R23). `visits` counts the visits of a recovery check (R32). -/
structure Cut where
  purpose : CutPurpose
  step : CutStep
  endsAt : Option Nat
  visits : Nat
deriving DecidableEq, Repr

inductive WiringFault
  | openLoop
  | shortLoop
deriving DecidableEq, Repr

/-- A channel's own record (R23); the configured fields are in the CHANNELS section. -/
structure ChannelRecord where
  num : Nat
  state : ChannelState
  firstPending : Bool
  lastReading : Option Byte
  candidate : Option Band
  run : Nat
  windowBand : Option Band
  supply : Bool
  cut : Option Cut
  alarmReported : Bool
  loopFault : Option WiringFault
  unconfirmed : Nat
deriving DecidableEq, Repr

inductive ResetPurpose
  | standDown (zone : Nat)
  | alarmReset
deriving DecidableEq, Repr

/-- A loop-reset claim (R32). `setAside` is the Alarm Unit's mark of a stand-down claim whose entry an alarm reset has removed: its result is
set aside (R56). -/
structure ResetClaim where
  purpose : ResetPurpose
  channels : List Nat
  outstanding : List Nat
  inAlarm : List Nat
  setAside : Bool
deriving DecidableEq, Repr

/-- The mark on a confirmed alarm (R35, R37). -/
inductive AlarmMark
  | plain
  | verified
  | abandoned
deriving DecidableEq, Repr

/-- What the Scanner hands the Alarm Unit (R28, R32, R35, R37). -/
inductive ScanReport
  | alarm (channel : Nat) (zone : Nat) (type : ChannelType) (mark : AlarmMark)
  | outOfAlarm (channel : Nat) (zone : Nat)
  | result (purpose : ResetPurpose) (inAlarm : List Nat)
deriving DecidableEq, Repr

/-- The Input Scanner (R23, R25, R32). `path` is the channel switched to; `heldReports` are those of R195 step 4. -/
structure Scanner where
  channels : List ChannelRecord
  claims : List ResetClaim
  path : Option Nat
  scanning : Bool
  heldReports : List ScanReport
deriving DecidableEq, Repr

/-! ## Alarm Unit (R45) -/

/-- The stage of an entry with the deadline or time it carries (R45). -/
inductive AlarmStage
  | staffAlert (ackDeadline : Nat)
  | investigating (deadline : Nat)
  | standingDown
  | general (since : Nat)
deriving DecidableEq, Repr

/-- The stage's name alone. -/
inductive StageName
  | staffAlert
  | investigating
  | standingDown
  | general
deriving DecidableEq, Repr

def AlarmStage.name : AlarmStage → StageName
  | .staffAlert _ => .staffAlert
  | .investigating _ => .investigating
  | .standingDown => .standingDown
  | .general _ => .general

/-- An alarm entry (R45). -/
structure AlarmEntry where
  zone : Nat
  opening : Option Nat
  channels : List Nat
  stage : AlarmStage
  acked : Option Port
  raisedAt : Nat
  staffOrder : Option Nat
deriving DecidableEq, Repr

inductive SounderState
  | off
  | sounding
  | silenced
deriving DecidableEq, Repr

/-- An alarm reset in progress (R67). -/
structure AlarmReset where
  channels : List Nat
  disturbed : Bool
deriving DecidableEq, Repr

/-- The Alarm Unit (R45, R59, R64). `lastShown` is the zone and stage of the presented entry as last noticed (R62). -/
structure AlarmUnit where
  entries : List AlarmEntry
  sounder : SounderState
  relay : Bool
  evacOrder : Option Nat
  resetting : Option AlarmReset
  lastShown : Option (Nat × StageName)
deriving DecidableEq, Repr

/-! ## Curtain (R71) -/

inductive CurtainState
  | up
  | lowering
  | raising
  | dropping
  | down
  | halted
  | faultLocked
deriving DecidableEq, Repr

inductive DropCause
  | release
  | graceEnd
  | emergency
  | test
  | startUp
deriving DecidableEq, Repr

/-- The drop record (R71). `shortest` is the shortest step interval seen (R84); `overdueTaken` says that the drop limit has passed. -/
structure Drop where
  cause : DropCause
  startedAt : Nat
  overdueAt : Nat
  overspeed : Bool
  shortest : Option Nat
  overdueTaken : Bool
deriving DecidableEq, Repr

inductive ReleaseTimer
  | idle
  | running (endsAt : Nat)
  | grace (endsAt : Nat)
deriving DecidableEq, Repr

inductive DisplayStep
  | announcing
  | lowering
  | dwell (endsAt : Nat)
  | raising
deriving DecidableEq, Repr

/-- The Curtain Controller (R71, R72, R94). `motionWatch` is when a stall will be declared, by the model's clock (log entry 4). -/
structure Curtain where
  state : CurtainState
  resolved : Bool
  position : Option Nat
  lastInterval : Option Nat
  motionWatch : Option Nat
  drop : Option Drop
  timer : ReleaseTimer
  holdsUsed : Nat
  display : Option DisplayStep
  announcement : Option Nat
  faultsHeld : List FaultKind
  flashed : List Nat
  hold : Bool
  driveDown : Bool
  driveUp : Bool
deriving DecidableEq, Repr

/-! ## Light Engine (R101, R113) -/

/-- A claim on a lamp channel: a level and a fade time in tenths of a second. -/
structure LevelClaim where
  level : Nat
  fade : Nat
deriving DecidableEq, Repr

inductive LampTarget
  | level (n : Nat)
  | flash
deriving DecidableEq, Repr

/-- A fade in progress, times in ms (R111). -/
structure Fade where
  start : Nat
  goal : Nat
  duration : Nat
  elapsed : Nat
deriving DecidableEq, Repr

/-- The traffic classes of the Light Engine (R104). -/
inductive TrafficClass
  | safety
  | curtain
  | light
deriving DecidableEq, Repr

/-- A lamp channel's own record (R101); the configured fields are in the LIGHTS section. -/
structure Lamp where
  num : Nat
  safety : Option LevelClaim
  curtain : Bool
  manual : Option LevelClaim
  cue : Option LevelClaim
  target : LampTarget
  current : Nat
  fade : Option Fade
  sent : Option Nat
  placed : Bool
deriving DecidableEq, Repr

/-- The refresh state of a lamp unit with its class and changed since issue (R113). -/
inductive RefreshState
  | clean
  | dirty (cls : TrafficClass)
  | queued (cls : TrafficClass) (changed : Option TrafficClass)
deriving DecidableEq, Repr

/-- A unit record of the Light Engine (R113). -/
structure LightUnit where
  address : Nat
  present : Bool
  outputs : Nat
  refresh : RefreshState
  retryUsed : Bool
deriving DecidableEq, Repr

/-- The Light Engine (R101, R106, R113). `lit` is the half of the flash clock. -/
structure Light where
  lamps : List Lamp
  units : List LightUnit
  waiting : List Nat
  lit : Bool
deriving DecidableEq, Repr

/-! ## Call Controller (R123, R124) -/

inductive CallOrigin
  | stage
  | front
  | sequencer
  | alarm
  | curtain
deriving DecidableEq, Repr

inductive OrderState
  | waiting
  | due (since : Nat)
  | sounding (since : Nat) (serial : Nat)
deriving DecidableEq, Repr

/-- A call order (R124). `id` tells duplicates apart (log entry 16). -/
structure Order where
  id : Nat
  tag : Nat
  origin : CallOrigin
  cls : CallClass
  kind : CallKind
  target : Target
  repeats : Repeats
  anchor : Anchor
  offset : Option Nat
  state : OrderState
  done : Nat
  withdrawn : Bool
  missing : List Nat
deriving DecidableEq, Repr

inductive CallOutcome
  | done
  | failed
  | cut
  | withdrawn
  | discarded
deriving DecidableEq, Repr

/-- A row of the reachable table (R123). -/
structure ReachableRow where
  address : Nat
  area : Nat
  acceptsAll : Bool
deriving DecidableEq, Repr

/-- A repetition: its expected set, with each unit's area as it stood when the repetition was opened (R141), the units still awaited,
and when its time limit ends; none while its CALL has not been sent (R132). -/
structure Repetition where
  expected : List ReachableRow
  awaited : List Nat
  limitAt : Option Nat
deriving DecidableEq, Repr

/-- The Call Controller (R123, R124, R128, R132). -/
structure Calls where
  queue : List Order
  repetition : Option Repetition
  nextSerial : Nat
  reachable : List ReachableRow
  houseValue : Option Nat
  intervalValue : Option Nat
  nextId : Nat
deriving DecidableEq, Repr

/-! ## Supervision (R142) -/

inductive Severity
  | note
  | major
  | critical
deriving DecidableEq, Repr

inductive FaultState
  | active
  | cleared
deriving DecidableEq, Repr

/-- An entry of the fault list (R142). -/
structure FaultEntry where
  source : FaultSource
  kind : FaultKind
  severity : Severity
  state : FaultState
  acked : Bool
  firstSeen : Nat
  occurrences : Nat
deriving DecidableEq, Repr

/-- Supervision (R143, R150). `relay` is TROUBLE_RELAY, true while energised. -/
structure Supervision where
  entries : List FaultEntry
  lost : Nat
  relay : Bool
deriving DecidableEq, Repr

/-! ## Loop Master (R156, R157, R160) -/

/-- A row of the unit table (R156); expected kind and issue mode are in the LOOP section. `nextPoll` is the next poll due, by the model's
clock (R165; log entry 18). -/
structure UnitRow where
  address : Nat
  found : UnitKind
  present : Bool
  room : Room
  misses : Nat
  checkErrors : Nat
  outputs : Option Nat
  area : Option Nat
  lastSerial : Nat
  progress : CallProgress
  nextPoll : Option Nat
  faultsHeld : List FaultKind
deriving DecidableEq, Repr

/-- The fields of a CALL broadcast (R159) with its order's class. -/
structure CallBroadcast where
  serial : Nat
  cls : CallClass
  kind : CallKind
  target : Target
deriving DecidableEq, Repr

/-- A piece of loop work (R160). -/
inductive Work
  | set (address : Nat) (cls : TrafficClass)
  | call (b : CallBroadcast)
  | cancel (serials : List Nat)
deriving DecidableEq, Repr

/-- An item of a lane, with its being-sent mark (R160). -/
structure LaneItem where
  work : Work
  sending : Bool
deriving DecidableEq, Repr

/-- Which survey a probe belongs to (R171 to R177). -/
inductive ProbeKind
  | survey
  | sweep
  | reprobe
deriving DecidableEq, Repr

/-- The work now on the loop (R157). A POLL carries the kind expected at its address and the time when it began (R158, R165). -/
inductive Transaction
  | poll (address : Nat) (kind : UnitKind) (began : Nat)
  | set (address : Nat) (levels : List Nat) (held : Bool)
  | read (address : Nat) (levels : List Nat)
  | probe (address : Nat) (kind : ProbeKind)
  | broadcast
deriving DecidableEq, Repr

inductive SurveyCause
  | startUp
  | retrain
deriving DecidableEq, Repr

/-- A survey in progress (R157, R172). `attempts` counts the probes already made at the next address. -/
structure Survey where
  cause : SurveyCause
  next : Nat
  attempts : Nat
  retrains : Nat
deriving DecidableEq, Repr

inductive LoopState
  | starting
  | running
deriving DecidableEq, Repr

inductive LoopRate
  | fast
  | slow
deriving DecidableEq, Repr

/-- The Loop Master (R156, R157, R160, R173, R177). `drives` is HL_DIR (log entry 26). `windowAt` is the earliest end of the reply window of
the transaction last begun, by the model's clock (R158; log entry 5). -/
structure Loop where
  rows : List UnitRow
  state : LoopState
  rate : LoopRate
  transaction : Option Transaction
  windowAt : Nat
  survey : Option Survey
  sweepPosition : Nat
  sweepDue : Bool
  reprobes : List Nat
  periodBegan : Nat
  periodLength : Nat
  checkErrors : Nat
  urgent : List LaneItem
  ordinary : List LaneItem
  roomOwed : Bool
  drives : Bool
deriving DecidableEq, Repr

/-! ## Notices -/

inductive PhaseCause
  | stage
  | front
  | alarm
  | curtain
  | startUp
deriving DecidableEq, Repr

inductive ClearanceEvent
  | given
  | refreshed
  | withdrawn
  | lapsed
  | consumed
  | cleared
deriving DecidableEq, Repr

inductive CountdownEvent
  | set
  | extended
  | cleared
  | curtainUpDue
  | intervalEndDue
deriving DecidableEq, Repr

inductive ChannelEvent
  | state
  | cut
  | unconfirmed (count : Nat)
  | verified
  | isolated
  | restored
deriving DecidableEq, Repr

inductive CurtainCause
  | lower
  | raise
  | stop
  | display
  | faultCleared
  | creep
  | leftBottom
  | obstructed
  | stall
  | limitConflict
  | bottomLimit
  | topLimit
  | drop (cause : DropCause)
  | startUp
deriving DecidableEq, Repr

inductive AbandonReason
  | alarm
  | curtain
  | phase
  | obstructed
  | stop
  | fault
  | drop
  | reset
deriving DecidableEq, Repr

inductive FaultEvent
  | raised
  | recurred
  | cleared
  | acknowledged
  | displaced
deriving DecidableEq, Repr

/-- The lists of a "survey done" notice (R172, R174). -/
structure SurveyLists where
  present : List Nat
  missing : List Nat
  mismatched : List Nat
  unexpected : List Nat
deriving DecidableEq, Repr

/-- The notices of the ten blocks, each with the fields that its rule names. Where the rule names none (CLEARANCE, COUNTDOWN, ALARM DONE
"reset", and of CURTAIN "drop overdue", "release not needed", "release stood down", "release overtaken", "display started", "display down",
"display complete"), the fields here are the model's choice (log entry 36): the clearance with its event and the uptime; the countdown with
its event and its seconds (R20 names them for "extended" alone); and for the others the event alone. -/
inductive Notice
  | phase (new : Phase) (previous : Option Phase) (cause : PhaseCause) (number : Nat) (act : Option Nat) (uptime : Nat)
  | clearance (which : ClearanceName) (event : ClearanceEvent) (uptime : Nat)
  | countdown (which : CountdownName) (event : CountdownEvent) (seconds : Nat)
  | channel (num : Nat) (zone : Nat) (new previous : ChannelState) (reading : Option Byte) (uptime : Nat) (event : ChannelEvent) (mark : AlarmMark)
  | alarmPresented (zone : Nat) (area : AreaKind) (stage : StageName) (opening : Option Nat) (channels : Nat) (raisedAt : Nat) (generalAt : Option Nat) (entries unacknowledged : Nat)
  | alarmAcknowledged (zone : Nat) (stage : StageName) (port : Port)
  | alarmSilenced (port : Port)
  | alarmStoodDown (zone : Nat) (uptime : Nat)
  | alarmReset
  | alarmResetFailed (inAlarm : List Nat) (disturbed : Bool)
  | curtainChange (new : CurtainState) (previous : Option CurtainState) (cause : CurtainCause) (position : Option Nat) (uptime : Nat)
  | settingLine (beamUs beamDs : Bool) (uptime : Nat)
  | dropComplete (seconds : Nat) (shortest : Option Nat)
  | dropOverdue
  | releaseStarted (zone : Nat) (holdOff : Nat)
  | releaseNotNeeded
  | releaseHeld (holdsUsed : Nat) (secondsLeft : Nat)
  | releaseExpired (obstructed : Bool)
  | releaseStoodDown
  | releaseOvertaken
  | displayStarted
  | displayDown
  | displayComplete
  | displayAbandoned (step : DisplayStep) (reason : AbandonReason)
  | callSounding (origin : CallOrigin) (tag : Nat) (cls : CallClass) (kind : CallKind) (serial repetition : Nat) (areas : List Nat)
  | callOutcome (outcome : CallOutcome) (origin : CallOrigin) (tag : Nat) (cls : CallClass) (kind : CallKind) (done : Nat) (missing : List Nat)
  | planEntryNotPlaced (plan : PlanName) (entry : Nat)
  | fault (event : FaultEvent) (entry : FaultEntry) (removed : Bool) (ackedBy : Option Port) (uptime held lost : Nat) (relay : Bool)
  | faultLost (source : FaultSource) (kind : FaultKind) (severity : Severity) (held lost : Nat) (relay : Bool)
  | faultLostReset (held lost : Nat) (relay : Bool)
  | unitPresent (address : Nat) (kind : UnitKind) (outputs area : Option Nat)
  | unitAbsent (address : Nat) (expected : UnitKind) (uptime : Nat)
  | kindMismatch (address : Nat) (expected : UnitKind) (uptime : Nat)
  | unexpectedUnit (address : Nat)
  | rateFast
  | rateSlow (address : Nat)
  | surveyDone (cause : SurveyCause) (retrains : Nat) (lists : SurveyLists)
  | storeDone (name : SectionName) (uptime : Nat)
  | storeAborted (name : SectionName) (zone : Nat)
deriving DecidableEq, Repr

/-! ## Replies (R181) -/

/-- The refusal reasons of R181. -/
inductive Reason
  | notPermitted | wrongPhase | invalid | busy | full
  | obstructed | curtainCommitted | curtainNotUp | curtainMoving | tooLate | holdLimit
  | zoneInAlarm | notPresented | notAcknowledged | notAllAcknowledged | alarmPresent
  | criticalFault | noClearance | displayOutstanding | actLimit | badTransition
  | nothingMoving | nothingToWithdraw | noSuchOrder | unknownKind
deriving DecidableEq, Repr

/-- The items of a status reply from the first one named, with how many were not carried (R181). -/
structure Page (α : Type) where
  first : Nat
  items : List α
  notCarried : Nat
deriving DecidableEq, Repr

structure PerformanceReply where
  record : PerfRecord
  displayRequired : Bool
  stageLeft : Option Nat
  houseLeft : Option Nat
  frontFitted : Bool
  intervalLength : Nat
  clearanceLife : Nat
deriving DecidableEq, Repr

structure ChannelReply where
  settings : ChannelSettings
  record : ChannelRecord
  ownIsolated : Bool
  zoneIsolated : Bool
  secondsLeft : Option Nat
  visitsNeeded : Option Nat
deriving DecidableEq, Repr

structure AlarmListReply where
  entries : Page (AlarmEntry × Option Nat)
  presented : Option Nat
  sounder : SounderState
  relay : Bool
  evacHeld : Bool
  resetting : Option AlarmReset
deriving DecidableEq, Repr

/-- R86. `motionLeft` is in steps of 0.1 ms, the other times in seconds. -/
structure CurtainReply where
  record : Curtain
  lines : Lines
  motionLeft : Option Nat
  timerLeft : Option Nat
  dwellLeft : Option Nat
  dropLeft : Option Nat
deriving DecidableEq, Repr

/-- An item of LIGHT STATUS (R121, R181): a channel with its settings and the time left of its fade in ms, a unit record, or an address
of the waiting list. -/
inductive LightItem
  | lamp (settings : LampSettings) (record : Lamp) (timeLeft : Option Nat)
  | unit (u : LightUnit)
  | waiting (address : Nat)
deriving DecidableEq, Repr

structure LightReply where
  items : Page LightItem
  lit : Bool
deriving DecidableEq, Repr

/-- An item of CALL STATUS (R140, R181): an order, a row of the reachable table, or an entry of a call plan. -/
inductive CallItem
  | order (o : Order)
  | reachable (r : ReachableRow)
  | planEntry (plan : PlanName) (number : Nat) (e : Option PlanEntry)
deriving DecidableEq, Repr

/-- R140. `line` names the order that holds the line by its tag (log entry 33). -/
structure CallsReply where
  items : Page CallItem
  repetition : Option Repetition
  secondsLeft : Option Nat
  line : Option Nat
  nextSerial : Nat
deriving DecidableEq, Repr

structure FaultsReply where
  entries : Page FaultEntry
  lost : Nat
  relay : Bool
  stageSubs : List Bool
  frontSubs : List Bool
deriving DecidableEq, Repr

/-- An item of UNIT TABLE (R176, R181): a row with its settings, an item of a lane, or an entry of the class-to-lane map. -/
inductive UnitItem
  | row (settings : LoopRowSettings) (record : UnitRow)
  | urgent (i : LaneItem)
  | ordinary (i : LaneItem)
  | lane (c : LaneClass) (l : Lane)
deriving DecidableEq, Repr

structure UnitsReply where
  items : Page UnitItem
  state : LoopState
  rate : LoopRate
  busy : Bool
  survey : Option Survey
  sweepPosition : Nat
  checkErrors : Nat
  secondsLeft : Nat
  pollPeriod : Nat
  surveyPeriod : Nat
  replyWindow : Nat
deriving DecidableEq, Repr

/-- The step of a request in an intake (R182). -/
inductive IntakeStep
  | waiting
  | withOwner
  | replyQueued
deriving DecidableEq, Repr

/-- A request in an intake (R182). `answer` is the refusal the Port Unit itself gives it in its turn (R180). -/
structure IntakeEntry where
  tag : Tag
  kind : FrameKind
  step : IntakeStep
  answer : Option Reason
deriving DecidableEq, Repr

inductive FlowNotice
  | holdOff
  | resume
deriving DecidableEq, Repr

/-- A flow notice with the intake fill and the dropped-notice count that it carries (R178, R183, R184; log entry 29). -/
structure PendingFlow where
  notice : FlowNotice
  fill : Nat
  dropped : Nat
deriving DecidableEq, Repr

/-- What a frame waiting in an output queue is, as PORT STATUS lists it (R186). -/
inductive FrameSummary
  | reply (tag : Tag)
  | notice
deriving DecidableEq, Repr

structure PortReply where
  heldOff : Bool
  flow : Option PendingFlow
  refusals : Nat
  frameErrors : Nat
  dropped : Nat
  fullRefusals : Nat
  subscriptions : Subscriptions
deriving DecidableEq, Repr

/-- An item of PORT STATUS (R186, R181): a request of an intake, or a frame of an output queue. -/
inductive PortItem
  | request (p : Port) (e : IntakeEntry)
  | frame (p : Port) (f : FrameSummary)
deriving DecidableEq, Repr

structure PortsReply where
  items : Page PortItem
  stage : PortReply
  front : PortReply
  frontFitted : Bool
  strapFast : Bool
deriving DecidableEq, Repr

/-- One item of a section as GET CONFIG lists it (R181, R192): an entry, a row or a channel of one of its lists, with all its fields. -/
inductive SettingItem
  | zone (z : ZoneSettings)
  | channel (c : ChannelSettings)
  | zoneIsolated (zone : Nat)
  | lamp (l : LampSettings)
  | preset (x : PresetRow)
  | phasePreset (x : PhasePresetRow)
  | callUnit (x : CallUnitSettings)
  | planEntry (plan : PlanName) (number : Nat) (e : Option PlanEntry)
  | loopRow (x : LoopRowSettings)
  | lane (c : LaneClass) (l : Lane)
  | subscriptions (p : Port) (u : Subscriptions)
deriving DecidableEq, Repr

/-- The stored state of a section (R190). -/
inductive StoredState
  | valid
  | blank
  | defaulted
deriving DecidableEq, Repr

/-- R192. `fields` are the section's values that stand in no list; they are carried whatever the first item named (log entry 8). -/
structure ConfigReply where
  name : SectionName
  items : Page SettingItem
  fields : List ConfigField
  stored : StoredState
  changed : Bool
  storeRunning : Bool
deriving DecidableEq, Repr

structure IdentityReply where
  vendor : String
  family : String
  part : String
  revision : Nat
  strapFast : Bool
  port : Port
deriving DecidableEq, Repr

/-- The results a DONE reply carries (R181). -/
inductive ReplyBody
  | empty
  | performance (r : PerformanceReply)
  | channel (r : ChannelReply)
  | alarmList (r : AlarmListReply)
  | curtain (r : CurtainReply)
  | lights (r : LightReply)
  | withdrawn (count : Nat)
  | calls (r : CallsReply)
  | faults (r : FaultsReply)
  | units (r : UnitsReply)
  | subscriptions (u : Subscriptions)
  | ports (r : PortsReply)
  | identity (r : IdentityReply)
  | config (r : ConfigReply)
  | restart
deriving DecidableEq, Repr

/-- The three outcomes of R181. -/
inductive ReplyOutcome
  | done (body : ReplyBody)
  | accepted
  | refused (reason : Reason)
deriving DecidableEq, Repr

/-! ## Port Units (R182 to R184) -/

/-- A frame of the output queue; a notice begins with the dropped-notice count (R178, R184). -/
inductive OutFrame
  | reply (tag : Tag) (outcome : ReplyOutcome)
  | notice (dropped : Nat) (n : Notice)
deriving DecidableEq, Repr

/-- What the transmitter is sending (R184). -/
inductive Sending
  | flow (n : PendingFlow)
  | fullRefusal
  | queued
deriving DecidableEq, Repr

/-- The frame reader of R179. Every command of the table leaves it hunting. -/
inductive Reader
  | hunting
  | withinFrame
deriving DecidableEq, Repr

/-- A Port Unit (chapter 9). The subscriptions are in the PORTS section. -/
structure PortUnit where
  intake : List IntakeEntry
  refusals : List Tag
  flow : Option PendingFlow
  queue : List OutFrame
  sending : Option Sending
  heldOff : Bool
  reader : Reader
  frameErrors : Nat
  dropped : Nat
  fullRefusals : Nat
deriving DecidableEq, Repr

/-- The two Port Units. -/
structure Ports where
  stage : PortUnit
  front : PortUnit
deriving DecidableEq, Repr

/-! ## Settings Store (R190) -/

/-- What the non-volatile store holds for a section (R193 to R195). -/
inductive StoredCell
  | blank
  | unchecked
  | checked (v : SectionValue)
deriving DecidableEq, Repr

/-- One section's place in the Settings Store (R190). -/
structure StoreRow where
  name : SectionName
  cell : StoredCell
  stored : StoredState
  changed : Bool
deriving DecidableEq, Repr

/-- The store operation (R190). -/
structure StoreOperation where
  name : SectionName
  snapshot : SectionValue
  acceptedAt : Nat
deriving DecidableEq, Repr

/-- The Settings Store beside the working settings (R190). -/
structure Store where
  rows : List StoreRow
  operation : Option StoreOperation
deriving DecidableEq, Repr

/-! ## The state -/

/-- Why the machine stops. The manual gives no condition that stops the controller, so no command raises a reason of this type. -/
inductive Fault
  /-- Raised by no command. Safe: the model never stops. -/
  | never
deriving DecidableEq, Repr

/-- Why a command has no meaning. -/
inductive Refusal
  /-- Raised by an arm of `exec` whose command has no meaning yet. Safe. No arm is so at present. -/
  | notModelled (mnemonic : String)
deriving DecidableEq, Repr

/-- The whole controller, with the queue of waiting commands. -/
structure State where
  pending : List Instr
  resetHeld : Bool
  startStep : StartStep
  uptime : Nat
  clock : Clock
  freeCount : Nat
  lines : Lines
  settings : Settings
  store : Store
  perf : PerfRecord
  scanner : Scanner
  alarm : AlarmUnit
  curtain : Curtain
  light : Light
  calls : Calls
  sup : Supervision
  loop : Loop
  ports : Ports
deriving DecidableEq, Repr

/-! ## Reset values -/

/-- R2. -/
def PerfRecord.reset : PerfRecord := ⟨.dark, 0, 0, none, false, none, none, none, none⟩

/-- R24, for a channel in use. -/
def ChannelRecord.reset (n : Nat) : ChannelRecord :=
  ⟨n, .normal, true, none, none, 0, none, true, none, false, none, 0⟩

/-- R24, for one channel of the section as loaded. -/
def ChannelRecord.rebuilt (c : ChannelSettings) : ChannelRecord :=
  if c.type = .notUsed then { ChannelRecord.reset c.num with state := .notUsed, firstPending := false }
  else ChannelRecord.reset c.num

/-- R24. -/
def Scanner.rebuilt (v : ChannelsSection) : Scanner := ⟨v.channels.map ChannelRecord.rebuilt, [], none, false, []⟩

/-- R46. -/
def AlarmUnit.reset : AlarmUnit := ⟨[], .off, false, none, none, none⟩

/-- R99 before the resolution step: drives off, CURTAIN_HOLD released, the outputs of DROPPING (log entry 12). -/
def Curtain.unresolved : Curtain :=
  ⟨.dropping, false, none, none, none, none, .idle, 0, none, none, [], [], false, false, false⟩

/-- R103. -/
def Lamp.rebuilt (c : LampSettings) : Lamp :=
  ⟨c.num, none, false, none, none, .level c.rest, c.rest, none, none, false⟩

/-- R103. No unit record stands until a presence report makes one, so LIGHT STATUS lists none before (the model's choice, log entry 37: R103
rebuilds the unit records with every unit absent, and R113 gives a record only to an address that has been reported present). -/
def Light.rebuilt (v : LightsSection) : Light := ⟨v.lamps.map Lamp.rebuilt, [], [], true⟩

/-- R141. -/
def Calls.reset : Calls := ⟨[], none, 1, [], none, none, 0⟩

/-- R155. -/
def Supervision.reset : Supervision := ⟨[], 0, true⟩

/-- R157. -/
def UnitRow.reset (a : Nat) : UnitRow := ⟨a, .none, false, .room, 0, 0, none, none, 0, .idle, none, []⟩

/-- R157. No survey period runs while STARTING; until the first begins, period began at is 0 and the period's length is the survey period as
loaded (the model's choice, log entry 35: R157 gives neither). -/
def Loop.rebuilt (v : LoopSection) : Loop :=
  ⟨v.rows.map (fun r => UnitRow.reset r.address), .starting, .fast, none, 0, none, 31, false, [], 0, v.surveyPeriod, 0, [], [], false, false⟩

/-- R189. -/
def PortUnit.reset : PortUnit := ⟨[], [], none, [], none, false, .hunting, 0, 0, 0⟩

/-- The "section lost" entry of a section, made while uptime stands at 0 (R155, R195). -/
def sectionLostEntry (n : SectionName) : FaultEntry := ⟨.store n, .sectionLost, .critical, .active, false, 0, 1⟩

/-- The notices of the eight "section lost" faults, each with the list size after it and the relay released (R151, R155). -/
def sectionLostNotices : List OutFrame :=
  SectionName.all.zipIdx.map (fun p => .notice 0 (.fault .raised (sectionLostEntry p.1) false none 0 (p.2 + 1) 0 false))

/-- The controller just after reset: start-up steps 1 and 2 of R195 done on an empty non-volatile store, the start-up survey's first
probe on the loop, the first notice being sent on each port (log entry 1). -/
def State.reset : State where
  pending := []
  resetHeld := false
  startStep := .survey
  uptime := 0
  clock := ⟨0, 0, 0, 0⟩
  freeCount := 0
  lines := ⟨false, false, false, false, false, false, false, false, none⟩
  settings := .default
  store := ⟨SectionName.all.map (⟨·, .blank, .defaulted, true⟩), none⟩
  perf := .reset
  scanner := .rebuilt .default
  alarm := .reset
  curtain := .unresolved
  light := .rebuilt .default
  calls := .reset
  sup := ⟨SectionName.all.map sectionLostEntry, 0, false⟩
  loop := { Loop.rebuilt .default with survey := some ⟨.startUp, 1, 0, 0⟩, transaction := some (.probe 1 .survey), windowAt := 40 }
  ports :=
    ⟨{ PortUnit.reset with queue := sectionLostNotices, sending := some .queued },
     { PortUnit.reset with queue := sectionLostNotices, sending := some .queued }⟩

end Sys2Proof.Machine
end

