-- ==== Sys2Proof/Machine/LoopFrames.lean ====
section
/-! DEFINITION. The frames of the House Loop as bytes (R158, R159): the check, which the port frame shares, the layout, every frame that the controller sends, and the reading of the frame that a unit answers with. -/

namespace Sys2Proof.Machine

/-! ## The check -/

/-- One place of the cyclic check, generator x^16 + x^12 + x^5 + 1 (R158, R178; log entry 32). -/
def crcPlace (c : BitVec 16) : BitVec 16 := if c.msb then (c <<< 1) ^^^ 0x1021#16 else c <<< 1

/-- One byte taken into the check. -/
def crcByte (c : BitVec 16) (b : Byte) : BitVec 16 :=
  crcPlace (crcPlace (crcPlace (crcPlace (crcPlace (crcPlace (crcPlace (crcPlace (c ^^^ (b.zeroExtend 16 <<< 8)))))))))

/-- The check over a list of bytes, from a starting value of all ones (R158, R178). -/
def crc (l : List Byte) : BitVec 16 := l.foldl crcByte 0xFFFF#16

/-- The two check bytes, high byte first. -/
def checkBytes (l : List Byte) : List Byte := [(crc l).extractLsb' 8 8, (crc l).extractLsb' 0 8]

/-! ## The layout -/

/-- R158: the kind codes. -/
def loopKindCode : LoopKind → Nat
  | .poll => 1
  | .set => 2
  | .read => 3
  | .call => 4
  | .cancel => 5
  | .survey => 6
  | .other code => code

/-- R158: the kind of a code. -/
def loopKindOf : Nat → LoopKind
  | 1 => .poll
  | 2 => .set
  | 3 => .read
  | 4 => .call
  | 5 => .cancel
  | 6 => .survey
  | code => .other code

/-- R158: byte 2, with LAST, REPLY and GOOD in the most significant places and the place that is always 0 below them. -/
def loopFlags (last reply good : Bool) (k : LoopKind) : Byte :=
  BitVec.ofNat 8 ((if last then 128 else 0) + (if reply then 64 else 0) + (if good then 32 else 0) + loopKindCode k % 16)

/-- R158: bytes 1 to the last payload byte. -/
def loopBody (address : Nat) (flags : Byte) (payload : List Byte) : List Byte :=
  BitVec.ofNat 8 address :: flags :: BitVec.ofNat 8 payload.length :: payload

/-- R158: a loop frame. -/
def loopFrame (address : Nat) (flags : Byte) (payload : List Byte) : List Byte :=
  loopBody address flags payload ++ checkBytes (loopBody address flags payload)

/-! ## What the controller sends -/

/-- R158, R170: a frame of the controller, which never sets REPLY or GOOD. LAST is set in every one but the SET of a held exchange. -/
def controllerFrame (address : Nat) (last : Bool) (k : LoopKind) (payload : List Byte) : List Byte :=
  loopFrame address (loopFlags last false false k) payload

/-- The place of a call's kind in the list of R124. -/
def callKindPlace : CallKind → Nat
  | .chime _ => 0
  | .bell _ => 1
  | .message _ => 2
  | .staffCode _ => 3
  | .evac => 4

/-- R124, R159: the kind's number as a byte. EVAC has none, so its byte is a free value (log entry 7). -/
def callNumberByte : CallKind → Byte
  | .chime n | .bell n | .message n | .staffCode n => BitVec.ofNat 8 n
  | .evac => Config.noNumber

/-- R159: the payload of a CALL: serial, class, kind, the kind's number, base area, free mask, a byte each (log entry 7). -/
def callPayload (b : CallBroadcast) : List Byte :=
  [BitVec.ofNat 8 b.serial, Config.callClassCode b.cls, Config.callKindCode (callKindPlace b.kind), callNumberByte b.kind,
    BitVec.ofNat 8 b.target.base, BitVec.ofNat 8 b.target.mask]

/-- R158, R159: the frame of a CALL broadcast. -/
def callFrame (b : CallBroadcast) : List Byte := controllerFrame 0 true .call (callPayload b)

/-- R158, R159: the frame of a CANCEL broadcast. -/
def cancelFrame (serials : List Nat) : List Byte := controllerFrame 0 true .cancel (serials.map (BitVec.ofNat 8))

/-- R158, R159: the frame of the broadcast that an item of a lane is. A SET item is none: its levels are asked when it is issued (R166). -/
def broadcastFrame : Work → Option (List Byte)
  | .call b => some (callFrame b)
  | .cancel ns => some (cancelFrame ns)
  | .set _ _ => none

/-- R158, R159: the controller's frame of the transaction on the loop, absent when the loop is free. The broadcast is that of the item being
sent. -/
def Loop.controllerFrame (u : Loop) : Option (List Byte) :=
  match u.transaction with
  | none => none
  | some (.poll a _ _) => some (Machine.controllerFrame a true .poll [])
  | some (.set a levels held) => some (Machine.controllerFrame a (!held) .set (levels.map (BitVec.ofNat 8)))
  | some (.read a _) => some (Machine.controllerFrame a true .read [])
  | some (.probe a _) => some (Machine.controllerFrame a true .survey [])
  | some .broadcast => ((u.urgent ++ u.ordinary).find? (·.sending)).bind (fun i => broadcastFrame i.work)

end Sys2Proof.Machine

/-! ## What a unit answers -/

namespace Sys2Proof

/-- R158, byte 1: the address. -/
def LoopFrame.address (f : LoopFrame) : Nat := (f.bytes.getD 0 0).toNat

/-- R158, byte 2: the flags and the kind. LAST and the place that is always 0 are not judged (log entry 37). -/
def LoopFrame.flags (f : LoopFrame) : Byte := f.bytes.getD 1 0

/-- R158: whether REPLY is set. -/
def LoopFrame.reply (f : LoopFrame) : Bool := f.flags.getLsbD 6

/-- R158: whether GOOD is set. -/
def LoopFrame.good (f : LoopFrame) : Bool := f.flags.getLsbD 5

/-- R158: the kind. -/
def LoopFrame.kind (f : LoopFrame) : LoopKind := Machine.loopKindOf (f.flags.toNat % 16)

/-- R158, byte 3: the number of payload bytes that the frame announces. -/
def LoopFrame.length (f : LoopFrame) : Nat := (f.bytes.getD 2 0).toNat

/-- R158: whether the frame came to its full length, the check included. -/
def LoopFrame.complete (f : LoopFrame) : Bool := decide (f.length + 5 ≤ f.bytes.length)

/-- R158: the payload. What comes after the frame's length is discarded unread. -/
def LoopFrame.payload (f : LoopFrame) : List Byte := (f.bytes.drop 3).take f.length

/-- R158: whether the two bytes after the payload are the check of the bytes before them. -/
def LoopFrame.checkGood (f : LoopFrame) : Bool :=
  (f.bytes.drop (f.length + 3)).take 2 == Machine.checkBytes (f.bytes.take (f.length + 3))

/-- R159: what the payload reads as, by the kind of the frame, a byte for each field (log entry 7). -/
def LoopFrame.body (f : LoopFrame) : LoopBody :=
  match f.kind, f.word, f.payload with
  | .poll, .room r, [_] => .lampPoll r
  | .poll, .progress p, [serial, _] => .callPoll serial.toNat p
  | .set, .answer x, [_] => .setAnswer x
  | .read, _, levels => .levels (levels.map BitVec.toNat)
  | .survey, .unit k, [_, outputs, area] => .identity k outputs.toNat area.toNat
  | _, _, _ => .malformed

end Sys2Proof
end

