-- ==== Sys2Proof/Machine/Ops.lean ====
section
/-! DEFINITION. The operations every block uses: the model's clock (log entry 5), the Port Units' output queues (R180 to R185), Supervision's list (R144 to R151), and sets of numbers. -/

namespace Sys2Proof.Machine

/-! ## Lists and sets of numbers -/

/-- A number added to an ascending list without repeats. -/
def insertNum (n : Nat) : List Nat → List Nat
  | [] => [n]
  | m :: l => if n < m then n :: m :: l else if n = m then m :: l else m :: insertNum n l

/-- A number removed from a list. -/
def removeNum (n : Nat) (l : List Nat) : List Nat := l.filter (· != n)

/-- A kind of fault added to a block's faults held. -/
def insertKind (k : FaultKind) (l : List FaultKind) : List FaultKind := if l.contains k then l else l ++ [k]

/-- A kind of fault removed from a block's faults held. -/
def removeKind (k : FaultKind) (l : List FaultKind) : List FaultKind := l.filter (· != k)

/-- The items of a long reply that are carried, from the first one named (R181). How many fit is a free value (log entry 8). The number
not carried counts the items after those carried, and none of those before the first one named (the model's choice, log entry 36: R181
does not say). -/
def page {α : Type} (first free : Nat) (l : List α) : Page α :=
  let rest := l.drop first
  let carried := rest.take (Config.itemsThatFit free)
  ⟨first, carried, rest.length - carried.length⟩

/-! ## The model's clock -/

/-- The clock brought on to a time that an event has told, if it is not past it. -/
def Clock.reach (t : Nat) (c : Clock) : Clock := { c with now := max c.now t }

/-- 0.1 ms with no command. -/
def Clock.tick (c : Clock) : Clock := { c with now := c.now + 1 }

/-- One second since uptime last moved. -/
def Clock.secondPassed (c : Clock) : Clock := Clock.reach (c.second + 10000) { c with second := c.second + 10000 }

/-- 50 ms since the fade engine last moved (R111). -/
def Clock.fadePassed (c : Clock) : Clock := Clock.reach (c.fade + 500) { c with fade := c.fade + 500 }

/-- 0.5 s since the flash clock last moved (R106). -/
def Clock.flashPassed (c : Clock) : Clock := Clock.reach (c.flash + 5000) { c with flash := c.flash + 5000 }

/-- Uptime, the fade engine and the flash clock begin (R195). -/
def Clock.started (c : Clock) : Clock := { c with second := c.now, fade := c.now, flash := c.now }

def mapClock (f : Clock → Clock) (s : State) : State := { s with clock := f s.clock }

/-! ## The Port Units -/

/-- A port's Port Unit. -/
def State.port (s : State) : Port → PortUnit
  | .stage => s.ports.stage
  | .front => s.ports.front

/-- The Port Units with one of them replaced. -/
def Ports.put (q : Ports) (p : Port) (u : PortUnit) : Ports :=
  match p with
  | .stage => { q with stage := u }
  | .front => { q with front := u }

/-- The state with one Port Unit changed. -/
def State.mapPort (s : State) (p : Port) (f : PortUnit → PortUnit) : State :=
  { s with ports := s.ports.put p (f (s.port p)) }

def OutFrame.isNotice : OutFrame → Bool
  | .reply _ _ => false
  | .notice _ _ => true

/-- R184: notices may fill at most 12 places of the output queue. -/
def PortUnit.noticeCount (u : PortUnit) : Nat := (u.queue.filter OutFrame.isNotice).length

/-- R184: a notice that finds 12 notices in the queue is dropped and counted; another joins the tail with the count as it stands. -/
def PortUnit.placeNotice (n : Notice) (u : PortUnit) : PortUnit :=
  if 12 ≤ u.noticeCount then { u with dropped := satSucc 65535 u.dropped }
  else { u with queue := u.queue ++ [.notice u.dropped n] }

/-- R188: no notice is placed on the Front Port while it is not fitted. -/
def State.portOpen (s : State) : Port → Bool
  | .stage => true
  | .front => s.settings.ports.frontFitted

/-- A notice placed on one port whatever its subscriptions (R185: ALARM notices). -/
def placeAlways (p : Port) (n : Notice) (s : State) : State :=
  if s.portOpen p then s.mapPort p (PortUnit.placeNotice n) else s

/-- R185: a notice of a family is placed on a port only while the port subscribes to the family. -/
def placeOn (p : Port) (f : Family) (n : Notice) (s : State) : State :=
  if (s.settings.ports.subs p).get f then placeAlways p n s else s

/-- A notice of a family to both ports. The notices that different blocks make in one event stand in the order in which the hand-offs of the
event reach those blocks (the model's choice, log entry 36: R184 lets them be placed in whichever order they arrive). -/
def notify (f : Family) (n : Notice) (s : State) : State := placeOn .front f n (placeOn .stage f n s)

/-- A notice to both ports whatever their subscriptions. -/
def notifyAlways (n : Notice) (s : State) : State := placeAlways .front n (placeAlways .stage n s)

/-- R180: the Port Unit's own answers, each given in its turn once the requests before it have been answered. Gives the intake after
them and the replies placed. -/
def answerOwn : List IntakeEntry → List IntakeEntry × List OutFrame
  | [] => ([], [])
  | e :: l =>
    match e.step, e.answer with
    | .replyQueued, _ => ((e :: (answerOwn l).1), (answerOwn l).2)
    | .waiting, some r =>
      ({ e with step := .replyQueued } :: (answerOwn l).1, OutFrame.reply e.tag (.refused r) :: (answerOwn l).2)
    | .waiting, none => (e :: l, [])
    | .withOwner, _ => (e :: l, [])

/-- The Port Unit with its own answers given (R180). -/
def PortUnit.answerOwn (u : PortUnit) : PortUnit :=
  { u with intake := (Machine.answerOwn u.intake).1, queue := u.queue ++ (Machine.answerOwn u.intake).2 }

/-- The request with its owner that carries the tag moves to REPLY QUEUED (R182). -/
def markAnswered (tag : Tag) : List IntakeEntry → List IntakeEntry
  | [] => []
  | e :: l => if e.step = .withOwner ∧ e.tag = tag then { e with step := .replyQueued } :: l else e :: markAnswered tag l

/-- Whether a request that carries the tag is with its owner (R182). -/
def PortUnit.owes (tag : Tag) (u : PortUnit) : Bool := u.intake.any (fun e => e.step == .withOwner && e.tag == tag)

/-- R181, R182: an owner's reply joins the output queue and its request moves to REPLY QUEUED; then the Port Unit's own answers that
waited for it are given. Every reply answers a request that is with its owner. -/
def PortUnit.placeReply (tag : Tag) (o : ReplyOutcome) (u : PortUnit) : PortUnit :=
  if u.owes tag then PortUnit.answerOwn { u with queue := u.queue ++ [.reply tag o], intake := markAnswered tag u.intake } else u

/-- A reply placed on a port (log entry 6). -/
def reply (p : Port) (tag : Tag) (o : ReplyOutcome) (s : State) : State := s.mapPort p (PortUnit.placeReply tag o)

/-- REFUSED with a reason (R181). -/
def refuse (p : Port) (tag : Tag) (r : Reason) (s : State) : State := reply p tag (.refused r) s

/-- DONE with no results (R181). -/
def done (p : Port) (tag : Tag) (s : State) : State := reply p tag (.done .empty) s

/-- ACCEPTED (R181). -/
def accept (p : Port) (tag : Tag) (s : State) : State := reply p tag .accepted s

/-- R183: after every change of the intake, the flow notice is made pending, or cancels the opposite one still unsent. It carries the fill
and the dropped-notice count of that moment (R178, R184; log entry 29). -/
def PortUnit.raiseFlow (n : FlowNotice) (u : PortUnit) : PortUnit :=
  let x : PendingFlow := ⟨n, u.intake.length, u.dropped⟩
  match u.flow, u.sending with
  | none, _ => { u with flow := some x }
  | some f, some (.flow g) => if f = g then { u with flow := some x } else { u with flow := none }
  | some _, _ => { u with flow := none }

/-- R183: held-off is set at 3 requests held and cleared at 1. -/
def PortUnit.judgeFlow (u : PortUnit) : PortUnit :=
  if u.intake.length = 3 ∧ u.heldOff = false then PortUnit.raiseFlow .holdOff { u with heldOff := true }
  else if u.intake.length = 1 ∧ u.heldOff = true then PortUnit.raiseFlow .resume { u with heldOff := false }
  else u

/-- R184: the transmitter, when idle, takes the pending flow notice, then the oldest tag of the refusal list, then the oldest frame
of the output queue. -/
def PortUnit.transmit (u : PortUnit) : PortUnit :=
  match u.sending with
  | some _ => u
  | none =>
    match u.flow with
    | some n => { u with sending := some (.flow n) }
    | none =>
      if u.refusals ≠ [] then { u with sending := some .fullRefusal }
      else if u.queue ≠ [] then { u with sending := some .queued }
      else u

/-- Both transmitters started if idle. -/
def transmit (s : State) : State := { s with ports := ⟨s.ports.stage.transmit, s.ports.front.transmit⟩ }

/-! ## Supervision -/

/-- R149: the severity of a kind. -/
def severityOf : FaultKind → Severity
  | .loopOpen | .loopShort | .isolated => .major
  | .channelUnstable => .note
  | .curtainStall | .limitConflict | .dropOverdue => .critical
  | .dropOverspeed | .creep | .obstructedDrop => .major
  | .unitAbsent | .unitKindMismatch | .levelUnconfirmed => .major
  | .unitBadData | .promiseBroken | .unexpectedUnit | .callNotReported | .loopRateFallback | .storeAborted => .note
  | .sectionLost => .critical

/-- R149: whether a source may carry a kind, with the source in range (R142). -/
def allowedAt (k : FaultKind) : FaultSource → Bool
  | .channel n => decide (1 ≤ n ∧ n ≤ 16) && [.loopOpen, .loopShort, .isolated, .channelUnstable].contains k
  | .zone n => decide (1 ≤ n ∧ n ≤ 12) && k == .isolated
  | .curtain => [.curtainStall, .limitConflict, .dropOverdue, .dropOverspeed, .creep, .obstructedDrop].contains k
  | .unit n =>
    decide (1 ≤ n ∧ n ≤ 31) &&
      [.unitAbsent, .unitKindMismatch, .levelUnconfirmed, .unitBadData, .promiseBroken, .unexpectedUnit,
        .callNotReported].contains k
  | .loop => k == .loopRateFallback
  | .store _ => [.storeAborted, .sectionLost].contains k

/-- The subscription family of a severity (R152, R185). -/
def Severity.family : Severity → Family
  | .note => .faultNote
  | .major => .faultMajor
  | .critical => .faultCritical

/-- Whether an entry is of a pair of source and kind (R142). -/
def FaultEntry.isOf (e : FaultEntry) (src : FaultSource) (k : FaultKind) : Bool := e.source == src && e.kind == k

/-- The entry of a pair (R143: at most one). -/
def Supervision.find (u : Supervision) (src : FaultSource) (k : FaultKind) : Option FaultEntry :=
  u.entries.find? (·.isOf src k)

/-- Whether an entry releases the trouble relay (R150). -/
def FaultEntry.troubles (e : FaultEntry) : Bool := e.state == .active && e.severity != .note

/-- R150: the relay is released while an ACTIVE MAJOR or CRITICAL entry is held or the lost-fault count is not 0. -/
def Supervision.judge (u : Supervision) : Supervision :=
  { u with relay := !(u.entries.any FaultEntry.troubles) && u.lost == 0 }

/-- The entry of a pair changed in its place. -/
def Supervision.change (u : Supervision) (src : FaultSource) (k : FaultKind) (f : FaultEntry → FaultEntry) : Supervision :=
  { u with entries := u.entries.map (fun e => if e.isOf src k then f e else e) }

/-- The entry of a pair removed; the others keep their order (R143). -/
def Supervision.remove (u : Supervision) (src : FaultSource) (k : FaultKind) : Supervision :=
  { u with entries := u.entries.filter (fun e => !e.isOf src k) }

/-- Supervision's list changed and the relay judged in the same event (R150). -/
def setSup (u : Supervision) (s : State) : State := { s with sup := u.judge }

/-- R151: the notice of a change to an entry, with the list, the count and the relay as they stand after it. -/
def faultNotice (ev : FaultEvent) (e : FaultEntry) (removed : Bool) (by' : Option Port) (s : State) : State :=
  notify e.severity.family (.fault ev e removed by' s.uptime s.sup.entries.length s.sup.lost s.sup.relay) s

/-- R144: a new entry at the tail. -/
def newFault (src : FaultSource) (k : FaultKind) (s : State) : State :=
  let e : FaultEntry := ⟨src, k, severityOf k, .active, false, s.uptime, 1⟩
  faultNotice .raised e false none (setSup { s.sup with entries := s.sup.entries ++ [e] } s)

/-- R145: the oldest CLEARED entry is displaced. The number of entries in its notice is that without it, before the new entry has joined (the
model's choice, log entry 36: R151 does not say which of the two changes is counted). -/
def displaceFault (e : FaultEntry) (s : State) : State :=
  faultNotice .displaced e true none (setSup (s.sup.remove e.source e.kind) s)

/-- R145: a raise that finds the list full of ACTIVE entries is lost and counted. Its notice carries no uptime, nor does that of the lost
reset (the model's choice, log entry 35: R151 lists the uptime for an entry notice and leaves it open for these two). -/
def loseFault (src : FaultSource) (k : FaultKind) (s : State) : State :=
  let s := setSup { s.sup with lost := satSucc 255 s.sup.lost } s
  notify (severityOf k).family (.faultLost src k (severityOf k) s.sup.entries.length s.sup.lost s.sup.relay) s

/-- R144, R145: Supervision takes a raise. -/
def raiseFault (src : FaultSource) (k : FaultKind) (s : State) : State :=
  match s.sup.find src k with
  | none =>
    if s.sup.entries.length < 32 then newFault src k s
    else
      match s.sup.entries.find? (·.state == .cleared) with
      | some e => newFault src k (displaceFault e s)
      | none => loseFault src k s
  | some e =>
    match e.state with
    | .cleared =>
      let e' := { e with state := .active, acked := false, occurrences := satSucc 255 e.occurrences }
      faultNotice .raised e' false none (setSup (s.sup.change src k (fun _ => e')) s)
    | .active =>
      let e' := { e with occurrences := satSucc 255 e.occurrences }
      faultNotice .recurred e' false none (setSup (s.sup.change src k (fun _ => e')) s)

/-- R146: Supervision takes a clear. -/
def clearFault (src : FaultSource) (k : FaultKind) (s : State) : State :=
  match s.sup.find src k with
  | none => s
  | some e =>
    match e.state with
    | .cleared => s
    | .active =>
      let e' := { e with state := .cleared }
      if e.acked then faultNotice .cleared e' true none (setSup (s.sup.remove src k) s)
      else faultNotice .cleared e' false none (setSup (s.sup.change src k (fun _ => e')) s)

/-- R154: an ACTIVE entry of severity CRITICAL, acknowledged or not. -/
def Supervision.critical (u : Supervision) : Bool := u.entries.any (fun e => e.state == .active && e.severity == .critical)

/-! ## Reads across blocks -/

/-- The phases in which the public may be in the auditorium (00_scope.md, Terms). -/
def houseOccupied : Phase → Bool
  | .houseOpen | .inShow | .showStop | .interval | .showOut => true
  | .dark | .prepare | .evacuation => false

/-- An entry at GENERAL. -/
def AlarmEntry.isGeneral (e : AlarmEntry) : Bool := e.stage.name == .general

/-- The alarm list holds an entry at GENERAL. -/
def State.anyGeneral (s : State) : Bool := s.alarm.entries.any AlarmEntry.isGeneral

/-- The GENERAL entries of zones whose curtain trigger is yes (R60, R82). -/
def State.triggerEntries (s : State) : List AlarmEntry :=
  s.alarm.entries.filter (fun e => e.isGeneral && (s.settings.zone e.zone).curtainTrigger)

/-- R64: the level of SOUNDER_STAGE, on while the sounders are SOUNDING. -/
def AlarmUnit.sounderStage (u : AlarmUnit) : Bool := u.sounder == .sounding

/-- R64: the level of SOUNDER_FRONT, driven together with SOUNDER_STAGE. -/
def AlarmUnit.sounderFront (u : AlarmUnit) : Bool := u.sounder == .sounding

/-- The entry of a zone (R45: at most one). -/
def AlarmUnit.entry (u : AlarmUnit) (z : Nat) : Option AlarmEntry := u.entries.find? (·.zone == z)

/-- One channel's record. -/
def Scanner.record (u : Scanner) (n : Nat) : Option ChannelRecord := u.channels.find? (·.num == n)

/-- One channel's record changed. -/
def Scanner.change (u : Scanner) (n : Nat) (f : ChannelRecord → ChannelRecord) : Scanner :=
  { u with channels := u.channels.map (fun c => if c.num == n then f c else c) }

/-- One lamp channel's record. -/
def Light.lamp (u : Light) (n : Nat) : Option Lamp := u.lamps.find? (·.num == n)

/-- One lamp unit's record. -/
def Light.unit (u : Light) (a : Nat) : Option LightUnit := u.units.find? (·.address == a)

/-- One row of the unit table. -/
def Loop.row (u : Loop) (a : Nat) : Option UnitRow := u.rows.find? (·.address == a)

/-- One row of the unit table changed. -/
def Loop.change (u : Loop) (a : Nat) (f : UnitRow → UnitRow) : Loop :=
  { u with rows := u.rows.map (fun r => if r.address == a then f r else r) }

/-- The changed mark of a section set (R190). -/
def markChanged (n : SectionName) (s : State) : State :=
  { s with store := { s.store with rows := s.store.rows.map (fun r => if r.name = n then { r with changed := true } else r) } }

end Sys2Proof.Machine
end

