-- ==== Sys2Proof/Machine/Lanes.lean ====
section
/-! DEFINITION. The Loop Master's two lanes: placing, raising and removing work (R160 to R163). -/

namespace Sys2Proof.Machine

/-- R104: the classes rank SAFETY above CURTAIN above LIGHT. -/
def TrafficClass.rank : TrafficClass → Nat
  | .safety => 2
  | .curtain => 1
  | .light => 0

/-- The higher of two classes. -/
def TrafficClass.max (a b : TrafficClass) : TrafficClass := if a.rank < b.rank then b else a

/-- R156: the lane of a class of the Light Engine. SAFETY is always URGENT. -/
def laneOfTraffic (v : LoopSection) : TrafficClass → Lane
  | .safety => .urgent
  | .curtain => v.laneCurtain
  | .light => v.laneLight

/-- R156: the lane of a class of call order. LIFE_SAFETY is always URGENT. -/
def laneOfCall (v : LoopSection) : CallClass → Lane
  | .lifeSafety => .urgent
  | .staff => v.laneStaff
  | .showing => v.laneShow
  | .courtesy => v.laneCourtesy

/-- The SET item of a unit. -/
def LaneItem.isSet (a : Nat) (i : LaneItem) : Bool :=
  match i.work with
  | .set b _ => a == b
  | _ => false

/-- A CALL carrying a serial, still waiting unsent. -/
def LaneItem.isUnsentCall (n : Nat) (i : LaneItem) : Bool :=
  match i.work with
  | .call b => b.serial == n && !i.sending
  | _ => false

/-- A CANCEL waiting unsent. -/
def LaneItem.isUnsentCancel (i : LaneItem) : Bool :=
  match i.work with
  | .cancel _ => !i.sending
  | _ => false

/-- Whether a SET is held for a unit, in either lane (R161). -/
def Loop.holdsSet (u : Loop) (a : Nat) : Bool := u.urgent.any (·.isSet a) || u.ordinary.any (·.isSet a)

/-- R163: ORDINARY replaced by a shorter lane; when it held 48 items a report of room is owed. -/
def Loop.shrinkOrdinary (u : Loop) (l : List LaneItem) : Loop :=
  { u with ordinary := l, roomOwed := u.roomOwed || (decide (48 ≤ u.ordinary.length) && decide (l.length < u.ordinary.length)) }

/-- Items removed from both lanes. -/
def Loop.dropItems (u : Loop) (p : LaneItem → Bool) : Loop :=
  { u with urgent := u.urgent.filter (fun i => !p i) }.shrinkOrdinary (u.ordinary.filter (fun i => !p i))

/-- An item placed at the tail of a lane; ORDINARY refuses at 48 items (R160). -/
def Loop.placeItem (u : Loop) (lane : Lane) (w : Work) : Loop × Bool :=
  match lane with
  | .urgent => ({ u with urgent := u.urgent ++ [⟨w, false⟩] }, true)
  | .ordinary => if 48 ≤ u.ordinary.length then (u, false) else ({ u with ordinary := u.ordinary ++ [⟨w, false⟩] }, true)

/-- A SET item with its class raised, if the class ranks above its own (R161). -/
def LaneItem.raiseTo (c : TrafficClass) (i : LaneItem) : LaneItem :=
  match i.work with
  | .set a d => { i with work := .set a (d.max c) }
  | _ => i

/-- Whether a class ranks above that of a SET item. -/
def LaneItem.ranksBelow (c : TrafficClass) (i : LaneItem) : Bool :=
  match i.work with
  | .set _ d => decide (d.rank < c.rank)
  | _ => false

/-- R161: a raise of a unit whose SET is held. -/
def Loop.raiseSet (v : LoopSection) (a : Nat) (c : TrafficClass) (u : Loop) : Loop :=
  match u.ordinary.find? (·.isSet a) with
  | some i =>
    if i.ranksBelow c then
      match laneOfTraffic v c with
      | .urgent => { u with urgent := u.urgent ++ [i.raiseTo c] }.shrinkOrdinary (u.ordinary.filter (fun j => !j.isSet a))
      | .ordinary => { u with ordinary := u.ordinary.map (fun j => if j.isSet a then j.raiseTo c else j) }
    else u
  | none => { u with urgent := u.urgent.map (fun j => if j.isSet a then j.raiseTo c else j) }

/-- R161: a refresh request. Answers whether it was taken. -/
def Loop.requestSet (v : LoopSection) (a : Nat) (c : TrafficClass) (u : Loop) : Loop × Bool :=
  if u.holdsSet a then (u.raiseSet v a c, true) else u.placeItem (laneOfTraffic v c) (.set a c)

/-- R162: a CALL handed by the Call Controller. Answers whether it was taken. -/
def Loop.placeCall (v : LoopSection) (b : CallBroadcast) (u : Loop) : Loop × Bool :=
  u.placeItem (laneOfCall v b.cls) (.call b)

/-- R162: the CALL of a serial, if still unsent, is removed. -/
def Loop.removeCall (n : Nat) (u : Loop) : Loop := u.dropItems (·.isUnsentCall n)

/-- R162 step 2: a serial joined to the first waiting CANCEL with room for it. None when there is no such item. -/
def joinCancel (n : Nat) : List LaneItem → Option (List LaneItem)
  | [] => none
  | i :: l =>
    match i.work, i.sending with
    | .cancel ns, false =>
      if ns.contains n then some (i :: l)
      else if ns.length < 32 then some ({ i with work := .cancel (ns ++ [n]) } :: l)
      else (joinCancel n l).map (i :: ·)
    | _, _ => (joinCancel n l).map (i :: ·)

/-- R162: a CANCEL of one serial. -/
def Loop.placeCancel (n : Nat) (u : Loop) : Loop :=
  let u := u.removeCall n
  match joinCancel n u.urgent with
  | some l => { u with urgent := l }
  | none => { u with urgent := u.urgent ++ [⟨.cancel [n], false⟩] }

/-- A unit's SET item taken out of its lane (R167, R169). -/
def Loop.removeSet (a : Nat) (u : Loop) : Loop := u.dropItems (·.isSet a)

/-- The item being sent taken out of its lane (R160). -/
def Loop.removeSent (u : Loop) : Loop := u.dropItems (·.sending)

/-- The being-sent marks cleared, the items staying in their places. -/
def Loop.unsend (u : Loop) : Loop :=
  { u with urgent := u.urgent.map (fun i => { i with sending := false }), ordinary := u.ordinary.map (fun i => { i with sending := false }) }

end Sys2Proof.Machine
end

