-- ==== Sys2Proof/Machine/Lights.lean ====
section
/-! DEFINITION. The Light Engine: claims and targets (R104 to R109), fades (R110 to R112), and the refresh of lamp units (R113 to R120). Its functions act on a `Field`, the part of the state they may change with the settings they read. -/

namespace Sys2Proof.Machine

/-- What the Light Engine's functions read and change. -/
structure Field where
  settings : Settings
  light : Light
  loop : Loop
deriving DecidableEq, Repr

/-- The state with a function of the Light Engine applied. Nothing but the Light Engine and the lanes changes. -/
def onField (f : Field → Field) (s : State) : State :=
  let r := f ⟨s.settings, s.light, s.loop⟩
  { s with light := r.light, loop := r.loop }

/-! ## Claims and targets -/

/-- R104: the winning claim's level or FLASH; the rest level when no claim is held. -/
def Lamp.goal (l : Lamp) (rest : Nat) : LampTarget :=
  match l.safety, l.curtain, l.manual, l.cue with
  | some c, _, _, _ => .level c.level
  | none, true, _, _ => .flash
  | none, false, some c, _ => .level c.level
  | none, false, none, some c => .level c.level
  | none, false, none, none => .level rest

/-- Whether a channel holds no claim. -/
def Lamp.unclaimed (l : Lamp) : Bool := l.safety.isNone && !l.curtain && l.manual.isNone && l.cue.isNone

/-- R104: the traffic class of a channel, by its winning claim. -/
def Lamp.trafficClass (l : Lamp) : TrafficClass :=
  if l.safety.isSome then .safety else if l.curtain then .curtain else .light

/-- R110: the fade time in tenths after a change: the winning claim's, or `release` when no claim is left. -/
def Lamp.fadeTime (l : Lamp) (release : Nat) : Nat :=
  match l.safety, l.curtain, l.manual, l.cue with
  | some c, _, _, _ => c.fade
  | none, true, _, _ => 0
  | none, false, some c, _ => c.fade
  | none, false, none, some c => c.fade
  | none, false, none, none => release

/-- R106: the level of a FLASH target in a half of the flash clock. -/
def flashLevel (lit : Bool) : Nat := if lit then 100 else 0

/-- R110: a target change to a level starts a fade from the current level; one of no duration or no distance does not run. -/
def Lamp.startFade (goal tenths : Nat) (l : Lamp) : Lamp :=
  if tenths = 0 ∨ l.current = goal then { l with target := .level goal, current := goal, fade := none }
  else { l with target := .level goal, fade := some ⟨l.current, goal, tenths * 100, 0⟩ }

/-- R104, R106, R110: the target judged afresh. A target that keeps its value starts no fade. -/
def Lamp.retarget (rest release : Nat) (lit : Bool) (l : Lamp) : Lamp :=
  if l.goal rest = l.target then l
  else
    match l.goal rest with
    | .flash => { l with target := .flash, current := flashLevel lit, fade := none }
    | .level n => l.startFade n (l.fadeTime release)

/-! ## Refresh -/

/-- A unit record changed. -/
def Light.changeUnit (u : Light) (a : Nat) (f : LightUnit → LightUnit) : Light :=
  { u with units := u.units.map (fun r => if r.address == a then f r else r) }

/-- R115: a refresh request handed to the Loop Master; "taken" makes the unit QUEUED, "no room" leaves it DIRTY in the waiting list. -/
def Field.request (a : Nat) (c : TrafficClass) (f : Field) : Field :=
  let r := f.loop.requestSet f.settings.loop a c
  if r.2 then
    { f with loop := r.1, light := Light.changeUnit { f.light with waiting := removeNum a f.light.waiting } a (fun x => { x with refresh := .queued c none }) }
  else
    { f with loop := r.1, light := { f.light with waiting := if f.light.waiting.contains a then f.light.waiting else f.light.waiting ++ [a] } }

/-- R114: a mark at a class on a unit. -/
def Field.markUnit (a : Nat) (c : TrafficClass) (f : Field) : Field :=
  match f.light.unit a with
  | none => f
  | some x =>
    match x.refresh with
    | .clean => Field.request a c { f with light := f.light.changeUnit a (fun y => { y with refresh := .dirty c }) }
    | .dirty d =>
      if d.rank < c.rank then Field.request a c { f with light := f.light.changeUnit a (fun y => { y with refresh := .dirty c }) }
      else f
    | .queued d ch =>
      let changed := match ch with
        | none => c
        | some e => e.max c
      let g := { f with light := f.light.changeUnit a (fun y => { y with refresh := .queued (d.max c) (some changed) }) }
      if d.rank < c.rank then { g with loop := g.loop.raiseSet g.settings.loop a c } else g

/-- R114: a placed channel whose sent level is unknown or differs from its current level marks its unit at its class. -/
def Field.judgeLamp (n : Nat) (f : Field) : Field :=
  match f.light.lamp n with
  | none => f
  | some l => if l.placed ∧ l.sent ≠ some l.current then f.markUnit (f.settings.lamp n).unit l.trafficClass else f

/-- A lamp channel's record replaced. -/
def Light.putLamp (u : Light) (l : Lamp) : Light := { u with lamps := u.lamps.map (fun x => if x.num == l.num then l else x) }

/-- A lamp channel's record replaced, and the channel judged for refresh (R114). -/
def Field.putJudged (l : Lamp) (f : Field) : Field := Field.judgeLamp l.num { f with light := f.light.putLamp l }

/-- One channel changed; it is judged for refresh if its current level changed or its sent level became unknown (R114). -/
def Field.changeLamp (n : Nat) (g : Lamp → Lamp) (f : Field) : Field :=
  match f.light.lamp n with
  | none => f
  | some l =>
    let l' := { g l with num := l.num }
    let f' := { f with light := f.light.putLamp l' }
    if l'.current ≠ l.current ∨ (l'.sent = none ∧ l.sent ≠ none) then f'.judgeLamp n else f'

/-- Several channels changed, one after another in the order of the list: the request's own for MANUAL LEVEL, the preset's own for GO
PRESET, ascending number where a rule names every channel (the model's choice, log entries 28 and 34: the manual gives no order). -/
def Field.changeLamps (ns : List Nat) (g : Nat → Lamp → Lamp) (f : Field) : Field :=
  ns.foldl (fun f n => f.changeLamp n (g n)) f

/-- The numbers of the lamp channels, in ascending order. -/
def Field.numbers (f : Field) : List Nat := f.light.lamps.map (·.num)

/-- The channels of a unit as the LIGHTS section names them (R101). -/
def lampsOf (s : Settings) (a : Nat) : List Nat := (s.lights.lamps.filter (·.unit == a)).map (·.num)

/-- A claim change on a list of channels, each then retargeted with its own release fade (R104, R110). -/
def Field.claim (ns : List Nat) (g : Lamp → Lamp) (release : Lamp → Nat) (f : Field) : Field :=
  f.changeLamps ns (fun n l => (g l).retarget (f.settings.lamp n).rest (release l) f.light.lit)

/-- R107: MANUAL claims set on a list of channels. -/
def Field.setManual (ns : List Nat) (level fade : Nat) (f : Field) : Field :=
  f.claim ns (fun l => { l with manual := some ⟨level, fade⟩ }) (fun _ => 0)

/-- R107: MANUAL claims released from a list of channels. A channel without one is left as it was. -/
def Field.releaseManual (ns : List Nat) (fade : Nat) (f : Field) : Field :=
  f.claim ns (fun l => { l with manual := none }) (fun _ => fade)

/-- The CUE claim that a preset gives a channel. -/
def Preset.cueOf (v : Preset) (n : Nat) : Option LevelClaim := (v.levels.find? (·.1 == n)).map (fun q => ⟨q.2, v.fade⟩)

/-- R108: a preset's CUE claims placed on one channel; a channel not listed keeps its own. -/
def Lamp.cued (v : Preset) (l : Lamp) : Lamp :=
  match Preset.cueOf v l.num with
  | some c => { l with cue := some c }
  | none => l

/-- R108: a preset's CUE claims placed. -/
def Field.goPreset (v : Preset) (f : Field) : Field :=
  f.claim (v.levels.map (·.1)) (Lamp.cued v) (fun _ => 0)

/-- R109: the claim changes of one phase entry on one channel, in the order of the rule. -/
def Lamp.enterPhase (s : Settings) (new previous : Phase) (clearManual : Bool) (l : Lamp) : Lamp :=
  let l1 := if previous = .evacuation then { l with safety := none } else l
  let l2 := if clearManual then { l1 with manual := none } else l1
  if new = .evacuation then
    if (s.lamp l.num).role = .settingLineWarning then l2 else { l2 with safety := some ⟨100, s.lights.panicFade⟩ }
  else
    match (s.phasePreset new).bind s.preset with
    | some v => l2.cued v
    | none => l2

/-- R110: the release fade of a phase entry: the panic fade after a SAFETY claim, else the fade time of the MANUAL claim cleared. -/
def Lamp.entryRelease (s : Settings) (previous : Phase) (l : Lamp) : Nat :=
  if previous = .evacuation ∧ l.safety.isSome then s.lights.panicFade
  else match l.manual with
    | some c => c.fade
    | none => 0

/-- R109: a phase entry, with each target judged once. -/
def Field.enterPhase (new previous : Phase) (clearManual : Bool) (f : Field) : Field :=
  f.claim f.numbers (Lamp.enterPhase f.settings new previous clearManual) (Lamp.entryRelease f.settings previous)

/-- R106: CURTAIN claims of FLASH placed on a list of channels. -/
def Field.placeFlash (ns : List Nat) (f : Field) : Field := f.claim ns (fun l => { l with curtain := true }) (fun _ => 0)

/-- R106: CURTAIN claims removed from a list of channels. -/
def Field.removeFlash (ns : List Nat) (f : Field) : Field := f.claim ns (fun l => { l with curtain := false }) (fun _ => 0)

/-! ## Fades -/

/-- R111: the level a fade has reached, with fractions dropped toward the from level. -/
def Fade.level (d : Fade) : Nat :=
  if d.start ≤ d.goal then d.start + (d.goal - d.start) * d.elapsed / d.duration
  else d.start - (d.start - d.goal) * d.elapsed / d.duration

/-- R111: whether a fade ends at its next advance. -/
def Fade.lastAdvance (d : Fade) : Bool := decide (d.duration ≤ d.elapsed + 50)

/-- R111: one advance of 50 ms of a channel's fade, which ends on the advance at which its elapsed time reaches its duration. -/
def Lamp.advance (l : Lamp) : Lamp :=
  match l.fade with
  | none => l
  | some d =>
    if d.lastAdvance then { l with fade := none, current := d.goal }
    else { l with fade := some { d with elapsed := d.elapsed + 50 }, current := Fade.level { d with elapsed := d.elapsed + 50 } }

/-- R111: every fade advances. -/
def Field.advanceFades (f : Field) : Field := f.changeLamps f.numbers (fun _ l => l.advance)

/-- R106: the flash clock changes half, and FLASH channels change level. -/
def Field.flashHalf (f : Field) : Field :=
  let lit := !f.light.lit
  let g : Field := { f with light := { f.light with lit := lit } }
  g.changeLamps g.numbers (fun _ l => if l.target = .flash then { l with current := flashLevel lit } else l)

/-! ## What the Loop Master asks and reports -/

/-- The placed channel on an output of a unit. -/
def Field.lampAt (a o : Nat) (f : Field) : Option Lamp :=
  f.light.lamps.find? (fun l => l.placed && (f.settings.lamp l.num).unit == a && (f.settings.lamp l.num).output == o)

/-- R116: one level for each output, 0 for an output carrying no channel. -/
def Field.levels (a : Nat) (f : Field) : List Nat :=
  match f.light.unit a with
  | none => []
  | some x => (List.range x.outputs).map (fun k => ((f.lampAt a (k + 1)).map (·.current)).getD 0)

/-- R116: whether a SET of the unit carries a SAFETY-class channel. -/
def Field.carriesSafety (a : Nat) (f : Field) : Bool :=
  f.light.lamps.any (fun l => l.placed && (f.settings.lamp l.num).unit == a && l.safety.isSome)

/-- R116: the issue of a SET sets the sent levels and empties changed since issue. -/
def Field.issue (a : Nat) (f : Field) : Field :=
  let lamps := f.light.lamps.map (fun l => if l.placed && (f.settings.lamp l.num).unit == a then { l with sent := some l.current } else l)
  { f with light := Light.changeUnit { f.light with lamps := lamps } a (fun x =>
      match x.refresh with
      | .queued c _ => { x with refresh := .queued c none }
      | _ => x) }

/-- R117: the unit has taken its SET and the SET has left the lanes. -/
def Field.taken (a : Nat) (f : Field) : Field :=
  match (f.light.unit a).map LightUnit.refresh with
  | some (.queued _ (some c)) => Field.request a c { f with light := f.light.changeUnit a (fun x => { x with refresh := .dirty c }) }
  | _ => { f with light := f.light.changeUnit a (fun x => { x with refresh := .clean }) }

/-- R118: a lamp unit reported absent. -/
def Field.absent (a : Nat) (f : Field) : Field :=
  let lamps := f.light.lamps.map (fun l => if (f.settings.lamp l.num).unit == a then { l with placed := false, sent := none } else l)
  let l := { f.light with lamps := lamps, waiting := removeNum a f.light.waiting }
  { f with light := l.changeUnit a (fun x => { x with present := false, refresh := .clean, retryUsed := false }) }

/-- The highest class of a list of classes. -/
def highestClass : List TrafficClass → Option TrafficClass
  | [] => none
  | c :: l => some (match highestClass l with
    | none => c
    | some d => c.max d)

/-- R118, R119: a lamp unit reported present with its outputs. Its channels are placed with sent level unknown, and the unit is
resynchronised at the highest class among them. The unit records stand, and LIGHT STATUS lists them, in the order of their first presence
reports (the model's choice, log entry 34: R121 gives no order). The unit is marked once, at that class, so its changed since issue stays no
(the model's choice, log entry 35: R118 also says that each channel is marked, and a mark after the first would set it). -/
def Field.present (a outputs : Nat) (f : Field) : Field :=
  let units := if f.light.units.any (·.address == a) then f.light.units else f.light.units ++ [⟨a, true, outputs, .clean, false⟩]
  let lamps := f.light.lamps.map (fun l =>
    if (f.settings.lamp l.num).unit == a then { l with placed := decide ((f.settings.lamp l.num).output ≤ outputs), sent := none } else l)
  let u := Light.changeUnit { f.light with units := units, lamps := lamps } a (fun x => { x with present := true, outputs := outputs })
  let g := { f with light := u }
  match highestClass ((lamps.filter (fun l => l.placed && (f.settings.lamp l.num).unit == a)).map Lamp.trafficClass) with
  | none => g
  | some c => g.markUnit a c

/-- R120: one placed channel's sent level made unknown, and the channel marked, also where it was unknown before. -/
def Field.forgetSent (f : Field) (n : Nat) : Field :=
  match f.light.lamp n with
  | none => f
  | some l => f.putJudged { l with sent := none }

/-- R120: the read-back verdict of a held exchange. -/
def Field.verdict (a : Nat) (confirmed : Bool) (f : Field) : Field :=
  match f.light.unit a with
  | none => f
  | some x =>
    if confirmed then { f with light := f.light.changeUnit a (fun y => { y with retryUsed := false }) }
    else if x.retryUsed then f
    else
      let g := { f with light := f.light.changeUnit a (fun y => { y with retryUsed := true }) }
      let ns := (g.light.lamps.filter (fun l => l.placed && (g.settings.lamp l.num).unit == a)).map (·.num)
      ns.foldl Field.forgetSent g

/-- R115: the waiting units' requests handed again, oldest first, up to the first "no room". -/
def Field.rehandList : List Nat → Field → Field
  | [], f => f
  | a :: l, f =>
    match (f.light.unit a).map LightUnit.refresh with
    | some (.dirty c) =>
      let g := f.request a c
      if g.light.waiting.contains a then g else Field.rehandList l g
    | _ => Field.rehandList l f

/-- R115: the Loop Master reports that ORDINARY has gained room. -/
def Field.rehand (f : Field) : Field := Field.rehandList f.light.waiting f

/-! ## A changed LIGHTS section -/

/-- R102: whether a channel's unit is present with its output. -/
def Field.placedNow (n : Nat) (f : Field) : Bool :=
  match f.light.unit (f.settings.lamp n).unit with
  | none => false
  | some x => x.present && decide ((f.settings.lamp n).output ≤ x.outputs)

/-- R102: a channel's record moved to the unit and output that it now names. -/
def Lamp.moved (placed : Bool) (l : Lamp) : Lamp := { l with sent := none, placed := placed }

/-- R102: a channel's record with its new rest level, which one that holds no claim takes at once. -/
def Lamp.rested (rest : Nat) (lit : Bool) (l : Lamp) : Lamp := if l.unclaimed then l.retarget rest 0 lit else l

/-- R102: one channel after a change of the section. `old` is the section's settings before it. A channel that moves marks the unit it
leaves, if it was placed there; its record then takes the new unit and the new rest level together, and is judged once (the model's choices,
log entry 36: R102 marks "that unit" whether or not the channel was placed on it, and does not say how the two changes meet). -/
def Field.applyLamp (old : Settings) (f : Field) (n : Nat) : Field :=
  let was := old.lamp n
  let new := f.settings.lamp n
  if was.unit ≠ new.unit ∨ was.output ≠ new.output then
    match f.light.lamp n with
    | none => f
    | some l =>
      let g := if l.placed then f.markUnit was.unit .light else f
      g.putJudged { (l.moved (g.placedNow n)).rested new.rest g.light.lit with num := l.num }
  else if was.rest ≠ new.rest then f.changeLamp n (Lamp.rested new.rest f.light.lit)
  else f

/-- R102: the Light Engine applies an accepted change of its section. -/
def Field.applySettings (old : Settings) (f : Field) : Field := f.numbers.foldl (Field.applyLamp old) f

end Sys2Proof.Machine
end

