-- ==== Sys2Proof/Machine/Sequencer.lean ====
section
/-! DEFINITION. The performance record: a change of phase in the record with its notices (R4), and the move to SHOW_STOP by the curtain's departure (R11). -/

namespace Sys2Proof.Machine

/-- A change of phase as its own rule gives it (R4 to R14): the new phase and cause, the clearance it consumes, the countdowns it
clears and starts, and the new values of act, performance number and display done. -/
structure PhaseChange where
  target : Phase
  cause : PhaseCause
  consumes : Option ClearanceName
  clearsHouse : Bool
  clearsInterval : Bool
  startsHouse : Option Nat
  startsInterval : Option Nat
  act : Option Nat
  number : Nat
  displayDone : Bool
  clearsManual : Bool
deriving DecidableEq, Repr

/-- A change with no particular effect on the record. -/
def PerfRecord.plainChange (r : PerfRecord) (target : Phase) (cause : PhaseCause) : PhaseChange :=
  ⟨target, cause, none, false, false, none, none, r.act, r.number, r.displayDone, false⟩

def notifyClearance (w : ClearanceName) (ev : ClearanceEvent) (s : State) : State :=
  notify .clearance (.clearance w ev s.uptime) s

def notifyCountdown (w : CountdownName) (ev : CountdownEvent) (seconds : Nat) (s : State) : State :=
  notify .countdown (.countdown w ev seconds) s

/-- A countdown's field after a change: started, cleared, or as it was. -/
def nextCountdown (clears : Bool) (starts : Option Nat) (old : Option Nat) : Option Nat :=
  match starts with
  | some n => some n
  | none => if clears then none else old

/-- R4: the record after a change of phase. Each clearance not consumed is cleared, so both are absent. -/
def PerfRecord.after (r : PerfRecord) (c : PhaseChange) (now : Nat) : PerfRecord where
  phase := c.target
  enteredAt := now
  number := c.number
  act := c.act
  displayDone := c.displayDone
  stageClearance := none
  houseClearance := none
  houseCountdown := nextCountdown c.clearsHouse c.startsHouse r.houseCountdown
  intervalCountdown := nextCountdown c.clearsInterval c.startsInterval r.intervalCountdown

/-- R4: the notice of a clearance consumed or cleared, if it was present. -/
def noticeClearanceEnd (w : ClearanceName) (was : Option Nat) (c : PhaseChange) (s : State) : State :=
  if was.isSome then notifyClearance w (if c.consumes = some w then .consumed else .cleared) s else s

/-- R4: the notice of a countdown cleared, if it was present. Its seconds are those that were left when it was cleared (the model's
choice, log entry 33: the manual does not say which seconds a "cleared" carries). -/
def noticeCountdownClear (w : CountdownName) (clears : Bool) (was : Option Nat) (s : State) : State :=
  match clears, was with
  | true, some n => notifyCountdown w .cleared n s
  | _, _ => s

/-- R4, R19: the notices of a countdown started; a house countdown started at 0 is due at once, also one that PREPARE to HOUSE_OPEN carries
(the model's choice, log entry 36: R19 gives "curtain-up due" for a start by SET COUNTDOWN, and R4 lists "set" alone). -/
def noticeCountdownStart (w : CountdownName) (starts : Option Nat) (s : State) : State :=
  match starts with
  | none => s
  | some n =>
    let s1 := notifyCountdown w .set n s
    if n = 0 ∧ w = .house then notifyCountdown w .curtainUpDue 0 s1 else s1

/-- R4: the change of the record and its notices, in the order of the rule. -/
def enterRecord (c : PhaseChange) (s : State) : State :=
  let r := s.perf
  let s1 := { s with perf := r.after c s.uptime }
  let s2 := notify .phase (.phase c.target (some r.phase) c.cause c.number c.act s.uptime) s1
  let s3 := noticeClearanceEnd .stage r.stageClearance c s2
  let s4 := noticeClearanceEnd .house r.houseClearance c s3
  let s5 := noticeCountdownClear .house c.clearsHouse r.houseCountdown s4
  let s6 := noticeCountdownClear .interval c.clearsInterval r.intervalCountdown s5
  noticeCountdownStart .interval c.startsInterval (noticeCountdownStart .house c.startsHouse s6)

/-- R11: the departure claim. SHOW becomes SHOW_STOP with cause CURTAIN and the entry goes to the Light Engine (R10); any other phase
is left. The entry changes no call order (R137). -/
def curtainDeparture (s : State) : State :=
  if s.perf.phase = .inShow then
    onField (Field.enterPhase .showStop .inShow false) (enterRecord (s.perf.plainChange .showStop .curtain) s)
  else s

end Sys2Proof.Machine
end

