-- ==== Sys2Proof/Machine/CurtainCore.lean ====
section
/-! DEFINITION. The Curtain Controller's change of state (R72, R73), its faults held, its warning flash (R94), and the judgement of the announcement's outcome (R96). -/

namespace Sys2Proof.Machine

/-- The states in which the curtain moves (R73). -/
def CurtainState.moving : CurtainState → Bool
  | .lowering | .raising | .dropping => true
  | .up | .down | .halted | .faultLocked => false

/-- R72: the outputs of a state. -/
def Curtain.setOutputs (c : Curtain) : Curtain :=
  { c with hold := c.state != .dropping, driveDown := c.state == .lowering, driveUp := c.state == .raising }

/-- A curtain notice to the subscribing ports. -/
def curtainNotice (n : Notice) (s : State) : State := notify .curtain n s

/-- The curtain record changed. -/
def mapCurtain (f : Curtain → Curtain) (s : State) : State := { s with curtain := f s.curtain }

/-- A curtain fault raised and held. -/
def raiseCurtainFault (k : FaultKind) (s : State) : State :=
  raiseFault .curtain k (mapCurtain (fun c => { c with faultsHeld := insertKind k c.faultsHeld }) s)

/-- A curtain fault cleared, if held. -/
def clearCurtainFault (k : FaultKind) (s : State) : State :=
  if s.curtain.faultsHeld.contains k then
    clearFault .curtain k (mapCurtain (fun c => { c with faultsHeld := removeKind k c.faultsHeld }) s)
  else s

/-- R94: the channels whose role is SETTING_LINE_WARNING, as the LIGHTS section holds it. -/
def warningLamps (s : Settings) : List Nat := (s.lights.lamps.filter (·.role == .settingLineWarning)).map (·.num)

/-- R94: the warning-flash claims placed. -/
def placeWarning (s : State) : State :=
  let ns := warningLamps s.settings
  onField (Field.placeFlash ns) (mapCurtain (fun c => { c with flashed := ns }) s)

/-- R94: the warning-flash claims removed, from the channels on which they were placed. -/
def removeWarning (s : State) : State :=
  mapCurtain (fun c => { c with flashed := [] }) (onField (Field.removeFlash s.curtain.flashed) s)

/-- R73 step 3. -/
def judgeWarning (new previous : CurtainState) (s : State) : State :=
  if new.moving ∧ ¬ previous.moving then placeWarning s
  else if ¬ new.moving ∧ previous.moving then removeWarning s
  else s

/-- R77: the motion watch of a state from a moment on: one stall window, which the settings hold in tenths of a second. -/
def CurtainState.watch (st : CurtainState) (v : CurtainSection) (now : Nat) : Option Nat :=
  match st with
  | .lowering | .raising => some (now + v.stallWindow * 1000)
  | .up | .dropping | .down | .halted | .faultLocked => none

/-- R73 steps 1 to 3. A curtain whose state changes is a resolved one, since one not yet resolved stays as it is held (R99). -/
def shiftCurtain (new : CurtainState) (s : State) : State :=
  let previous := s.curtain.state
  let s1 := mapCurtain (fun c =>
    Curtain.setOutputs { c with state := new, resolved := true, motionWatch := new.watch s.settings.curtain s.clock.now }) s
  let s2 := if previous = .up then curtainDeparture s1 else s1
  judgeWarning new previous s2

/-- R73: a change of curtain state. `mid` is what the rule making the change does at steps 4 and 5. A change into the same state is
not a change. -/
def enterCurtain (new : CurtainState) (cause : CurtainCause) (mid : State → State) (s : State) : State :=
  let previous := s.curtain.state
  if previous = new then s
  else
    let s1 := mid (shiftCurtain new s)
    curtainNotice (.curtainChange new (some previous) cause s1.curtain.position s1.uptime) s1

/-- R98: the fields and the notice of an abandonment. The withdrawal of the announcement is asked by the caller. -/
def abandonFields (r : AbandonReason) (s : State) : State :=
  match s.curtain.display with
  | none => s
  | some d => curtainNotice (.displayAbandoned d r) (mapCurtain (fun c => { c with display := none, announcement := none }) s)

/-- R96: the display lowering judged, in the order of the rule. -/
def judgeDisplayLowering (s : State) : State :=
  if s.anyGeneral then abandonFields .alarm s
  else if s.curtain.state ≠ .up then abandonFields .curtain s
  else if s.perf.phase = .inShow then abandonFields .phase s
  else if s.lines.obstructed then abandonFields .obstructed s
  else enterCurtain .lowering .display id (mapCurtain (fun c => { c with display := some .lowering }) s)

/-- R96: the Curtain Controller takes the outcome of a call order. One that is not the announcement's is set aside (R98). -/
def announcementOutcome (tag : Nat) (o : CallOutcome) (s : State) : State :=
  if s.curtain.announcement = some tag then
    let s1 := mapCurtain (fun c => { c with announcement := none }) s
    if s1.curtain.display = some .announcing ∧ o ≠ .withdrawn then judgeDisplayLowering s1 else s1
  else s

end Sys2Proof.Machine
end

