-- ==== Sys2Proof/Machine/CallQueue.lean ====
section
/-! DEFINITION. The Call Controller: targets (R122), the reachable table (R123), the queue and the call line (R125 to R134), outcomes (R135 to R139). -/

namespace Sys2Proof.Machine

/-! ## Targets -/

/-- R122: an area is reached when it agrees with the base in every place that the mask does not free. -/
def reaches (t : Target) (area : Nat) : Bool :=
  (BitVec.ofNat 4 area ^^^ BitVec.ofNat 4 t.base) &&& ~~~ (BitVec.ofNat 4 t.mask) == 0#4

/-- R122: an all-areas target frees every place. -/
def isAllAreas (t : Target) : Bool := t.mask == 15

/-- R122: a unit is addressed when its area is reached, unless it declines all-areas calls and the call is one not of LIFE_SAFETY. -/
def addressed (t : Target) (cls : CallClass) (r : ReachableRow) : Bool :=
  reaches t r.area && (r.acceptsAll || !isAllAreas t || cls == .lifeSafety)

/-- R132: the expected set of an order. -/
def expectedUnits (o : Order) (rows : List ReachableRow) : List ReachableRow := rows.filter (addressed o.target o.cls)

/-- The addresses of an expected set. -/
def addressesOf (rows : List ReachableRow) : List Nat := rows.map (·.address)

/-- R122, R141: a row of the reachable table with the area and acceptance that the CALLS section holds now. -/
def rowNow (v : Settings) (r : ReachableRow) : ReachableRow :=
  match v.callUnit r.address with
  | some c => ⟨r.address, c.area, c.acceptsAll⟩
  | none => r

/-- The rows on which the expected set of the next repetition is drawn (R141). -/
def State.rowsNow (s : State) : List ReachableRow := s.calls.reachable.map (rowNow s.settings)

/-- The area of a unit, from the rows. -/
def areaOf (rows : List ReachableRow) (a : Nat) : Nat := ((rows.find? (·.address == a)).map (·.area)).getD 0

/-! ## Orders -/

/-- R124: the classes rank LIFE_SAFETY highest. -/
def classRank : CallClass → Nat
  | .lifeSafety => 3
  | .staff => 2
  | .showing => 1
  | .courtesy => 0

def Order.isSounding (o : Order) : Bool :=
  match o.state with
  | .sounding _ _ => true
  | _ => false

def Order.isDue (o : Order) : Bool :=
  match o.state with
  | .due _ => true
  | _ => false

def Order.isWaiting (o : Order) : Bool := o.state == .waiting

/-- The serial of a SOUNDING order. -/
def Order.serial (o : Order) : Option Nat :=
  match o.state with
  | .sounding _ n => some n
  | _ => none

/-- When the order became due. -/
def Order.since (o : Order) : Nat :=
  match o.state with
  | .waiting => 0
  | .due t => t
  | .sounding t _ => t

/-- The order on the line, if any (R131). -/
def Calls.sounding (u : Calls) : Option Order := u.queue.find? Order.isSounding

/-- An order found by its id. -/
def Calls.order (u : Calls) (id : Nat) : Option Order := u.queue.find? (·.id == id)

/-- An order changed in its place. -/
def Calls.change (u : Calls) (id : Nat) (f : Order → Order) : Calls :=
  { u with queue := u.queue.map (fun o => if o.id == id then f o else o) }

def mapCalls (f : Calls → Calls) (s : State) : State := { s with calls := f s.calls }

def mapLoop (f : Loop → Loop) (s : State) : State := { s with loop := f s.loop }

/-- A port's origin. -/
def originOf : Port → CallOrigin
  | .stage => .stage
  | .front => .front

/-- R135 step 4: a CALL notice goes to the origin port alone for a port's order, and to both ports for an internal one. -/
def callNotice (origin : CallOrigin) (n : Notice) (s : State) : State :=
  match origin with
  | .stage => placeOn .stage .call n s
  | .front => placeOn .front .call n s
  | .sequencer | .alarm | .curtain => notify .call n s

/-- R51, R64: the Alarm Unit's field that refers to an ended order becomes absent. -/
def forgetAlarmOrder (tag : Nat) (u : AlarmUnit) : AlarmUnit :=
  { u with
    evacOrder := if u.evacOrder = some tag then none else u.evacOrder
    entries := u.entries.map (fun e => if e.staffOrder = some tag then { e with staffOrder := none } else e) }

/-- R135 step 3: the outcome handed to the origin block. -/
def handOutcome (origin : CallOrigin) (tag : Nat) (out : CallOutcome) (s : State) : State :=
  match origin with
  | .alarm => { s with alarm := forgetAlarmOrder tag s.alarm }
  | .curtain => announcementOutcome tag out s
  | .stage | .front | .sequencer => s

/-- R135 step 4. -/
def outcomeNotice (out : CallOutcome) (o : Order) (s : State) : State :=
  callNotice o.origin (.callOutcome out o.origin o.tag o.cls o.kind o.done o.missing) s

/-- R135: an order ends. A SOUNDING one has its repetition cancelled. The line is arbitrated by the caller. -/
def endOrder (out : CallOutcome) (o : Order) (s : State) : State :=
  let s1 := match o.serial with
    | some n => mapCalls (fun u => { u with repetition := none }) (mapLoop (Loop.placeCancel n) s)
    | none => s
  let s2 := mapCalls (fun u => { u with queue := u.queue.filter (fun x => x.id != o.id) }) s1
  outcomeNotice out o (handOutcome o.origin o.tag out s2)

/-! ## The call line -/

/-- R131: whether an order goes before another on the line: higher class, then earlier due. Queue order settles the rest. -/
def Order.beats (a b : Order) : Bool :=
  decide (classRank b.cls < classRank a.cls) || (classRank a.cls == classRank b.cls && decide (a.since < b.since))

/-- R131: the DUE order to be granted the line. -/
def bestDue : List Order → Option Order
  | [] => none
  | o :: l =>
    match bestDue l with
    | none => if o.isDue then some o else none
    | some b => if o.isDue && !b.beats o then some o else some b

/-- R132: the serial after one, 255 being followed by 1. -/
def serialAfter (n : Nat) : Nat := if 255 ≤ n then 1 else n + 1

/-- The areas of a list of rows, ascending. -/
def areasOf (rows : List ReachableRow) : List Nat := rows.foldl (fun l r => insertNum r.area l) []

/-- R131, R132: the line, when free, is granted to the best DUE order. One with an empty expected set ends FAILED and the line is
arbitrated again; one whose CALL finds no room stays DUE and the line stays free. The repetition number of "sounding" is one more than the
repetitions done, so it is 256 once that field has saturated at 255 (the model's choice, log entry 34: R132 does not bound the number). -/
def arbitrateFuel : Nat → State → State
  | 0, s => s
  | k + 1, s =>
    if s.calls.sounding.isSome then s
    else
      match bestDue s.calls.queue with
      | none => s
      | some o =>
        let expected := expectedUnits o s.rowsNow
        if expected = [] then arbitrateFuel k (endOrder .failed o s)
        else
          let n := s.calls.nextSerial
          let r := s.loop.placeCall s.settings.loop ⟨n, o.cls, o.kind, o.target⟩
          if r.2 then
            let s1 := { s with loop := r.1 }
            let s2 := mapCalls (fun u => { u.change o.id (fun x => { x with state := .sounding o.since n }) with repetition := some ⟨expected, addressesOf expected, none⟩, nextSerial := serialAfter n }) s1
            notify .call (.callSounding o.origin o.tag o.cls o.kind n (o.done + 1) (areasOf expected)) s2
          else s

/-- R131: the arbitration. Each turn ends an order, so the queue's length bounds the turns. -/
def arbitrate (s : State) : State := arbitrateFuel (s.calls.queue.length + 1) s

/-- R138: a DUE order of LIFE_SAFETY takes the line from a lower order SOUNDING, which ends CUT; otherwise the line is arbitrated. -/
def contend (s : State) : State :=
  match s.calls.sounding with
  | none => arbitrate s
  | some o =>
    if o.cls ≠ .lifeSafety ∧ s.calls.queue.any (fun x => x.isDue && x.cls == .lifeSafety) then arbitrate (endOrder .cut o s)
    else s

/-- R135: an order ends, and the line is arbitrated if it was SOUNDING. -/
def finishOrder (out : CallOutcome) (o : Order) (s : State) : State :=
  if o.isSounding then arbitrate (endOrder out o s) else endOrder out o s

/-! ## Repetitions -/

/-- R134: a repetition of an order ends. A CALL still unsent is taken out of its lane (R162). -/
def endRepetition (o : Order) (s : State) : State :=
  match o.serial with
  | none => s
  | some n =>
    let o' := { o with done := satSucc 255 o.done, state := .due o.since }
    let s1 := mapCalls (fun u => { u.change o.id (fun _ => o') with repetition := none }) (mapLoop (Loop.removeCall n) s)
    if o.withdrawn then arbitrate (endOrder .withdrawn o' s1)
    else if o.repeats = .times o'.done then arbitrate (endOrder .done o' s1)
    else arbitrate s1

/-- The repetition's end, if no unit is awaited any more. -/
def judgeRepetition (s : State) : State :=
  match s.calls.sounding, s.calls.repetition with
  | some o, some r => if r.awaited = [] then endRepetition o s else s
  | _, _ => s

/-- R133: a call unit's progress taken. Only "finished" with the sounding serial from a unit of the expected set acts. -/
def unitReport (a serial : Nat) (progress : CallProgress) (s : State) : State :=
  match s.calls.sounding, s.calls.repetition with
  | some o, some r =>
    if o.serial = some serial ∧ progress = .finished ∧ (addressesOf r.expected).contains a then
      let s1 := mapCalls (fun u => { u with repetition := some { r with awaited := removeNum a r.awaited } }) s
      judgeRepetition (clearFault (.unit a) .callNotReported s1)
    else s
  | _, _ => s

/-- An area added to an order's missing areas. -/
def Order.addMissing (area : Nat) (o : Order) : Order := { o with missing := insertNum area o.missing }

/-- R123, R133: a call unit's row leaves the reachable table, and a unit still awaited is missing, with the area it had when the
repetition was opened (R141). The area joins the order's missing areas at once (the model's choice, log entry 35: R133 adds it to "the
repetition's missing areas" and does not say when those join the order's). -/
def callUnitGone (a : Nat) (s : State) : State :=
  let s1 := mapCalls (fun u => { u with reachable := u.reachable.filter (·.address != a) }) s
  match s1.calls.sounding, s1.calls.repetition with
  | some o, some r =>
    if r.awaited.contains a then
      judgeRepetition (mapCalls (fun u => { u.change o.id (Order.addMissing (areaOf r.expected a)) with repetition := some { r with awaited := removeNum a r.awaited } }) s1)
    else s1
  | _, _ => s1

/-- A row of the reachable table put in its place by address. -/
def insertRow (r : ReachableRow) : List ReachableRow → List ReachableRow
  | [] => [r]
  | x :: l => if r.address < x.address then r :: x :: l else if r.address = x.address then r :: l else x :: insertRow r l

/-- R123: a call unit reported present adds or refreshes its row, from the CALLS section. -/
def callUnitPresent (a : Nat) (s : State) : State :=
  match s.settings.callUnit a with
  | none => s
  | some c => mapCalls (fun u => { u with reachable := insertRow ⟨a, c.area, c.acceptsAll⟩ u.reachable }) s

/-- R133: at the time limit a unit still awaited is counted missing, with the area it had when the repetition was opened (R141), and its
fault raised. -/
def missUnit (o : Order) (r : Repetition) (a : Nat) (s : State) : State :=
  raiseFault (.unit a) .callNotReported (mapCalls (fun u => u.change o.id (Order.addMissing (areaOf r.expected a))) s)

/-- R132: the time limit of a repetition, in seconds. -/
def timeLimit : CallKind → Nat
  | .chime _ => 10
  | .bell n => n + 5
  | .message _ | .staffCode _ | .evac => 120

/-- R132, R162: the Loop Master tells that a CALL has been sent; the repetition's time limit runs from then. -/
def callSent (serial : Nat) (s : State) : State :=
  match s.calls.sounding, s.calls.repetition with
  | some o, some r =>
    if o.serial = some serial then mapCalls (fun u => { u with repetition := some { r with limitAt := some (s.uptime + timeLimit o.kind) } }) s
    else s
  | _, _ => s

/-! ## Placing -/

/-- The value of a countdown as last handed over (R128). -/
def Calls.value (u : Calls) : Anchor → Option Nat
  | .now => none
  | .houseCountdown => u.houseValue
  | .intervalCountdown => u.intervalValue

/-- R128: whether an order is due, by its anchor and the value last handed over. -/
def Order.dueAt (o : Order) (u : Calls) : Bool :=
  match o.anchor, o.offset, u.value o.anchor with
  | .now, _, _ => true
  | _, some off, some v => decide (v ≤ off)
  | _, _, _ => false

/-- R128: the orders of a queue that have become due. -/
def makeDue (now : Nat) (u : Calls) : Calls :=
  { u with queue := u.queue.map (fun o => if o.isWaiting && o.dueAt u then { o with state := .due now } else o) }

/-- R126, R128: an order joins the tail and is judged for becoming due. -/
def joinQueue (o : Order) (s : State) : State :=
  mapCalls (fun u => makeDue s.uptime { u with queue := u.queue ++ [o], nextId := u.nextId + 1 }) s

/-- An order joins the tail, is judged for becoming due, and the line is arbitrated (R126, R128). -/
def enqueue (o : Order) (s : State) : State := contend (joinQueue o s)

/-- The tag of the next internal order (R127; log entry 16). -/
def State.nextInternalTag (s : State) : Nat := 256 + s.calls.nextId

/-- An internal order as it is placed. -/
def internalOrder (s : State) (origin : CallOrigin) (cls : CallClass) (kind : CallKind) (t : Target) (r : Repeats) (a : Anchor)
    (off : Option Nat) : Order :=
  ⟨s.calls.nextId, s.nextInternalTag, origin, cls, kind, t, r, a, off, .waiting, 0, false, []⟩

/-- The most recently placed order of a class that is not SOUNDING. -/
def lastOf (cls : CallClass) (l : List Order) : Option Order := (l.filter (fun o => o.cls == cls && !o.isSounding)).getLast?

/-- The order that gives its place to an incoming EVAC order (R127): lowest class first, most recent first. -/
def evacVictim (l : List Order) : Option Order :=
  ((lastOf .courtesy l).or (lastOf .showing l)).or ((lastOf .staff l).or (lastOf .lifeSafety l))

/-- The order that gives its place to an incoming staff call (R127). -/
def staffVictim (l : List Order) : Option Order := (lastOf .courtesy l).or (lastOf .showing l)

/-- R127, R139: the EVAC order placed; the Alarm Unit's field has been set to its tag by the caller. -/
def placeEvac (s : State) : State :=
  let s1 := if s.calls.queue.length < 16 then s
    else match evacVictim s.calls.queue with
      | some v => endOrder .cut v s
      | none => s
  enqueue (internalOrder s1 .alarm .lifeSafety .evac allAreas .untilReleased .now none) s1

/-- R127, R135: an order that is not taken ends with no place in the queue. -/
def turnAway (out : CallOutcome) (o : Order) (s : State) : State :=
  outcomeNotice out o (handOutcome o.origin o.tag out (mapCalls (fun u => { u with nextId := u.nextId + 1 }) s))

/-- R51, R127: a staff call placed; the entry's field has been set to its tag by the caller. -/
def placeStaff (t : Target) (message : Nat) (s : State) : State :=
  if s.calls.queue.length < 16 then
    enqueue (internalOrder s .alarm .staff (.staffCode message) t .untilReleased .now none) s
  else
    match staffVictim s.calls.queue with
    | some v =>
      let s1 := endOrder .cut v s
      enqueue (internalOrder s1 .alarm .staff (.staffCode message) t .untilReleased .now none) s1
    | none => turnAway .failed (internalOrder s .alarm .staff (.staffCode message) t .untilReleased .now none) s

/-- R95, R127: the display announcement placed; the curtain's field has been set to its tag by the caller. A full queue is the
order's end (R95); in EVACUATION it is handed back DISCARDED. -/
def placeAnnouncement (t : Target) (message : Nat) (s : State) : State :=
  let o := internalOrder s .curtain .showing (.message message) t (.times 1) .now none
  if s.perf.phase = .evacuation then turnAway .discarded o s
  else if s.calls.queue.length < 16 then enqueue o s
  else handOutcome .curtain o.tag .failed (mapCalls (fun u => { u with nextId := u.nextId + 1 }) s)

/-! ## Withdrawing, cutting, discarding -/

/-- R136: a withdrawal acts on one order by its state. -/
def withdrawOrder (o : Order) (s : State) : State :=
  if o.isSounding then mapCalls (fun u => u.change o.id (fun x => { x with withdrawn := true })) s
  else endOrder .withdrawn o s

/-- R130, R136: a withdrawal of each order of a list, by its id, as it then stands, in queue order (the model's choice, log entry 35: R136 and
R130 give none). When an order has ended by it, the line is arbitrated (R131). -/
def withdrawIds (ids : List Nat) (s : State) : State :=
  let t := ids.foldl (fun s id => match s.calls.order id with
    | some o => withdrawOrder o s
    | none => s) s
  if t.calls.queue.length < s.calls.queue.length then arbitrate t else t

/-- The ids of the orders that a test selects, in queue order. -/
def Calls.idsWhere (u : Calls) (p : Order → Bool) : List Nat := (u.queue.filter p).map (·.id)

/-- R136: a withdrawal by the owning block, naming the internal tag. -/
def withdrawInternal (origin : CallOrigin) (tag : Nat) (s : State) : State :=
  withdrawIds (s.calls.idsWhere (fun o => o.origin == origin && o.tag == tag)) s

/-- R139: the EVAC order is cut at the Alarm Unit's request. -/
def cutEvac (tag : Nat) (s : State) : State :=
  match s.calls.queue.find? (fun o => o.origin == .alarm && o.tag == tag) with
  | some o => finishOrder .cut o s
  | none => s

/-- The anchor of a countdown. -/
def anchorOf : CountdownName → Anchor
  | .house => .houseCountdown
  | .interval => .intervalCountdown

/-- The value of a countdown as handed over, set. -/
def Calls.setValue (w : CountdownName) (v : Option Nat) (u : Calls) : Calls :=
  match w with
  | .house => { u with houseValue := v }
  | .interval => { u with intervalValue := v }

/-- R130: the clearing of a countdown withdraws every order anchored to it. -/
def countdownCleared (w : CountdownName) (s : State) : State :=
  let ids := s.calls.idsWhere (fun o => o.anchor == anchorOf w)
  withdrawIds ids (mapCalls (Calls.setValue w none) s)

/-- R128: a countdown's value handed over; every order it makes due is due at once, and the line is arbitrated. -/
def countdownValue (w : CountdownName) (v : Nat) (s : State) : State :=
  contend (mapCalls (fun u => makeDue s.uptime (u.setValue w (some v))) s)

/-- The plan of a countdown. -/
def planOf : CountdownName → PlanName
  | .house => .house
  | .interval => .interval

/-- R129: one used entry of a plan placed, passed over, or reported as not placed. The line is arbitrated after each entry placed, so an order
that ends at once leaves its place to the next (the model's choice, log entry 36: R129 and R131 do not say whether it waits for the last). -/
def placePlanEntry (w : CountdownName) (start : Nat) (s : State) (e : Option PlanEntry × Nat) : State :=
  match e.1 with
  | none => s
  | some x =>
    if start < x.offset then s
    else if s.calls.queue.length < 16 then
      enqueue (internalOrder s .sequencer .showing x.kind x.target (.times 1) (anchorOf w) (some x.offset)) s
    else notify .call (.planEntryNotPlaced (planOf w) (e.2 + 1)) s

/-- R128, R129: the start of a countdown handed over: its value, then the orders of its plan in entry order. -/
def countdownStart (w : CountdownName) (v : Nat) (s : State) : State :=
  (s.settings.plan (planOf w)).zipIdx.foldl (placePlanEntry w v) (countdownValue w v s)

/-- R137: an order of class SHOW or COURTESY ends at the entry to EVACUATION; a SOUNDING one already withdrawn ends WITHDRAWN. -/
def discardIds (ids : List Nat) (s : State) : State :=
  ids.foldl (fun s id => match s.calls.order id with
    | some o => endOrder (if o.isSounding && o.withdrawn then .withdrawn else .discarded) o s
    | none => s) s

/-- R137: the phase entry handed to the Call Controller. Only EVACUATION changes orders. The line is arbitrated once, after every SHOW and
COURTESY order has been discarded (the model's choice, log entry 34: R131 would judge it at each end, and R137 ends them all in one event). -/
def callsPhaseEntry (new : Phase) (s : State) : State :=
  if new = .evacuation then
    arbitrate (discardIds (s.calls.idsWhere (fun o => o.cls == .showing || o.cls == .courtesy)) s)
  else s

end Sys2Proof.Machine
end

