-- ==== Sys2Proof/Machine/Intake.lean ====
section
/-! DEFINITION. The intake: received frames (R180, R182, R183), the passing of requests to their owners (R180), and how a request's own command finds its request there (log entry 6). -/

namespace Sys2Proof.Machine

/-! ## Frames received -/

/-- R180, R188: the Port Unit's own judgement of a received frame. -/
def portJudgement (fitted : Bool) (p : Port) (f : PortFrame) : Option Reason :=
  match f.kind with
  | .unknown _ => some .unknownKind
  | .request _ =>
    if p = .front ∧ ¬ fitted then some .notPermitted
    else if ¬ f.lengthAllowed then some .invalid else none

/-- R182: a tag placed at the tail of the refusal list, which has 24 places. The manual shows that no frame in time finds them all taken;
a tag that does is discarded (the model's choice, log entry 22). -/
def addRefusal (tag : Tag) (l : List Tag) : List Tag := if l.length < 24 then l ++ [tag] else l

/-- R182: a frame that finds 4 requests held is refused FULL, one of an unknown kind too (the model's choice, log entry 36: R182 speaks of a
request frame, and R180 answers UNKNOWN_KIND through the intake); any other joins the intake, with its flow notices (R183). -/
def PortUnit.receive (judged : Option Reason) (f : PortFrame) (u : PortUnit) : PortUnit :=
  let u := { u with reader := .hunting }
  if 4 ≤ u.intake.length then { u with refusals := addRefusal f.tag u.refusals, fullRefusals := satSucc 65535 u.fullRefusals }
  else PortUnit.judgeFlow (PortUnit.answerOwn { u with intake := u.intake ++ [⟨f.tag, f.kind, .waiting, judged⟩] })

/-! ## Passing on -/

/-- R180: the next request passed on, once every request before it has been answered. -/
def passOn : List IntakeEntry → List IntakeEntry
  | [] => []
  | e :: l =>
    match e.step with
    | .replyQueued => e :: passOn l
    | .waiting => (if e.answer.isNone then { e with step := .withOwner } else e) :: l
    | .withOwner => e :: l

/-! ## The request that a command makes -/

/-- Whether an entry is the request of a tag and kind. -/
def IntakeEntry.isFor (tag : Tag) (k : RequestKind) (e : IntakeEntry) : Bool := e.tag == tag && e.kind == .request k

/-- Whether the request of a tag and kind is with its owner (R182). -/
def PortUnit.owned (tag : Tag) (k : RequestKind) (u : PortUnit) : Bool := u.intake.any (fun e => e.isFor tag k && e.step == .withOwner)

/-- Whether the request of a tag and kind waits in the intake (R182). -/
def PortUnit.awaits (tag : Tag) (k : RequestKind) (u : PortUnit) : Bool := u.intake.any (fun e => e.isFor tag k && e.step == .waiting)

/-- R180: the next waiting request passed on, if it is the one of a tag and kind. -/
def PortUnit.pass (tag : Tag) (k : RequestKind) (u : PortUnit) : PortUnit :=
  if PortUnit.owned tag k { u with intake := passOn u.intake } then { u with intake := passOn u.intake } else u

/-- R180: the request of a tag and kind brought to its owner, in its turn. One that does not stand in the intake is received first: its
own command then stands for its frame too (log entry 6). -/
def PortUnit.bring (fitted : Bool) (p : Port) (tag : Tag) (k : RequestKind) (u : PortUnit) : PortUnit :=
  if u.owned tag k then u
  else if u.awaits tag k then u.pass tag k
  else (u.receive (portJudgement fitted p ⟨tag, .request k, [], true⟩) ⟨tag, .request k, [], true⟩).pass tag k

/-- The request of a tag and kind on a port brought to its owner. -/
def State.bring (s : State) (p : Port) (tag : Tag) (k : RequestKind) : State :=
  s.mapPort p (PortUnit.bring s.settings.ports.frontFitted p tag k)

/-- Whether the request of a tag and kind on a port is with its owner. -/
def State.owns (s : State) (p : Port) (tag : Tag) (k : RequestKind) : Bool := (s.port p).owned tag k

end Sys2Proof.Machine
end

