-- ==== Sys2Proof/Machine/Settle.lean ====
section
/-! DEFINITION. The end of every event: the report of room in ORDINARY (R163), the Scanner's move to an eligible channel (R25), the loop's next work (R164 to R166), the transmitters (R184); and `command` and `request`, which the meanings go through (log entries 3, 6 and 11). -/

namespace Sys2Proof.Machine

/-! ## Taking loop work -/

/-- R164: a broadcast, or a SET item whose unit's room is ROOM. -/
def Loop.eligible (u : Loop) (i : LaneItem) : Bool :=
  match i.work with
  | .set a _ => (u.row a).any (·.room == .room)
  | .call _ | .cancel _ => true

/-- The first item that a test selects, marked as being sent. -/
def markFirst (p : LaneItem → Bool) : List LaneItem → List LaneItem
  | [] => []
  | i :: l => if p i then { i with sending := true } :: l else i :: markFirst p l

/-- R173: the next address after the sweep position, wrapping from 31 to 1, whose presence is ABSENT. -/
def Loop.nextSweep (u : Loop) : Option Nat :=
  (loopAddresses.filter (u.sweepPosition < ·) ++ loopAddresses.filter (· ≤ u.sweepPosition)).find?
    (fun a => (u.row a).any (fun r => !r.present))

/-- R164 step 3: the survey probe that is due: a reprobe (R177), then the survey's next, then the sweep's. While the start-up survey runs
no other probe is sent (R172). That a reprobe goes ahead of a full survey's next probe too, and that a sweep probe already due waits until a
full survey has ended, are the model's choices (log entry 35: R177 puts a reprobe ahead of the sweep, and no rule orders the rest). A sweep
probe's address is the one that the sweep stands at when the probe is taken, and a second one made due while the first waits adds none (the
model's choice, log entry 36: R173 says when one is made due and no more). -/
def Loop.nextProbe (u : Loop) : Option (Nat × ProbeKind) :=
  match u.state, u.reprobes, u.survey with
  | .starting, _, v => v.map (·.next, .survey)
  | .running, a :: _, _ => some (a, .reprobe)
  | .running, [], some v => some (v.next, .survey)
  | .running, [], none => if u.sweepDue then u.nextSweep.map (·, .sweep) else none

/-- A transaction begun, with the earliest end of its reply window (R158). A broadcast alone drives the line (log entry 26). -/
def Loop.begin (t : Transaction) (window now : Nat) (u : Loop) : Loop :=
  { u with transaction := some t, windowAt := now + window * 10, drives := t == .broadcast }

/-- A probe begun. -/
def Loop.startProbe (a : Nat) (k : ProbeKind) (window now : Nat) (u : Loop) : Loop :=
  let u := u.begin (.probe a k) window now
  match k with
  | .survey => u
  | .sweep => { u with sweepDue := false, sweepPosition := a }
  | .reprobe => { u with reprobes := u.reprobes.drop 1 }

/-- R166: an item of a lane begun. A SET is issued with the levels of the moment, held when it carries a SAFETY-class channel. -/
def startItem (lane : Lane) (i : LaneItem) (s : State) : State :=
  let u := match lane with
    | .urgent => { s.loop with urgent := markFirst (· == i) s.loop.urgent }
    | .ordinary => { s.loop with ordinary := markFirst (· == i) s.loop.ordinary }
  match i.work with
  | .set a _ =>
    let f : Field := ⟨s.settings, s.light, s.loop⟩
    { s with light := (f.issue a).light, loop := u.begin (.set a (f.levels a) (f.carriesSafety a)) s.settings.loop.replyWindow s.clock.now }
  | .call _ | .cancel _ => { s with loop := u.begin .broadcast s.settings.loop.replyWindow s.clock.now }

/-- The earlier of two due polls; among equal times the one met first (R165). -/
def earlierPoll (best : Option (Nat × Nat)) (r : Nat × Nat) : Option (Nat × Nat) :=
  match best with
  | none => some r
  | some b => if r.2 < b.2 then some r else some b

/-- R165: the POLL that is due, the earliest first, among equal times by ascending address, which is the order of the table. -/
def Loop.duePoll (now : Nat) (u : Loop) : Option Nat :=
  ((u.rows.filterMap (fun r => (r.nextPoll.filter (· ≤ now)).map (r.address, ·))).foldl earlierPoll none).map (·.1)

/-- R165: a POLL begun, with the kind expected at its address. -/
def startPoll (a : Nat) (s : State) : State :=
  { s with loop := s.loop.begin (.poll a (s.settings.loopRow a).expected s.clock.now) s.settings.loop.replyWindow s.clock.now }

/-- R164: the free loop takes the next piece of work, by the order of the rule. In STARTING only a survey probe is taken. -/
def takeWork (s : State) : State :=
  match s.loop.transaction with
  | some _ => s
  | none =>
    match (if s.loop.state = .starting then none else s.loop.urgent.find? s.loop.eligible) with
    | some i => startItem .urgent i s
    | none =>
      match (if s.loop.state = .starting then none else s.loop.duePoll s.clock.now) with
      | some a => startPoll a s
      | none =>
        match s.loop.nextProbe with
        | some (a, k) => { s with loop := s.loop.startProbe a k s.settings.loop.replyWindow s.clock.now }
        | none =>
          match (if s.loop.state = .starting then none else s.loop.ordinary.find? s.loop.eligible) with
          | some i => startItem .ordinary i s
          | none => s

/-! ## The Scanner's path -/

/-- R25: whether a channel may be visited. -/
def ChannelRecord.eligible (v : Settings) (c : ChannelRecord) : Bool :=
  (v.channel c.num).type != .notUsed && c.supply &&
    !(c.cut.any (fun k => k.step == .off || k.step == .blanking))

/-- R25: the next eligible channel after a number, returning to the lowest. -/
def Scanner.nextAfter (v : Settings) (n : Nat) (u : Scanner) : Option Nat :=
  let ns := (u.channels.filter (·.eligible v)).map (·.num)
  (ns.find? (n < ·)).or ns.head?

/-- R25: a path on a channel that has stopped being eligible moves on; a waiting Scanner begins at the lowest eligible channel. -/
def Scanner.settlePath (v : Settings) (u : Scanner) : Scanner :=
  if u.scanning then
    match u.path with
    | none => { u with path := u.nextAfter v 0 }
    | some n => if u.channels.any (fun c => c.num == n && c.eligible v) then u else { u with path := u.nextAfter v n }
  else u

/-! ## The end of an event -/

/-- R163: one report of room to the Light Engine, then one to the Call Controller (log entries 11 and 28). Serving a report can free
a place again only by starting the display lowering, whose flash raises waiting SETs, so three turns suffice; the report is served
whole before the turns run out. -/
def serveRoom : Nat → State → State
  | 0, s => mapLoop (fun u => { u with roomOwed := false }) s
  | k + 1, s =>
    if s.loop.roomOwed then serveRoom k (arbitrate (onField Field.rehand (mapLoop (fun u => { u with roomOwed := false }) s)))
    else s

/-- The end of an event (log entry 11). -/
def settle (s : State) : State :=
  let s1 := serveRoom 8 s
  let s2 := { s1 with scanner := s1.scanner.settlePath s1.settings }
  transmit (takeWork s2)

/-- A command's effect, with the end of its event. While RESET_N is asserted the controller takes nothing (log entry 3). -/
def command (f : State → State) (s : State) : Host.Outcome State Fault Refusal :=
  if s.resetHeld then .next s else .next (settle (f s))

/-- A request's effect. Its owner takes it only once it has been passed on in its turn (R180); until then nothing but the intake
changes. -/
def request (p : Port) (tag : Tag) (k : RequestKind) (f : State → State) : State → Host.Outcome State Fault Refusal :=
  command fun s => if (s.bring p tag k).owns p tag k then f (s.bring p tag k) else s.bring p tag k

/-- The step on an empty queue: 0.1 ms pass with no command, and what has become due begins (the model's choice, log entry 5). -/
def idleTick (s : State) : State := if s.resetHeld then mapClock Clock.tick s else settle (mapClock Clock.tick s)

end Sys2Proof.Machine
end

