-- ==== Sys2Proof/Machine/Curtain.lean ====
section
/-! DEFINITION. The Curtain Controller: limits, stall, drop, release timer, emergency release and display drop (R74 to R98). -/

namespace Sys2Proof.Machine

/-! ## Display drop -/

/-- R98: a display drop in progress is abandoned, with the withdrawal of its announcement. The announcement order field becomes absent at
once, before the outcome of the withdrawal (the model's choice, log entry 33: R98 does not say when it does). -/
def abandonDisplay (r : AbandonReason) (s : State) : State :=
  match s.curtain.display with
  | none => s
  | some d =>
    let s1 := mapCurtain (fun c => { c with display := none, announcement := none }) s
    let s2 := match s.curtain.announcement with
      | some t => withdrawInternal .curtain t s1
      | none => s1
    curtainNotice (.displayAbandoned d r) s2

/-! ## The release timer and the drop -/

/-- The timer made IDLE with a notice, if it runs (R92). -/
def idleTimer (n : Notice) (s : State) : State :=
  if s.curtain.timer = .idle then s else curtainNotice n (mapCurtain (fun c => { c with timer := .idle }) s)

/-- R87, R92: the timer at the entry to DROPPING. Its own causes end it silently; another cause overtakes it. -/
def dropTimer (cause : DropCause) (s : State) : State :=
  match cause with
  | .release | .graceEnd => mapCurtain (fun c => { c with timer := .idle }) s
  | .emergency | .test | .startUp => idleTimer .releaseOvertaken s

/-- R87: the drop record at entry. -/
def Drop.begun (cause : DropCause) (now limit : Nat) : Drop := ⟨cause, now, now + limit, false, none, false⟩

/-- R87: the curtain enters DROPPING, if LIMIT_BOTTOM is inactive; otherwise the state is left and a running timer becomes IDLE.
`faults` is what the rule that drops it raises. -/
def beginDrop (cause : DropCause) (faults : State → State) (s : State) : State :=
  if s.lines.limitBottom then idleTimer .releaseNotNeeded s
  else
    enterCurtain .dropping (.drop cause) (fun s =>
      abandonDisplay .drop (dropTimer cause (faults
        (mapCurtain (fun c => { c with drop := some (Drop.begun cause s.uptime s.settings.curtain.dropLimit) }) s)))) s

/-- R93: while EMERG_RELEASE stays asserted, a curtain at UP, HALTED or FAULT_LOCKED drops. -/
def judgeEmergency (s : State) : State :=
  if s.lines.emergRelease ∧ (s.curtain.state = .up ∨ s.curtain.state = .halted ∨ s.curtain.state = .faultLocked) then
    beginDrop .emergency id s
  else s

/-- R91: the end of the grace with the line obstructed. -/
def endGrace (s : State) : State := beginDrop .graceEnd (raiseCurtainFault .obstructedDrop) s

/-- R90: the hold-off has expired. -/
def expireRelease (s : State) : State :=
  let s1 := curtainNotice (.releaseExpired s.lines.obstructed) s
  if s1.lines.limitBottom then idleTimer .releaseNotNeeded s1
  else if s1.lines.obstructed then
    let s2 := mapCurtain (fun c => { c with timer := .grace (s1.uptime + s1.settings.curtain.grace) }) s1
    if s1.settings.curtain.grace = 0 then endGrace s2 else s2
  else beginDrop .release id s1

/-- R88: the timer started for a zone, with its notice. -/
def startTimer (zone : Nat) (s : State) : State :=
  let h := s.settings.curtain.holdOff
  curtainNotice (.releaseStarted zone h) (mapCurtain (fun c => { c with timer := .running (s.uptime + h), holdsUsed := 0 }) s)

/-- R88: a hold-off of 0 expires in the event that started it. -/
def expireAtOnce (s : State) : State := if s.settings.curtain.holdOff = 0 then expireRelease s else s

/-- R88: the timer started for a zone. A hold-off of 0 expires in the same event. -/
def startRelease (zone : Nat) (s : State) : State := expireAtOnce (startTimer zone s)

/-- R88: the claim "curtain-trigger general alarm". Every claim abandons a display drop, and does so before it starts the timer (the
model's choice, log entry 33: R88 gives no order of the two). -/
def curtainTrigger (zone : Nat) (s : State) : State :=
  let s1 := abandonDisplay .alarm s
  if s1.curtain.state = .down then curtainNotice .releaseNotNeeded s1
  else if s1.curtain.state = .dropping then s1
  else if s1.curtain.timer = .idle then startRelease zone s1
  else s1

/-- R92: the claim "alarm reset complete". -/
def curtainResetComplete (s : State) : State := idleTimer .releaseStoodDown s

/-! ## Changes of state -/

/-- The curtain halted, abandoning a display drop (R98), without the judgement of R93. -/
def haltOnly (cause : CurtainCause) (r : AbandonReason) (faults : State → State) (s : State) : State :=
  enterCurtain .halted cause (fun s => abandonDisplay r (faults s)) s

/-- The curtain halted; an asserted emergency release then drops it (R93). -/
def haltCurtain (cause : CurtainCause) (r : AbandonReason) (faults : State → State) (s : State) : State :=
  judgeEmergency (haltOnly cause r faults s)

/-- The curtain locked by a fault (R75, R77); an asserted emergency release then drops it (R93). -/
def lockCurtain (cause : CurtainCause) (faults : State → State) (s : State) : State :=
  judgeEmergency (enterCurtain .faultLocked cause (fun s => abandonDisplay .fault (faults s)) s)

/-- R87: the faults that the arrival at the bottom clears, and the drop record's end. -/
def endDrop (s : State) : State :=
  match s.curtain.drop with
  | none => s
  | some d =>
    let s1 := clearCurtainFault .dropOverdue s
    let s2 := if d.overspeed then s1 else clearCurtainFault .dropOverspeed s1
    mapCurtain (fun c => { c with drop := none }) s2

/-- R96: the arrival at DOWN in the LOWERING step of a display drop. -/
def displayArrived (s : State) : State :=
  if s.curtain.display = some .lowering then
    let s1 := { s with perf := { s.perf with displayDone := true } }
    curtainNotice .displayDown (mapCurtain (fun c => { c with display := some (.dwell (s.uptime + s.settings.curtain.dwell)) }) s1)
  else s

/-- R74, R87, R92: the curtain reaches DOWN on the bottom limit. -/
def reachDown (s : State) : State :=
  let s1 := enterCurtain .down .bottomLimit (fun s => idleTimer .releaseNotNeeded (endDrop s)) s
  let s2 := match s.curtain.drop with
    | some d => curtainNotice (.dropComplete (s1.uptime - d.startedAt) d.shortest) s1
    | none => s1
  displayArrived s2

/-- R74, R78, R91, R97: the curtain reaches UP on the top limit. A display drop in its RAISING step ends with its notice before an asserted
EMERG_RELEASE begins its drop, which then finds no display drop to abandon (the model's choice, log entry 35: R97 and R93 give no order).
Of the two faults that may be held, "creep" is cleared before "obstructed drop" (the model's choice, log entry 36: R78 and R91 give no
order). -/
def reachUp (s : State) : State :=
  let s1 := enterCurtain .up .topLimit (fun s => clearCurtainFault .obstructedDrop (clearCurtainFault .creep s)) s
  let s2 := if s1.curtain.display = some .raising then
      curtainNotice .displayComplete (mapCurtain (fun c => { c with display := none }) s1)
    else s1
  judgeEmergency s2

/-- R75: both limits active. A drop that ends here has its faults "drop overdue" and "drop overspeed" cleared before "limit conflict" is
raised (the model's choice, log entry 36: no rule orders the two). -/
def limitConflict (s : State) : State :=
  let s1 := mapCurtain (fun c => { c with position := none }) s
  if s1.curtain.state = .faultLocked then raiseCurtainFault .limitConflict s1
  else lockCurtain .limitConflict (fun s => raiseCurtainFault .limitConflict (endDrop s)) s1

/-- The lines changed. -/
def mapLines (f : Lines → Lines) (s : State) : State := { s with lines := f s.lines }

/-- R74: LIMIT_BOTTOM becomes active. Before the resolution the line is only sensed (R99). -/
def bottomActive (s : State) : State :=
  if s.lines.limitBottom then s
  else
    let s1 := mapLines (fun l => { l with limitBottom := true }) s
    if s1.curtain.resolved then
      let s2 := mapCurtain (fun c => { c with position := some 0 }) s1
      if s2.lines.limitTop then limitConflict s2
      else
        match s2.curtain.state with
        | .lowering | .halted | .dropping => reachDown s2
        | .up | .raising | .down | .faultLocked => s2
    else s1

/-- R74: LIMIT_TOP becomes active. -/
def topActive (s : State) : State :=
  if s.lines.limitTop then s
  else
    let s1 := mapLines (fun l => { l with limitTop := true }) s
    if s1.curtain.resolved then
      let s2 := mapCurtain (fun c => { c with position := some s1.settings.curtain.travel }) s1
      if s2.lines.limitBottom then limitConflict s2
      else
        match s2.curtain.state with
        | .raising | .halted => reachUp s2
        | .up | .lowering | .dropping | .down | .faultLocked => s2
    else s1

/-- R74: whether a curtain that leaves DOWN by itself starts the timer: a GENERAL entry of a curtain-trigger zone is held and the timer
is IDLE. -/
def restartsRelease (s : State) : Bool := !s.triggerEntries.isEmpty && s.curtain.timer == .idle

/-- R74: that timer started. Its notice names the zone of the oldest such entry (the model's choice, log entry 33: the manual does not say
which of several). -/
def restartRelease (s : State) : State :=
  match s.triggerEntries with
  | e :: _ => if restartsRelease s then startTimer e.zone s else s
  | [] => s

/-- R74: LIMIT_BOTTOM becomes inactive. The timer is started at step 5 of R73; a hold-off of 0 expires when the change is complete, and an
asserted EMERG_RELEASE then drops the curtain, overtaking the timer (the model's choice, log entry 33: the manual does not order the
timer's start and the drop of R93). -/
def bottomLost (s : State) : State :=
  if s.lines.limitBottom then
    let s1 := mapLines (fun l => { l with limitBottom := false }) s
    if s1.curtain.resolved ∧ s1.curtain.state = .down then
      let s2 := enterCurtain .halted .leftBottom (fun s => abandonDisplay .curtain (restartRelease s)) s1
      judgeEmergency (if restartsRelease s1 then expireAtOnce s2 else s2)
    else s1
  else s

/-- R74, R78: LIMIT_TOP becomes inactive; at UP the curtain has crept. -/
def topLost (s : State) : State :=
  if s.lines.limitTop then
    let s1 := mapLines (fun l => { l with limitTop := false }) s
    if s1.curtain.resolved ∧ s1.curtain.state = .up then haltCurtain .creep .curtain (raiseCurtainFault .creep) s1
    else s1
  else s

/-! ## Encoder and beams -/

/-- R76: whether a transition of a line is an upward step: ENC_A leads ENC_B. -/
def stepsUp (l : Lines) : EncoderLine → Bool
  | .encA => !l.encA != l.encB
  | .encB => !l.encB == l.encA

/-- The line that made the transition, changed, and the step's time. -/
def Lines.step (l : Lines) (now : Nat) : EncoderLine → Lines
  | .encA => { l with encA := !l.encA, lastStepAt := some now }
  | .encB => { l with encB := !l.encB, lastStepAt := some now }

/-- The clock at a step, which tells the time since the previous one (log entry 5). -/
def Clock.stepped (last : Option Nat) (interval : Nat) (c : Clock) : Clock :=
  match last with
  | none => c
  | some t => c.reach (t + interval)

/-- R76: the position after a step; a known one is held within 0 and travel, also where a CONFIG has lowered the travel meanwhile. -/
def stepPosition (up : Bool) (travel : Nat) : Option Nat → Option Nat
  | none => none
  | some p => some (min travel (if up then p + 1 else p - 1))

/-- The shorter of an interval and the shortest seen. -/
def shorter (i : Nat) : Option Nat → Nat
  | none => i
  | some j => min i j

/-- R87: a step of a drop compared with the minimum drop interval. -/
def watchDrop (interval : Nat) (s : State) : State :=
  match s.curtain.drop with
  | none => s
  | some d =>
    let short := decide (interval < s.settings.curtain.minDropInterval)
    let s1 := mapCurtain (fun c => { c with drop := some { d with shortest := some (shorter interval d.shortest), overspeed := d.overspeed || short } }) s
    if short && !d.overspeed then raiseCurtainFault .dropOverspeed s1 else s1

/-- R76: an encoder step. `interval` is the time since the previous step in 0.1 ms. The first step since power-on stores the interval
that the command carries (the model's choice, log entry 34: R76 states none before a second step). -/
def encoderStep (line : EncoderLine) (interval : Nat) (s : State) : State :=
  let i := min interval 255
  let up := stepsUp s.lines line
  let s0 := mapClock (Clock.stepped s.lines.lastStepAt interval) s
  let s1 := mapLines (fun l => l.step s0.clock.now line) s0
  let s2 := mapCurtain (fun c => { c with
    position := stepPosition up s.settings.curtain.travel c.position
    lastInterval := some i
    motionWatch := c.state.watch s.settings.curtain s1.clock.now }) s1
  if s2.curtain.state = .dropping then watchDrop i s2 else s2

/-- R79: the beams as they now stand, and what the setting line's passing between clear and obstructed does. A line that becomes clear in
GRACE with LIMIT_BOTTOM active starts no drop and idles the timer with "release not needed" (the model's choice, log entry 36: R87 and R92
name an expiry and a grace end there, and not the clearing of the line). -/
def beamsChange (us ds : Bool) (s : State) : State :=
  let s1 := mapLines (fun l => { l with beamUs := us, beamDs := ds }) s
  if s1.lines.obstructed = s.lines.obstructed then s1
  else
    let s2 := curtainNotice (.settingLine us ds s.uptime) s1
    if s2.lines.obstructed then
      if s2.curtain.state = .lowering then haltCurtain .obstructed .obstructed id s2 else s2
    else
      match s2.curtain.timer with
      | .grace _ => beginDrop .release id s2
      | .idle | .running _ => s2

/-! ## The request table (R80) -/

def refuseLower : CurtainState → Option Reason
  | .up | .halted => none
  | .lowering | .raising => some .curtainMoving
  | .dropping => some .curtainCommitted
  | .down => some .invalid
  | .faultLocked => some .criticalFault

def refuseRaise : CurtainState → Option Reason
  | .down | .halted => none
  | .lowering | .raising => some .curtainMoving
  | .dropping => some .curtainCommitted
  | .up => some .invalid
  | .faultLocked => some .criticalFault

def refuseDropTest : CurtainState → Option Reason
  | .up => none
  | .lowering | .raising => some .curtainMoving
  | .dropping => some .curtainCommitted
  | .down | .halted => some .curtainNotUp
  | .faultLocked => some .criticalFault

def refuseStop : CurtainState → Option Reason
  | .lowering | .raising => none
  | .dropping => some .curtainCommitted
  | .up | .down | .halted | .faultLocked => some .nothingMoving

def refuseClear : CurtainState → Option Reason
  | .faultLocked => none
  | .dropping => some .curtainCommitted
  | .up | .lowering | .raising | .down | .halted => some .invalid

/-- R81: the gates of CURTAIN LOWER after the state, in order. -/
def gateLower (s : State) : Option Reason :=
  (refuseLower s.curtain.state).or
    (if s.perf.phase = .inShow then some .wrongPhase
     else if s.curtain.display.isSome then some .busy
     else if s.lines.obstructed then some .obstructed else none)

/-- R82. -/
def gateRaise (s : State) : Option Reason :=
  (refuseRaise s.curtain.state).or
    (if s.lines.emergRelease then some .curtainCommitted
     else if s.curtain.display.isSome then some .busy
     else if s.triggerEntries ≠ [] then some .alarmPresent else none)

/-- R84. -/
def gateDropTest (s : State) : Option Reason :=
  (refuseDropTest s.curtain.state).or
    (if s.perf.phase ≠ .dark ∧ s.perf.phase ≠ .prepare then some .wrongPhase
     else if s.curtain.display.isSome then some .busy
     else if s.lines.obstructed then some .obstructed else none)

/-- R95. CURTAIN DISPLAY has the row of CURTAIN DROP TEST in R80's table. -/
def gateDisplay (s : State) : Option Reason :=
  (refuseDropTest s.curtain.state).or
    (if s.perf.phase ≠ .interval then some .wrongPhase
     else if s.curtain.display.isSome then some .busy
     else if ¬ (s.settings.performance.displayRequired = true ∧ s.perf.displayDone = false) then some .invalid
     else if s.lines.obstructed then some .obstructed else none)

/-- R85. -/
def gateClear (s : State) : Option Reason :=
  (refuseClear s.curtain.state).or
    (if s.perf.phase ≠ .dark ∧ s.perf.phase ≠ .prepare then some .wrongPhase
     else if s.lines.limitTop ∧ s.lines.limitBottom then some .invalid else none)

/-- A request that Stage alone may make, judged by its gates and carried out with its reply. -/
def stageRequest (p : Port) (tag : Tag) (gate : Option Reason) (act : State → State) (s : State) : State :=
  match p, gate with
  | .front, _ => refuse p tag .notPermitted s
  | .stage, some r => refuse p tag r s
  | .stage, none => act s

/-- R85: the state that the limits give. -/
def clearedState (l : Lines) : CurtainState :=
  if l.limitTop then .up else if l.limitBottom then .down else .halted

/-- R85: the position that the limits set. -/
def clearedPosition (l : Lines) (travel : Nat) (p : Option Nat) : Option Nat :=
  if l.limitTop then some travel else if l.limitBottom then some 0 else p

/-- R85: a locked curtain returned to service. -/
def clearCurtain (s : State) : State :=
  let s1 := mapCurtain (fun c => { c with position := clearedPosition s.lines s.settings.curtain.travel c.position }) s
  judgeEmergency (enterCurtain (clearedState s.lines) .faultCleared (fun s =>
    let s := clearCurtainFault .limitConflict (clearCurtainFault .curtainStall s)
    if s.curtain.state = .down then idleTimer .releaseNotNeeded s else s) s1)

/-- R95: a display drop started: the step, its notice, and the announcement placed with the tag recorded. The notice goes before the
placing, whose end may be the order's own end in the same event (the model's choice, log entry 33: R95 does not order the two). -/
def startDisplay (s : State) : State :=
  let s1 := mapCurtain (fun c => { c with display := some .announcing, announcement := some s.nextInternalTag }) s
  placeAnnouncement s.settings.curtain.displayTarget s.settings.curtain.displayMessage (curtainNotice .displayStarted s1)

/-- Seconds left until a time. -/
def secondsLeft (t now : Nat) : Nat := t - now

/-- R89: CURTAIN HOLD, judged by the release timer. -/
def holdRelease (p : Port) (tag : Tag) (s : State) : State :=
  match s.curtain.timer with
  | .running _ =>
    if s.curtain.holdsUsed < s.settings.curtain.maxHolds then
      let h := s.settings.curtain.holdOff
      let s1 := mapCurtain (fun c => { c with holdsUsed := c.holdsUsed + 1, timer := .running (s.uptime + h) }) s
      done p tag (curtainNotice (.releaseHeld s1.curtain.holdsUsed h) s1)
    else refuse p tag .holdLimit s
  | .grace _ | .idle => refuse p tag .tooLate s

/-- R86: the results of CURTAIN STATUS. -/
def curtainReply (s : State) : CurtainReply where
  record := s.curtain
  lines := s.lines
  motionLeft := s.curtain.motionWatch.map (fun t => t - s.clock.now)
  timerLeft := match s.curtain.timer with
    | .running t | .grace t => some (secondsLeft t s.uptime)
    | .idle => none
  dwellLeft := match s.curtain.display with
    | some (.dwell t) => some (secondsLeft t s.uptime)
    | _ => none
  dropLeft := s.curtain.drop.map (fun d => secondsLeft d.overdueAt s.uptime)

/-! ## Meanings -/

/-- CURTAIN LOWER (R81). -/
def execCurtainLower (p : Port) (tag : Tag) : State → Host.Outcome State Fault Refusal :=
  request p tag .curtainLower fun s => stageRequest p tag (gateLower s) (fun s => accept p tag (enterCurtain .lowering .lower id s)) s

/-- CURTAIN RAISE (R82). -/
def execCurtainRaise (p : Port) (tag : Tag) : State → Host.Outcome State Fault Refusal :=
  request p tag .curtainRaise fun s => stageRequest p tag (gateRaise s) (fun s => accept p tag (enterCurtain .raising .raise id s)) s

/-- CURTAIN STOP (R83), from either port. -/
def execCurtainStop (p : Port) (tag : Tag) : State → Host.Outcome State Fault Refusal :=
  request p tag .curtainStop fun s =>
    match refuseStop s.curtain.state with
    | some r => refuse p tag r s
    | none => done p tag (haltCurtain .stop .stop id s)

/-- CURTAIN DROP TEST (R84). -/
def execCurtainDropTest (p : Port) (tag : Tag) : State → Host.Outcome State Fault Refusal :=
  request p tag .curtainDropTest fun s => stageRequest p tag (gateDropTest s) (fun s => accept p tag (beginDrop .test id s)) s

/-- CURTAIN CLEAR FAULT (R85). -/
def execCurtainClearFault (p : Port) (tag : Tag) : State → Host.Outcome State Fault Refusal :=
  request p tag .curtainClearFault fun s => stageRequest p tag (gateClear s) (fun s => done p tag (clearCurtain s)) s

/-- CURTAIN STATUS (R86). The record is no list, so the first item named changes nothing (log entry 8). -/
def execCurtainStatus (p : Port) (tag : Tag) (s : State) (_first : Nat := 0) : Host.Outcome State Fault Refusal :=
  request p tag .curtainStatus (fun s => reply p tag (.done (.curtain (curtainReply s))) s) s

/-- CURTAIN HOLD (R89). -/
def execCurtainHold (p : Port) (tag : Tag) : State → Host.Outcome State Fault Refusal :=
  request p tag .curtainHold fun s => stageRequest p tag none (holdRelease p tag) s

/-- CURTAIN DISPLAY (R95). -/
def execCurtainDisplay (p : Port) (tag : Tag) : State → Host.Outcome State Fault Refusal :=
  request p tag .curtainDisplay fun s => stageRequest p tag (gateDisplay s) (fun s => accept p tag (startDisplay s)) s

/-- A line's change. While RESET_N is asserted it is only sensed (R99). -/
def lineCommand (sense : Lines → Lines) (f : State → State) (s : State) : Host.Outcome State Fault Refusal :=
  if s.resetHeld then .next (mapLines sense s) else command f s

/-- LIMIT_BOTTOM becomes active (R74). -/
def execLimitBottomActive : State → Host.Outcome State Fault Refusal :=
  lineCommand (fun l => { l with limitBottom := true }) bottomActive

/-- LIMIT_BOTTOM becomes inactive (R74). -/
def execLimitBottomLost : State → Host.Outcome State Fault Refusal :=
  lineCommand (fun l => { l with limitBottom := false }) bottomLost

/-- LIMIT_TOP becomes active (R74). -/
def execLimitTopActive : State → Host.Outcome State Fault Refusal :=
  lineCommand (fun l => { l with limitTop := true }) topActive

/-- LIMIT_TOP becomes inactive (R74, R78). -/
def execLimitTopLost : State → Host.Outcome State Fault Refusal :=
  lineCommand (fun l => { l with limitTop := false }) topLost

/-- An encoder transition (R76). While RESET_N is asserted the encoder is sensed (R99). -/
def execEncoderStep (line : EncoderLine) (interval : Nat) (s : State) : Host.Outcome State Fault Refusal :=
  if s.resetHeld then .next (encoderStep line interval s) else command (encoderStep line interval) s

/-- The motion watch ends (R77). The clock reaches its end (log entry 5). -/
def execMotionWatchEnd : State → Host.Outcome State Fault Refusal :=
  command fun s =>
    match s.curtain.motionWatch with
    | none => s
    | some t => lockCurtain .stall (raiseCurtainFault .curtainStall) (mapClock (Clock.reach t) s)

/-- The beams change (R79). -/
def execSettingLineChange (us ds : Bool) : State → Host.Outcome State Fault Refusal :=
  lineCommand (fun l => { l with beamUs := us, beamDs := ds }) (beamsChange us ds)

/-- The release hold-off ends (R90). -/
def execReleaseExpiry : State → Host.Outcome State Fault Refusal :=
  command fun s =>
    match s.curtain.timer with
    | .running t => if t ≤ s.uptime then expireRelease s else s
    | .grace _ | .idle => s

/-- The grace ends (R91). -/
def execGraceEnd : State → Host.Outcome State Fault Refusal :=
  command fun s =>
    match s.curtain.timer with
    | .grace t => if t ≤ s.uptime then endGrace s else s
    | .running _ | .idle => s

/-- The drop limit passes with the curtain still DROPPING (R87), once in a drop. -/
def execDropOverdue : State → Host.Outcome State Fault Refusal :=
  command fun s =>
    match s.curtain.drop with
    | none => s
    | some d =>
      if s.curtain.state = .dropping ∧ d.overdueAt ≤ s.uptime ∧ d.overdueTaken = false then
        curtainNotice .dropOverdue (raiseCurtainFault .dropOverdue (mapCurtain (fun c => { c with drop := some { d with overdueTaken := true } }) s))
      else s

/-- R97: the automatic raise judged at the end of the dwell. -/
def judgeDisplayRaise (s : State) : State :=
  if s.anyGeneral then abandonDisplay .alarm s
  else if s.curtain.state ≠ .down then s
  else enterCurtain .raising .display id (mapCurtain (fun c => { c with display := some .raising }) s)

/-- The display dwell ends (R97). -/
def execDwellEnd : State → Host.Outcome State Fault Refusal :=
  command fun s =>
    match s.curtain.display with
    | some (.dwell t) => if t ≤ s.uptime then judgeDisplayRaise s else s
    | _ => s

/-- EMERG_RELEASE becomes asserted (R93). -/
def execEmergReleaseAsserted : State → Host.Outcome State Fault Refusal :=
  lineCommand (fun l => { l with emergRelease := true }) fun s =>
    let s1 := mapLines (fun l => { l with emergRelease := true }) s
    if s1.curtain.state = .down ∨ s1.curtain.state = .dropping ∨ s.lines.emergRelease then s1
    else beginDrop .emergency id s1

/-- EMERG_RELEASE becomes released, which changes nothing but the line (R93). -/
def execEmergReleaseReleased : State → Host.Outcome State Fault Refusal :=
  lineCommand (fun l => { l with emergRelease := false }) (mapLines fun l => { l with emergRelease := false })

end Sys2Proof.Machine
end

