-- ==== Sys2Proof/Machine/ScannerCore.lean ====
section
/-! DEFINITION. What other blocks ask of the Input Scanner: CHANNEL notices (R30), fresh confirm runs (R27), loop-reset claims (R31, R32), and a new performance number (R38). -/

namespace Sys2Proof.Machine

def mapScanner (f : Scanner → Scanner) (s : State) : State := { s with scanner := f s.scanner }

/-- One channel's record changed. -/
def mapChannel (n : Nat) (f : ChannelRecord → ChannelRecord) (s : State) : State := mapScanner (fun u => u.change n f) s

/-- R30: a CHANNEL notice with the channel's state as it stands. Before the step of start-up that begins the scanning no notice comes
from the Scanner (R24). -/
def channelNotice (n : Nat) (previous : ChannelState) (ev : ChannelEvent) (mark : AlarmMark) (s : State) : State :=
  match s.scanner.scanning, s.scanner.record n with
  | false, _ => s
  | true, none => s
  | true, some c => notify .channel (.channel n (s.settings.channel n).zone c.state previous c.lastReading s.uptime ev mark) s

/-- R30: the CHANNEL notice of a change, which a channel isolated in effect does not send. -/
def changeNotice (n : Nat) (previous : ChannelState) (ev : ChannelEvent) (mark : AlarmMark) (s : State) : State :=
  if s.settings.isolatedInEffect n then s else channelNotice n previous ev mark s

/-- R27: the run emptied. -/
def ChannelRecord.emptyRun (c : ChannelRecord) : ChannelRecord := { c with candidate := none, run := 0 }

/-- R27: a fresh confirm run. -/
def ChannelRecord.fresh (c : ChannelRecord) : ChannelRecord := { c.emptyRun with state := .normal, firstPending := true }

/-- R27: a fresh confirm run begins; out of BLANKED it sends one notice. -/
def freshRun (n : Nat) (s : State) : State :=
  match s.scanner.record n with
  | none => s
  | some c =>
    let s1 := mapChannel n ChannelRecord.fresh s
    if c.state = .blanked then changeNotice n .blanked .state .plain s1 else s1

/-- Whether a channel is in a cut of a purpose. -/
def ChannelRecord.inCut (c : ChannelRecord) (p : CutPurpose) : Bool := c.cut.any (·.purpose == p)

/-- R31: the end of the OFF step that a claim gives a channel; a claim never shortens an OFF step already running. -/
def ChannelRecord.offEnd (c : ChannelRecord) (now off : Nat) : Nat :=
  match c.cut with
  | some ⟨.loopReset, .off, some t, _⟩ => max t (now + off)
  | _ => now + off

/-- R31: the record of a channel whose supply a claim cuts. -/
def ChannelRecord.cutOff (now off : Nat) (c : ChannelRecord) : ChannelRecord :=
  { c with state := .blanked, firstPending := false, supply := false, cut := some ⟨.loopReset, .off, some (c.offEnd now off), 0⟩ }

/-- R31: a channel restarted in a loop reset is waited for again by every claim that includes it. -/
def ResetClaim.await (n : Nat) (k : ResetClaim) : ResetClaim :=
  if k.channels.contains n then { k with outstanding := insertNum n k.outstanding, inAlarm := removeNum n k.inAlarm } else k

/-- R31 steps 1 and 2 for one channel of a claim. -/
def cutChannel (s : State) (n : Nat) : State :=
  match s.scanner.record n with
  | none => s
  | some c =>
    let restarted := c.inCut .loopReset
    let s1 := mapChannel n (ChannelRecord.cutOff s.uptime s.settings.channels.offTime) s
    let s2 := if restarted then mapScanner (fun u => { u with claims := u.claims.map (ResetClaim.await n) }) s1 else s1
    changeNotice n c.state .cut .plain s2

/-- R31: the channels of a set whose type is not NOT_USED. -/
def usedOf (v : Settings) (ns : List Nat) : List Nat := ns.filter (fun n => (v.channel n).type != .notUsed)

/-- R31, R32: the Scanner takes a loop-reset claim. One whose channels are all NOT_USED is complete at once. -/
def takeClaim (p : ResetPurpose) (ns : List Nat) (s : State) : State :=
  let used := usedOf s.settings ns
  let s1 := used.foldl cutChannel s
  mapScanner (fun u => { u with claims := u.claims ++ [⟨p, ns, used, [], false⟩] }) s1

/-- R32: a claim with no recovery check outstanding. -/
def ResetClaim.complete (k : ResetClaim) : Bool := k.outstanding.isEmpty

/-- R32, R56: the results of the complete claims, in the order taken, but for those that are set aside. -/
def Scanner.results (u : Scanner) : List ScanReport :=
  (u.claims.filter (fun k => k.complete && !k.setAside)).map (fun k => .result k.purpose k.inAlarm)

/-- R32: the complete claims removed. -/
def Scanner.dropComplete (u : Scanner) : Scanner := { u with claims := u.claims.filter (fun k => !k.complete) }

/-- R32: a channel's recovery check ends, in every claim that includes it. -/
def ResetClaim.count (n : Nat) (inAlarm : Bool) (k : ResetClaim) : ResetClaim :=
  if k.channels.contains n then
    { k with outstanding := removeNum n k.outstanding, inAlarm := if inAlarm then insertNum n k.inAlarm else removeNum n k.inAlarm }
  else k

def countCheck (n : Nat) (inAlarm : Bool) (s : State) : State :=
  mapScanner (fun u => { u with claims := u.claims.map (ResetClaim.count n inAlarm) }) s

/-- R56: a stand-down claim whose entry an alarm reset removes. -/
def ResetClaim.orphan (k : ResetClaim) : ResetClaim :=
  match k.purpose with
  | .standDown _ => { k with setAside := true }
  | .alarmReset => k

/-- R56: the result of every stand-down claim still held is set aside: an alarm reset removes all entries. -/
def orphanStandDowns (s : State) : State := mapScanner (fun u => { u with claims := u.claims.map ResetClaim.orphan }) s

/-- R38: a new performance number. -/
def newPerformance (s : State) : State :=
  channelNumbers.foldl (fun s n => clearFault (.channel n) .channelUnstable s)
    (mapScanner (fun u => { u with channels := u.channels.map (fun c => { c with unconfirmed := 0 }) }) s)

end Sys2Proof.Machine
end

