-- ==== Sys2Proof/Machine/Performance.lean ====
section
/-! DEFINITION. The Performance Sequencer: changes of phase (R3 to R14), clearances (R15 to R18), countdowns (R19 to R21), and its status (R22). -/

namespace Sys2Proof.Machine

def mapPerf (f : PerfRecord → PerfRecord) (s : State) : State := { s with perf := f s.perf }

/-! ## A change of phase -/

/-- R4: the clearing of a countdown that was present, handed to the Call Controller. -/
def handClear (w : CountdownName) (clears : Bool) (was : Option Nat) (s : State) : State :=
  if clears ∧ was.isSome then countdownCleared w s else s

/-- R4: the start of a countdown handed to the Call Controller. -/
def handStart (w : CountdownName) (starts : Option Nat) (s : State) : State :=
  match starts with
  | none => s
  | some n => countdownStart w n s

/-- R4: a change of phase with its notices and then its hand-offs. -/
def changePhase (c : PhaseChange) (s : State) : State :=
  let r := s.perf
  let s1 := enterRecord c s
  let s2 := handClear .interval c.clearsInterval r.intervalCountdown (handClear .house c.clearsHouse r.houseCountdown s1)
  let s3 := callsPhaseEntry c.target s2
  let s4 := onField (Field.enterPhase c.target r.phase c.clearsManual) s3
  handStart .interval c.startsInterval (handStart .house c.startsHouse s4)

/-- R13: the claim to enter EVACUATION. -/
def claimEvacuation (s : State) : State :=
  if s.perf.phase = .evacuation then s
  else changePhase { s.perf.plainChange .evacuation .alarm with clearsHouse := true, clearsInterval := true, act := none } s

/-! ## PHASE -/

/-- R3 test 1: the pairs that may be requested. -/
def requestable : Phase → Phase → Bool
  | .dark, .prepare => true
  | .prepare, .dark => true
  | .prepare, .houseOpen => true
  | .houseOpen, .inShow => true
  | .inShow, .interval => true
  | .interval, .inShow => true
  | .inShow, .showStop => true
  | .showStop, .inShow => true
  | .inShow, .showOut => true
  | .showStop, .showOut => true
  | .interval, .showOut => true
  | .showOut, .prepare => true
  | .showOut, .dark => true
  | .evacuation, .prepare => true
  | .evacuation, .dark => true
  | _, _ => false

/-- R3 test 2, R6, R188: the port of a pair. -/
def authorised (fitted : Bool) (p : Port) (a b : Phase) : Bool :=
  if a = .prepare ∧ b = .houseOpen ∧ fitted then p == .front else p == .stage

/-- R3 test 3: the carried fields that the transition uses are in range. -/
def fieldsInRange (a b : Phase) (countdown length : Option Nat) : Bool :=
  match a, b with
  | .prepare, .houseOpen => countdown.all (· ≤ 7200)
  | .inShow, .interval => length.all (fun n => decide (60 ≤ n) && decide (n ≤ 3600))
  | _, _ => true

/-- A gate: the reason when it fails. -/
def gate (ok : Bool) (r : Reason) : Option Reason := if ok then none else some r

/-- R3 test 4: the gates of a transition, in the order of the table of 1.2. -/
def phaseGates (a b : Phase) (override : Bool) (s : State) : Option Reason :=
  let fitted := s.settings.ports.frontFitted
  let noAlarm := gate s.alarm.entries.isEmpty .alarmPresent
  let up := gate (s.curtain.state == .up) .curtainNotUp
  let houseGiven := gate (!fitted || s.perf.houseClearance.isSome) .noClearance
  match a, b with
  | .dark, .prepare => noAlarm
  | .prepare, .houseOpen =>
    (((gate (!fitted || s.perf.stageClearance.isSome) .noClearance).or (gate (!s.sup.critical) .criticalFault)).or noAlarm).or
      (gate (s.curtain.state == .up || s.curtain.state == .down) .curtainMoving)
  | .houseOpen, .inShow => houseGiven.or up
  | .inShow, .interval => gate (s.perf.act.getD 0 < 5) .actLimit
  | .interval, .inShow =>
    (houseGiven.or up).or
      (gate (!s.settings.performance.displayRequired || s.perf.displayDone || override) .displayOutstanding)
  | .showStop, .inShow => up
  | .evacuation, .prepare => noAlarm
  | .evacuation, .dark => noAlarm
  | _, _ => none

/-- The particular effects of a transition, by the table of 1.2. -/
def phaseEffects (a b : Phase) (cause : PhaseCause) (countdown length : Option Nat) (v : Settings) (r : PerfRecord) : PhaseChange :=
  let plain := r.plainChange b cause
  match a, b with
  | .prepare, .dark => { plain with clearsHouse := true, clearsManual := true }
  | .prepare, .houseOpen =>
    { plain with
      number := (r.number + 1) % 65536, act := some 1, displayDone := false, consumes := some .stage
      clearsHouse := countdown.isSome, startsHouse := countdown, clearsManual := true }
  | .houseOpen, .inShow => { plain with clearsHouse := true, consumes := some .house }
  | .inShow, .interval => { plain with startsInterval := some (length.getD v.ports.intervalLength) }
  | .interval, .inShow => { plain with act := r.act.map (· + 1), clearsInterval := true, consumes := some .house }
  | .inShow, .showOut | .showStop, .showOut | .interval, .showOut =>
    { plain with clearsHouse := true, clearsInterval := true, act := none }
  | .showOut, .dark | .evacuation, .dark => { plain with clearsManual := true }
  | _, _ => plain

def causeOf : Port → PhaseCause
  | .stage => .stage
  | .front => .front

/-- R3: the judgement of a PHASE request. -/
def judgePhase (p : Port) (target : Phase) (countdown length : Option Nat) (override : Bool) (s : State) : Option Reason :=
  let a := s.perf.phase
  if ¬ requestable a target then some .badTransition
  else if ¬ authorised s.settings.ports.frontFitted p a target then some .notPermitted
  else if ¬ fieldsInRange a target countdown length then some .invalid
  else phaseGates a target override s

/-- R6: the new performance number handed to the Scanner, after the hand-offs of R4 (the model's choice, log entry 34: R6 says "also
handed" and gives it no place among them). -/
def handNumber (a b : Phase) (s : State) : State := if a = .prepare ∧ b = .houseOpen then newPerformance s else s

/-- R3: an accepted PHASE request. -/
def performPhase (p : Port) (target : Phase) (countdown length : Option Nat) (s : State) : State :=
  let a := s.perf.phase
  handNumber a target (changePhase (phaseEffects a target (causeOf p) countdown length s.settings s.perf) s)

/-! ## Clearances -/

/-- The clearance of a port (R15). -/
def clearanceOf : Port → ClearanceName
  | .stage => .stage
  | .front => .house

def PerfRecord.clearance (r : PerfRecord) : ClearanceName → Option Nat
  | .stage => r.stageClearance
  | .house => r.houseClearance

def PerfRecord.setClearance (r : PerfRecord) (w : ClearanceName) (v : Option Nat) : PerfRecord :=
  match w with
  | .stage => { r with stageClearance := v }
  | .house => { r with houseClearance := v }

/-- R15: the phases in which a port may give its clearance. -/
def mayGive : Port → Phase → Bool
  | .stage, ph => ph == .prepare
  | .front, ph => ph == .houseOpen || ph == .interval

/-! ## Countdowns -/

def PerfRecord.countdown (r : PerfRecord) : CountdownName → Option Nat
  | .house => r.houseCountdown
  | .interval => r.intervalCountdown

def PerfRecord.setCountdown (r : PerfRecord) (w : CountdownName) (v : Option Nat) : PerfRecord :=
  match w with
  | .house => { r with houseCountdown := v }
  | .interval => { r with intervalCountdown := v }

/-- R19: a running house countdown cleared, with its notice and hand-off; none when it is absent. One that stands at 0 is present and is
cleared like a running one (the model's choice, log entry 34: R19 speaks of a running countdown and of an absent one). Before a new start the
notice "cleared" and the hand-off of the clearing come first, with all that the Call Controller does at it (the model's choice, log entry 36:
R19 orders neither the notices nor the hand-offs). -/
def clearHouse (s : State) : State :=
  match s.perf.houseCountdown with
  | none => s
  | some n => countdownCleared .house (noticeCountdownClear .house true (some n) (mapPerf (fun r => { r with houseCountdown := none }) s))

/-- R19: the house countdown started at a value: its notices, then its hand-off (the order of log entry 36). -/
def startHouse (n : Nat) (s : State) : State :=
  let s1 := mapPerf (fun r => { r with houseCountdown := some n }) s
  countdownStart .house n (noticeCountdownStart .house (some n) s1)

/-- R19: the phases in which SET COUNTDOWN is accepted. -/
def maySetCountdown (s : State) : Bool := s.perf.phase == .prepare || s.perf.phase == .houseOpen

/-- R20: the interval countdown lengthened. 0 seconds leave a countdown that stands at 0 there, with the notice "extended" and no second
"interval end due" (the model's choice, log entry 36: R20 sets it running from the added seconds and says nothing of none). -/
def extendInterval (seconds left : Nat) (s : State) : State :=
  let s1 := mapPerf (fun r => { r with intervalCountdown := some (left + seconds) }) s
  countdownValue .interval (left + seconds) (notifyCountdown .interval .extended (left + seconds) s1)

/-- R21: the event of a countdown's reaching 0. -/
def zeroEvent : CountdownName → CountdownEvent
  | .house => .curtainUpDue
  | .interval => .intervalEndDue

/-- R21: the notice of a countdown that a decrement has brought to 0. -/
def noticeZero (w : CountdownName) (n : Nat) (s : State) : State := if n = 0 then notifyCountdown w (zeroEvent w) 0 s else s

/-- R21: one running countdown decremented, with its notice at 0, and its value handed over after it (log entry 9). -/
def tickCountdown (w : CountdownName) (s : State) : State :=
  match s.perf.countdown w with
  | none => s
  | some n =>
    if n = 0 then s
    else countdownValue w (n - 1) (noticeZero w (n - 1) (mapPerf (fun r => r.setCountdown w (some (n - 1))) s))

/-- The greatest time stamp (00_scope.md, Times). -/
def greatestUptime : Nat := 4294967295

/-- Uptime one second on. What follows the greatest time stamp is a free value (log entry 15). -/
def advanceUptime (s : State) : State :=
  if s.uptime < greatestUptime then { s with uptime := s.uptime + 1 }
  else { s with uptime := (Config.uptimeAfterGreatest s.freeCount).toNat, freeCount := s.freeCount + 1 }

/-- R21: uptime advances by a second, the model's clock reaches that second (log entry 5), and each running countdown is decremented. -/
def uptimePasses (s : State) : State :=
  tickCountdown .interval (tickCountdown .house (advanceUptime (mapClock Clock.secondPassed s)))

/-- R22: the results of PERFORMANCE STATUS. -/
def performanceReply (s : State) : PerformanceReply where
  record := s.perf
  displayRequired := s.settings.performance.displayRequired
  stageLeft := s.perf.stageClearance.map (fun t => secondsLeft (t + s.settings.ports.clearanceLife) s.uptime)
  houseLeft := s.perf.houseClearance.map (fun t => secondsLeft (t + s.settings.ports.clearanceLife) s.uptime)
  frontFitted := s.settings.ports.frontFitted
  intervalLength := s.settings.ports.intervalLength
  clearanceLife := s.settings.ports.clearanceLife

/-! ## Meanings -/

/-- PHASE (R3). -/
def execPhase (p : Port) (tag : Tag) (target : Phase) (countdown length : Option Nat) (override : Bool) :
    State → Host.Outcome State Fault Refusal :=
  request p tag .phase fun s =>
    match judgePhase p target countdown length override s with
    | some r => refuse p tag r s
    | none => done p tag (performPhase p target countdown length s)

/-- GIVE CLEARANCE (R15). -/
def execGiveClearance (p : Port) (tag : Tag) : State → Host.Outcome State Fault Refusal :=
  request p tag .giveClearance fun s =>
    if mayGive p s.perf.phase then
      let w := clearanceOf p
      let ev : ClearanceEvent := if (s.perf.clearance w).isSome then .refreshed else .given
      done p tag (notifyClearance w ev (mapPerf (fun r => r.setClearance w (some s.uptime)) s))
    else refuse p tag .wrongPhase s

/-- WITHDRAW CLEARANCE (R16). -/
def execWithdrawClearance (p : Port) (tag : Tag) : State → Host.Outcome State Fault Refusal :=
  request p tag .withdrawClearance fun s =>
    let w := clearanceOf p
    if (s.perf.clearance w).isSome then
      done p tag (notifyClearance w .withdrawn (mapPerf (fun r => r.setClearance w none) s))
    else refuse p tag .nothingToWithdraw s

/-- SET COUNTDOWN with a value (R19). The phase is judged before the value (the model's choice, log entry 34: R19 orders neither). -/
def execSetCountdown (p : Port) (tag : Tag) (value : Nat) : State → Host.Outcome State Fault Refusal :=
  request p tag .setCountdown fun s =>
    if ¬ maySetCountdown s then refuse p tag .wrongPhase s
    else if 7200 < value then refuse p tag .invalid s
    else done p tag (startHouse value (clearHouse s))

/-- SET COUNTDOWN with the selector "clear" (R19). -/
def execSetCountdownClear (p : Port) (tag : Tag) : State → Host.Outcome State Fault Refusal :=
  request p tag .setCountdown fun s =>
    if ¬ maySetCountdown s then refuse p tag .wrongPhase s
    else done p tag (clearHouse s)

/-- EXTEND INTERVAL (R20). The phase is judged before the seconds (the model's choice, log entry 34: R20 orders neither). -/
def execExtendInterval (p : Port) (tag : Tag) (seconds : Nat) : State → Host.Outcome State Fault Refusal :=
  request p tag .extendInterval fun s =>
    if s.perf.phase ≠ .interval then refuse p tag .wrongPhase s
    else
      match s.perf.intervalCountdown with
      | none => refuse p tag .invalid s
      | some n =>
        if 900 < seconds ∨ 3600 < n + seconds then refuse p tag .invalid s
        else done p tag (extendInterval seconds n s)

/-- PERFORMANCE STATUS (R22). The record is no list, so the first item named changes nothing (log entry 8). -/
def execPerformanceStatus (p : Port) (tag : Tag) (s : State) (_first : Nat := 0) : Host.Outcome State Fault Refusal :=
  request p tag .performanceStatus (fun s => reply p tag (.done (.performance (performanceReply s))) s) s

/-- A clearance lapses when uptime has reached the end of its life (R17). -/
def execClearanceLapse (w : ClearanceName) : State → Host.Outcome State Fault Refusal :=
  command fun s =>
    match s.perf.clearance w with
    | none => s
    | some t =>
      if t + s.settings.ports.clearanceLife ≤ s.uptime then
        notifyClearance w .lapsed (mapPerf (fun r => r.setClearance w none) s)
      else s

/-- Uptime advances (R21). Before start-up's last step uptime stands at 0 (R195). -/
def execUptimeAdvance : State → Host.Outcome State Fault Refusal :=
  command fun s => if s.startStep = .done then uptimePasses s else s

/-- The advance of uptime that brings a countdown to 0 (R21; log entry 9). With the countdown at any other value nothing is due. -/
def execCountdownReachesZero (w : CountdownName) : State → Host.Outcome State Fault Refusal :=
  command fun s => if s.startStep = .done ∧ s.perf.countdown w = some 1 then uptimePasses s else s

end Sys2Proof.Machine
end

