-- ==== Sys2Proof/Machine/Alarm.lean ====
section
/-! DEFINITION. The Alarm Unit: reports of the Scanner (R47 to R49), the staff stage (R51 to R56), general alarm (R58 to R60), presentation (R61 to R63), sounders (R64 to R66), the alarm reset (R67 to R69); and the abort a new entry hands the Settings Store (R50, R194). -/

namespace Sys2Proof.Machine

def mapAlarm (f : AlarmUnit → AlarmUnit) (s : State) : State := { s with alarm := f s.alarm }

/-- A free value used up (log entry 8). -/
def spend (s : State) : State := { s with freeCount := s.freeCount + 1 }

/-- The entry of a zone changed in its place. -/
def AlarmUnit.change (u : AlarmUnit) (z : Nat) (f : AlarmEntry → AlarmEntry) : AlarmUnit :=
  { u with entries := u.entries.map (fun e => if e.zone == z then f e else e) }

/-! ## The abort of a store -/

/-- A section's place in the Settings Store changed. -/
def mapStoreRow (n : SectionName) (f : StoreRow → StoreRow) (s : State) : State :=
  { s with store := { s.store with rows := s.store.rows.map (fun r => if r.name = n then f r else r) } }

def setOperation (o : Option StoreOperation) (s : State) : State := { s with store := { s.store with operation := o } }

/-- R194: the abort handed by a new alarm entry. -/
def abortStore (zone : Nat) (s : State) : State :=
  match s.store.operation with
  | none => s
  | some op =>
    let s1 := mapStoreRow op.name (fun r => { r with cell := .blank, stored := .blank }) (setOperation none s)
    raiseFault (.store op.name) .storeAborted (notify .store (.storeAborted op.name zone) s1)

/-! ## Presentation -/

/-- R61: the oldest entry not acknowledged. -/
def AlarmUnit.presented (u : AlarmUnit) : Option AlarmEntry := u.entries.find? (·.acked.isNone)

/-- R45: when an entry became GENERAL. -/
def AlarmStage.generalAt : AlarmStage → Option Nat
  | .general t => some t
  | .staffAlert _ | .investigating _ | .standingDown => none

/-- R62: the notice of the presented entry. -/
def presentedNotice (e : AlarmEntry) (s : State) : Notice :=
  .alarmPresented e.zone (s.settings.zone e.zone).areaKind e.stage.name e.opening e.channels.length e.raisedAt e.stage.generalAt
    s.alarm.entries.length (s.alarm.entries.filter (·.acked.isNone)).length

/-- R61, R62: the presented entry found afresh at the end of an event, with its notice when another entry or another stage is shown. -/
def refreshPresented (s : State) : State :=
  match s.alarm.presented with
  | none => mapAlarm (fun u => { u with lastShown := none }) s
  | some e =>
    if s.alarm.lastShown = some (e.zone, e.stage.name) then s
    else notifyAlways (presentedNotice e s) (mapAlarm (fun u => { u with lastShown := some (e.zone, e.stage.name) }) s)

/-! ## General alarm -/

/-- R68: a reset in progress is disturbed. -/
def disturb (s : State) : State := mapAlarm (fun u => { u with resetting := u.resetting.map (fun k => { k with disturbed := true }) }) s

/-- R64: the sounders SOUNDING, and the EVAC order placed if none is held. -/
def soundAlarm (s : State) : State :=
  let s1 := mapAlarm (fun u => { u with sounder := .sounding }) s
  if s1.alarm.evacOrder.isSome then s1
  else placeEvac (mapAlarm (fun u => { u with evacOrder := some s.nextInternalTag }) s1)

/-- R64: the step of R58 that concerns the sounders. `fresh` is the column "new, or EVACUATE". -/
def soundStep (fresh : Bool) (s : State) : State :=
  match s.alarm.sounder, fresh with
  | .silenced, false => s
  | .silenced, true | .sounding, _ | .off, _ => soundAlarm s

/-- A staff order withdrawn, if the entry's field holds one (R51). -/
def withdrawStaff (e : AlarmEntry) (s : State) : State :=
  match e.staffOrder with
  | some t => withdrawInternal .alarm t s
  | none => s

/-- R58: the hand-offs of an entry that has become GENERAL, in the order of R58: the phase entry reaches the Call Controller before the
withdrawal of the staff call and the placing of the EVAC order (the model's choice, log entry 35: R137 allows either order). -/
def generalHandOffs (e : AlarmEntry) (fresh : Bool) (s : State) : State :=
  let s1 := withdrawStaff e (claimEvacuation s)
  let s2 := soundStep fresh (mapAlarm (fun u => { u with relay := true }) s1)
  if (s2.settings.zone e.zone).curtainTrigger then curtainTrigger e.zone s2 else s2

/-- R58: the changes of the entry. -/
def AlarmEntry.general (now : Nat) (e : AlarmEntry) : AlarmEntry := { e with stage := .general now, acked := none }

/-- R58: an entry of the list becomes GENERAL, which disturbs a reset (R68). -/
def makeGeneral (fresh : Bool) (s : State) (z : Nat) : State :=
  match s.alarm.entry z with
  | none => s
  | some e => generalHandOffs e fresh (disturb (mapAlarm (fun u => u.change z (AlarmEntry.general s.uptime)) s))

/-- The zones of the entries not at GENERAL, oldest first. -/
def AlarmUnit.notGeneral (u : AlarmUnit) : List Nat := (u.entries.filter (fun e => !e.isGeneral)).map (·.zone)

/-- R47, R50, R66: a new entry at GENERAL: the abort, then the older entries made GENERAL, then its own hand-offs. -/
def newGeneral (z : Nat) (opening : Option Nat) (s : State) : State :=
  let e : AlarmEntry := ⟨z, opening, opening.toList, .general s.uptime, none, s.uptime, none⟩
  let older := s.alarm.notGeneral
  let s1 := abortStore z (disturb (mapAlarm (fun u => { u with entries := u.entries ++ [e] }) s))
  generalHandOffs e true (older.foldl (makeGeneral false) s1)

/-- R47, R50, R51: a new entry at STAFF_ALERT: the abort, then the staff call. -/
def newStaffAlert (z ch : Nat) (s : State) : State :=
  let e : AlarmEntry := ⟨z, some ch, [ch], .staffAlert (s.uptime + s.settings.zones.ackWindow), none, s.uptime, some s.nextInternalTag⟩
  let s1 := abortStore z (mapAlarm (fun u => { u with entries := u.entries ++ [e] }) s)
  placeStaff (s1.settings.zone z).staffTarget (s1.settings.zone z).staffMessage s1

/-- R47: whether a new entry is made at GENERAL. -/
def startsGeneral (z : Nat) (type : ChannelType) (s : State) : Bool :=
  !houseOccupied s.perf.phase || !(s.settings.zone z).staged || type == .callPoint || type == .flowSwitch || !s.alarm.entries.isEmpty

/-- R47, R48, R68: a confirmed alarm taken. -/
def takeAlarm (ch z : Nat) (type : ChannelType) (s : State) : State :=
  let s1 := disturb s
  match s1.alarm.entry z with
  | none => if startsGeneral z type s1 then newGeneral z (some ch) s1 else newStaffAlert z ch s1
  | some e =>
    let s2 := mapAlarm (fun u => u.change z (fun e => { e with channels := insertNum ch e.channels })) s1
    if e.isGeneral then s2 else makeGeneral false s2 z

/-- R49: an "out of alarm" report taken. -/
def takeOutOfAlarm (ch z : Nat) (s : State) : State :=
  mapAlarm (fun u => u.change z (fun e => { e with channels := removeNum ch e.channels })) s

/-! ## Results -/

/-- R56: the result of a stand-down. One whose entry has become GENERAL finds it so; one whose entry an alarm reset has removed does not
come here (`orphanStandDowns`). -/
def takeStandDown (z : Nat) (inAlarm : List Nat) (s : State) : State :=
  match s.alarm.entry z with
  | none => s
  | some e =>
    if e.stage = .standingDown then
      if inAlarm = [] then
        notifyAlways (.alarmStoodDown z s.uptime) (mapAlarm (fun u => { u with entries := u.entries.filter (·.zone != z) }) s)
      else makeGeneral false (mapAlarm (fun u => u.change z (fun e => { e with channels := inAlarm.foldl (fun l n => insertNum n l) e.channels })) s) z
    else s

/-- R56, R69: a successful alarm reset. -/
def resetSucceeds (s : State) : State :=
  let s1 := mapAlarm (fun u => { u with entries := [], sounder := .off, relay := false, lastShown := none }) (orphanStandDowns s)
  let s2 := match s1.alarm.evacOrder with
    | some t => cutEvac t s1
    | none => s1
  mapAlarm (fun u => { u with resetting := none }) (notifyAlways .alarmReset (curtainResetComplete s2))

/-- R69: a failed alarm reset. -/
def resetFails (inAlarm : List Nat) (disturbed : Bool) (s : State) : State :=
  mapAlarm (fun u => { u with resetting := none }) (notifyAlways (.alarmResetFailed inAlarm disturbed) s)

/-- R69: the result of the alarm reset. -/
def takeReset (inAlarm : List Nat) (s : State) : State :=
  match s.alarm.resetting with
  | none => s
  | some k => if k.disturbed = false ∧ inAlarm = [] then resetSucceeds s else resetFails inAlarm k.disturbed s

/-- A reset result taken (R56, R69). -/
def takeResult (p : ResetPurpose) (inAlarm : List Nat) (s : State) : State :=
  match p with
  | .standDown z => takeStandDown z inAlarm s
  | .alarmReset => takeReset inAlarm s

/-- A report of the Scanner taken by the Alarm Unit. -/
def takeReport (s : State) : ScanReport → State
  | .alarm ch z type _ => takeAlarm ch z type s
  | .outOfAlarm ch z => takeOutOfAlarm ch z s
  | .result p inAlarm => takeResult p inAlarm s

/-- R195 step 4: before uptime begins the Scanner holds its reports; then they reach the Alarm Unit in the order made. -/
def handReports (l : List ScanReport) (s : State) : State :=
  if s.startStep = .done then l.foldl takeReport s
  else mapScanner (fun u => { u with heldReports := u.heldReports ++ l }) s

/-- R32: the results of the claims now complete, handed over in the order taken. -/
def handResults (s : State) : State :=
  handReports s.scanner.results (mapScanner Scanner.dropComplete s)

/-! ## Claims of a loop reset -/

/-- R56, R67: a loop reset claimed, or with no channel to name its result taken in the same event. -/
def claimReset (p : ResetPurpose) (ns : List Nat) (s : State) : State :=
  if ns = [] then takeResult p [] s else handResults (takeClaim p ns s)

/-- The channels of a zone not isolated in effect (R56, R67). -/
def watchedChannels (v : Settings) (z : Nat) : List Nat := (v.channelsOf z).filter (fun n => !v.isolatedInEffect n)

/-- R56: the channels that a stand-down names. -/
def standDownChannels (v : Settings) (e : AlarmEntry) : List Nat := if e.channels = [] then watchedChannels v e.zone else e.channels

/-- R67: the channels that an alarm reset names, ascending. -/
def resetChannels (s : State) : List Nat :=
  channelNumbers.filter (fun n => s.alarm.entries.any (fun e => (watchedChannels s.settings e.zone).contains n))

/-- R55, R56: an investigating entry moves to STANDING_DOWN and its stand-down begins. -/
def beginStandDown (e : AlarmEntry) (s : State) : State :=
  claimReset (.standDown e.zone) (standDownChannels s.settings e) (mapAlarm (fun u => u.change e.zone (fun x => { x with stage := .standingDown })) s)

/-- R52, R63: the presented entry acknowledged. -/
def acknowledgeEntry (p : Port) (e : AlarmEntry) (s : State) : State :=
  let s1 := match e.stage with
    | .staffAlert _ =>
      withdrawStaff e (mapAlarm (fun u => u.change e.zone (fun x =>
        { x with acked := some p, stage := .investigating (s.uptime + s.settings.zones.investigationWindow) })) s)
    | .investigating _ | .standingDown | .general _ => mapAlarm (fun u => u.change e.zone (fun x => { x with acked := some p })) s
  let st := match e.stage with
    | .staffAlert _ => StageName.investigating
    | .investigating _ | .standingDown | .general _ => e.stage.name
  refreshPresented (notifyAlways (.alarmAcknowledged e.zone st p) s1)

/-- R65: the sounders silenced and the EVAC order cut. -/
def silenceAlarm (p : Port) (s : State) : State :=
  match s.alarm.sounder with
  | .sounding =>
    let s1 := mapAlarm (fun u => { u with sounder := .silenced }) s
    let s2 := match s1.alarm.evacOrder with
      | some t => cutEvac t s1
      | none => s1
    notifyAlways (.alarmSilenced p) s2
  | .silenced | .off => s

/-- R66: the building cleared at a manager's word. With entries held, the step of the sounders, which the hand-offs of R58 contain, is
taken once more after the last of them, also when there was none; the zone-0 entry of an empty list takes it within its own hand-offs alone
(the model's choice, log entry 34: R66 says "the sounders then act"). -/
def evacuateHouse (s : State) : State :=
  let s1 := disturb s
  if s1.alarm.entries = [] then newGeneral 0 none s1
  else soundStep true (s1.alarm.notGeneral.foldl (makeGeneral true) s1)

/-- R67: an alarm reset begun. -/
def beginReset (s : State) : State :=
  let ns := resetChannels s
  refreshPresented (claimReset .alarmReset ns (mapAlarm (fun u => { u with resetting := some ⟨ns, false⟩ }) s))

/-- R70: the seconds left in an entry's window. -/
def AlarmEntry.secondsLeft (now : Nat) (e : AlarmEntry) : Option Nat :=
  match e.stage with
  | .staffAlert t | .investigating t => some (Machine.secondsLeft t now)
  | .standingDown | .general _ => none

/-- R70: the results of ALARM LIST. -/
def alarmListReply (first : Nat) (s : State) : AlarmListReply where
  entries := page first s.freeCount (s.alarm.entries.map (fun e => (e, e.secondsLeft s.uptime)))
  presented := s.alarm.presented.map (·.zone)
  sounder := s.alarm.sounder
  relay := s.alarm.relay
  evacHeld := s.alarm.evacOrder.isSome
  resetting := s.alarm.resetting

/-! ## Meanings -/

/-- ACKNOWLEDGE (R63, R52). -/
def execAcknowledge (p : Port) (tag : Tag) (zone : Nat) : State → Host.Outcome State Fault Refusal :=
  request p tag .acknowledge fun s =>
    if 12 < zone then refuse p tag .invalid s
    else
      match s.alarm.presented with
      | none => refuse p tag .notPresented s
      | some e => if e.zone = zone then done p tag (acknowledgeEntry p e s) else refuse p tag .notPresented s

/-- CANCEL (R55). -/
def execCancel (p : Port) (tag : Tag) (zone : Nat) : State → Host.Outcome State Fault Refusal :=
  request p tag .cancel fun s =>
    if zone = 0 ∨ 12 < zone then refuse p tag .invalid s
    else
      match s.alarm.entry zone with
      | none => refuse p tag .notPresented s
      | some e =>
        match e.stage with
        | .staffAlert _ => refuse p tag .notAcknowledged s
        | .investigating _ => done p tag (refreshPresented (beginStandDown e s))
        | .standingDown => done p tag s
        | .general _ => refuse p tag .tooLate s

/-- SILENCE (R65). -/
def execSilence (p : Port) (tag : Tag) : State → Host.Outcome State Fault Refusal :=
  request p tag .silence fun s => if s.anyGeneral then done p tag (silenceAlarm p s) else refuse p tag .invalid s

/-- EVACUATE (R66). -/
def execEvacuate (p : Port) (tag : Tag) : State → Host.Outcome State Fault Refusal :=
  request p tag .evacuate fun s => done p tag (refreshPresented (evacuateHouse s))

/-- R67: the judgement of RESET ALARMS. -/
def gateReset (s : State) : Option Reason :=
  if s.alarm.resetting.isSome then some .busy
  else if s.alarm.entries.any (·.acked.isNone) then some .notAllAcknowledged else none

/-- RESET ALARMS (R67). -/
def execResetAlarms (p : Port) (tag : Tag) : State → Host.Outcome State Fault Refusal :=
  request p tag .resetAlarms fun s =>
    stageRequest p tag (gateReset s) (fun s =>
      if s.alarm.entries = [] then done p tag s else beginReset (accept p tag s)) s

/-- ALARM LIST (R70). -/
def execAlarmList (p : Port) (tag : Tag) (first : Nat) : State → Host.Outcome State Fault Refusal :=
  request p tag .alarmList fun s => reply p tag (.done (.alarmList (alarmListReply first s))) (spend s)

/-- The ack window of an entry still at STAFF_ALERT expires (R53). -/
def execAckWindowExpiry (zone : Nat) : State → Host.Outcome State Fault Refusal :=
  command fun s =>
    match (s.alarm.entry zone).map AlarmEntry.stage with
    | some (.staffAlert t) => if t ≤ s.uptime then refreshPresented (makeGeneral false s zone) else s
    | _ => s

/-- The investigation window of an entry at INVESTIGATING expires (R54). -/
def execInvestigationWindowExpiry (zone : Nat) : State → Host.Outcome State Fault Refusal :=
  command fun s =>
    match (s.alarm.entry zone).map AlarmEntry.stage with
    | some (.investigating t) => if t ≤ s.uptime then refreshPresented (makeGeneral false s zone) else s
    | _ => s

end Sys2Proof.Machine
end

