-- ==== Sys2Proof/Machine/Scanner.lean ====
section
/-! DEFINITION. The Input Scanner: visits and the confirm filter (R26 to R30), loop resets and verifications (R31 to R37), isolation (R39, R40), a changed channel (R41), and READ CHANNEL (R42). -/

namespace Sys2Proof.Machine

/-! ## Bands and the confirm filter -/

/-- R26: the band of a reading. -/
def bandOf (v : ChannelSettings) (reading : Byte) : Band :=
  if reading.toNat < v.openBelow then .openBand
  else if reading.toNat < v.prealarm then .normal
  else if reading.toNat < v.alarm then .prealarm
  else if reading.toNat < v.short then .alarm
  else .short

/-- The state of a confirmed band. -/
def bandState : Band → ChannelState
  | .openBand => .openState
  | .normal => .normal
  | .prealarm => .prealarm
  | .alarm => .alarm
  | .short => .short

/-- R27: the run length after a visit. -/
def ChannelRecord.nextRun (c : ChannelRecord) (b : Band) (confirm : Nat) : Nat :=
  if c.candidate = some b then min confirm (c.run + 1) else 1

/-- R27: whether a visit confirms its band, which a band already confirmed does not do again. -/
def ChannelRecord.confirms (c : ChannelRecord) (b : Band) (confirm : Nat) : Bool :=
  decide (confirm ≤ c.nextRun b confirm) && !(c.candidate == some b && decide (confirm ≤ c.run))

/-- R26, R27: the record after a visit's reading and filter. -/
def ChannelRecord.read (c : ChannelRecord) (reading : Byte) (b : Band) (confirm : Nat) : ChannelRecord :=
  { c with lastReading := some reading, candidate := some b, run := c.nextRun b confirm }

/-! ## Reports -/

/-- R29: the wiring fault of a channel cleared, if held. -/
def clearWiring (n : Nat) (s : State) : State :=
  match (s.scanner.record n).bind ChannelRecord.loopFault with
  | none => s
  | some .openLoop => clearFault (.channel n) .loopOpen (mapChannel n (fun c => { c with loopFault := none }) s)
  | some .shortLoop => clearFault (.channel n) .loopShort (mapChannel n (fun c => { c with loopFault := none }) s)

/-- R29: the report of a confirmed band to Supervision. -/
def reportWiring (n : Nat) (b : Band) (s : State) : State :=
  let held := (s.scanner.record n).bind ChannelRecord.loopFault
  match b with
  | .alarm => s
  | .normal | .prealarm => clearWiring n s
  | .openBand =>
    let s1 := if held = some .shortLoop then clearWiring n s else s
    raiseFault (.channel n) .loopOpen (mapChannel n (fun c => { c with loopFault := some .openLoop }) s1)
  | .short =>
    let s1 := if held = some .openLoop then clearWiring n s else s
    raiseFault (.channel n) .loopShort (mapChannel n (fun c => { c with loopFault := some .shortLoop }) s1)

/-- R28: a confirmed alarm handed to the Alarm Unit with its mark. -/
def reportAlarm (n : Nat) (mark : AlarmMark) (s : State) : State :=
  let v := s.settings.channel n
  handReports [.alarm n v.zone v.type mark] (mapChannel n (fun c => { c with alarmReported := true }) s)

/-- R28: an "out of alarm" report. -/
def reportOut (n : Nat) (s : State) : State :=
  handReports [.outOfAlarm n (s.settings.channel n).zone] (mapChannel n (fun c => { c with alarmReported := false }) s)

/-- The channels of a zone in a verification (R34). -/
def verifyingIn (z : Nat) (s : State) : List Nat :=
  ((s.scanner.channels.filter (fun c => c.inCut .verification)).map (·.num)).filter (fun n => (s.settings.channel n).zone == z)

/-- R37: the record of a verification abandoned with its alarm reported. -/
def ChannelRecord.abandoned (c : ChannelRecord) : ChannelRecord :=
  match c.cut with
  | some k => if k.step = .window then { c with cut := none, state := .alarm } else { c with cut := some { k with purpose := .loopReset }, state := .blanked }
  | none => c

/-- R37: the change of one abandoned verification, and its notice. One abandoned in WINDOW, which becomes ALARM, has the event word
"state"; one abandoned in an earlier step goes on as a cut, with the word "cut" (the model's choice, log entry 33: R30's list gives no
word for an abandonment). -/
def abandonWithAlarm (s : State) (n : Nat) : State :=
  let windowed := (s.scanner.record n).any (fun c => c.cut.any (·.step == .window))
  changeNotice n .verifying (if windowed then .state else .cut) .abandoned (mapChannel n ChannelRecord.abandoned s)

/-- R28, R30, R37: ALARM confirmed and reported: this channel's alarm, then that of each channel of the zone in verification, then the
notices. The notice of the channel that confirmed goes out ahead of those of the abandoned ones, whatever its number (the model's choice,
log entry 36: R37 orders the alarms alone). -/
def alarmConfirmed (n : Nat) (previous : ChannelState) (s : State) : State :=
  let others := verifyingIn (s.settings.channel n).zone s
  let s1 := reportAlarm n .plain s
  let s2 := others.foldl (fun s m => reportAlarm m .abandoned s) s1
  others.foldl abandonWithAlarm (changeNotice n previous .state .plain s2)

/-! ## A confirmed band -/

/-- R34: whether a confirmed ALARM is checked first. -/
def verifies (n : Nat) (s : State) : Bool :=
  let v := s.settings.channel n
  v.type == .detectorLoop && !s.settings.isolatedInEffect n && (s.settings.zone v.zone).verify && (s.alarm.entry v.zone).isNone &&
    !((s.settings.channelsOf v.zone).any (fun m => (s.scanner.record m).any (·.alarmReported))) && (verifyingIn v.zone s).isEmpty

/-- R34: the record of a channel whose verification begins. -/
def ChannelRecord.verify (ends : Nat) (c : ChannelRecord) : ChannelRecord :=
  { c with state := .verifying, firstPending := false, windowBand := none, supply := false, cut := some ⟨.verification, .off, some ends, 0⟩ }

/-- R34: a verification begins. -/
def beginVerification (n : Nat) (previous : ChannelState) (s : State) : State :=
  changeNotice n previous .cut .plain (mapChannel n (ChannelRecord.verify (s.uptime + s.settings.channels.offTime)) s)

/-- R28: the report to the Alarm Unit of a confirmed band other than ALARM. -/
def reportClear (n : Nat) (s : State) : State := if (s.scanner.record n).any (·.alarmReported) then reportOut n s else s

/-- R28 to R30: a change of state of a channel not isolated in effect. The report to the Alarm Unit goes before the one to Supervision (the
model's choice, log entry 36: R30 puts both before the notice and does not order them). -/
def changeState (n : Nat) (b : Band) (previous : ChannelState) (s : State) : State :=
  if b = .alarm then
    if verifies n s then beginVerification n previous s
    else
      let s1 := mapChannel n (fun c => { c with state := .alarm, firstPending := false }) s
      if (s.scanner.record n).any (·.alarmReported) then changeNotice n previous .state .plain s1 else alarmConfirmed n previous s1
  else
    let s1 := mapChannel n (fun c => { c with state := bandState b, firstPending := false }) s
    changeNotice n previous .state .plain (reportWiring n b (reportClear n s1))

/-- R27: a confirmed band compared with the channel's state. -/
def takeConfirmed (n : Nat) (b : Band) (s : State) : State :=
  match s.scanner.record n with
  | none => s
  | some c =>
    if s.settings.isolatedInEffect n then mapChannel n (fun c => { c with state := bandState b, firstPending := false }) s
    else if c.firstPending ∧ b = .normal then
      clearWiring n (reportClear n (mapChannel n (fun c => { c with firstPending := false }) s))
    else if c.firstPending ∨ c.state ≠ bandState b then changeState n b c.state s
    else s

/-- R35: a band confirmed in the WINDOW step of a verification. -/
def takeWindowBand (n : Nat) (b : Band) (s : State) : State :=
  match b with
  | .alarm =>
    let s1 := mapChannel n (fun c => { c with cut := none, state := .alarm }) s
    changeNotice n .verifying .verified .verified (reportAlarm n .verified s1)
  | .openBand | .short =>
    let s1 := mapChannel n (fun c => { c with cut := none, state := bandState b }) s
    changeNotice n .verifying .state .plain (reportWiring n b s1)
  | .normal | .prealarm => mapChannel n (fun c => { c with windowBand := some b }) s

/-! ## A visit -/

/-- R32: the record after a visit of a recovery check, whose end makes the cut absent. -/
def ChannelRecord.checkVisit (confirm : Nat) (c : ChannelRecord) : ChannelRecord :=
  match c.cut with
  | some k => if confirm ≤ k.visits + 1 then { c with cut := none } else { c with cut := some { k with visits := k.visits + 1 } }
  | none => c

/-- R27, R32, R35: what a visit does after its reading. -/
def judgeVisit (n : Nat) (c : ChannelRecord) (b : Band) (confirmed : Bool) (s : State) : State :=
  match c.cut with
  | some ⟨.verification, .window, _, _⟩ => if confirmed then takeWindowBand n b s else s
  | some ⟨.loopReset, .recoveryCheck, _, visits⟩ =>
    let confirm := (s.settings.channel n).confirm
    let s1 := mapChannel n (ChannelRecord.checkVisit confirm) s
    let s2 := if confirmed then takeConfirmed n b s1 else s1
    if confirm ≤ visits + 1 then handResults (countCheck n (confirmed && b == .alarm) s2) else s2
  | _ => if confirmed then takeConfirmed n b s else s

/-- R26: a visit of a channel, and the switch to the next eligible one. -/
def visitChannel (n : Nat) (reading : Byte) (s : State) : State :=
  match s.scanner.record n with
  | none => s
  | some c =>
    let v := s.settings.channel n
    let b := bandOf v reading
    let s1 := mapChannel n (fun c => c.read reading b v.confirm) s
    let s2 := judgeVisit n c b (c.confirms b v.confirm) s1
    mapScanner (fun u => { u with path := u.nextAfter s2.settings n }) s2

/-! ## Isolation -/

/-- R39: the channels that become isolated in effect, or stop being so, from one set of settings to another. -/
def isolationChanged (a b : Settings) : List Nat := channelNumbers.filter (fun n => a.isolatedInEffect n != b.isolatedInEffect n)

/-- The zone of an isolation target (R39). -/
def targetZone (v : Settings) : IsolationTarget → Nat
  | .channel n => (v.channel n).zone
  | .zone z => z

/-- R39, R40: the numbers that may be named. -/
def targetInRange : IsolationTarget → Bool
  | .channel n => decide (1 ≤ n) && decide (n ≤ 16)
  | .zone z => decide (1 ≤ z) && decide (z ≤ 12)

/-- Whether the named channel or zone is isolated by its own flag. -/
def targetIsolated (v : Settings) : IsolationTarget → Bool
  | .channel n => (v.channel n).isolated
  | .zone z => v.zoneIsolated z

/-- The fault source of an isolation (R39). -/
def targetSource : IsolationTarget → FaultSource
  | .channel n => .channel n
  | .zone z => .zone z

/-- The flag of a channel or zone set or cleared in the working settings (R39, R40). -/
def ChannelsSection.setIsolation (v : ChannelsSection) (yes : Bool) : IsolationTarget → ChannelsSection
  | .channel n => { v with channels := v.channels.map (fun c => if c.num == n then { c with isolated := yes } else c) }
  | .zone z => { v with isolatedZones := if yes then insertNum z v.isolatedZones else removeNum z v.isolatedZones }

/-- R39, R190: the isolation changed, with the section's changed mark. -/
def setIsolation (yes : Bool) (t : IsolationTarget) (s : State) : State :=
  markChanged .channels { s with settings := { s.settings with channels := s.settings.channels.setIsolation yes t } }

/-- R39: the refusal ZONE_IN_ALARM. -/
def zoneInAlarm (z : Nat) (s : State) : Bool :=
  (s.alarm.entry z).isSome || (s.settings.channelsOf z).any (fun n => (s.scanner.record n).any (·.alarmReported))

/-- R39 step 1: a verification abandoned without an alarm. -/
def ChannelRecord.isolate (c : ChannelRecord) : ChannelRecord :=
  match c.cut with
  | some ⟨.verification, .window, _, _⟩ => { c.fresh with cut := none, supply := true }
  | some ⟨.verification, step, e, n⟩ => { c with cut := some ⟨.loopReset, step, e, n⟩, state := .blanked }
  | _ => c

/-- R39: one channel that becomes isolated in effect. -/
def isolateChannel (s : State) (n : Nat) : State :=
  match s.scanner.record n with
  | none => s
  | some c => channelNotice n c.state .isolated .plain (clearWiring n (mapChannel n ChannelRecord.isolate s))

/-- R39: an accepted ISOLATE of what is not yet isolated. -/
def makeIsolated (t : IsolationTarget) (s : State) : State :=
  let s1 := setIsolation true t s
  raiseFault (targetSource t) .isolated ((isolationChanged s.settings s1.settings).foldl isolateChannel s1)

/-- R33, R40: the record of a channel no longer isolated in effect. A NOT_USED channel stays NOT_USED with no run, and its notice
"restored" still goes out (the model's choice, log entry 34: R40 excepts no channel). -/
def ChannelRecord.restored (c : ChannelRecord) : ChannelRecord :=
  if c.state = .notUsed then c
  else
    match c.cut with
    | none => c.fresh
    | some k => if k.step = .recoveryCheck then { c.fresh with cut := some { k with visits := 0 } } else c

/-- R40: one channel no longer isolated in effect. -/
def restoreChannel (s : State) (n : Nat) : State :=
  match s.scanner.record n with
  | none => s
  | some c => channelNotice n c.state .restored .plain (mapChannel n ChannelRecord.restored s)

/-- R40: an accepted RESTORE of what is isolated. -/
def makeRestored (t : IsolationTarget) (s : State) : State :=
  let s1 := setIsolation false t s
  (isolationChanged s.settings s1.settings).foldl restoreChannel (clearFault (targetSource t) .isolated s1)

/-! ## A changed channel -/

/-- R41 step 1: the record of a channel whose verification or loop reset has ended, its supply switched on. -/
def ChannelRecord.uncut (c : ChannelRecord) : ChannelRecord := { c with cut := none, supply := true }

/-- R41 step 3: the record of a reconfigured channel. -/
def ChannelRecord.reconfigured (type : ChannelType) (c : ChannelRecord) : ChannelRecord :=
  if type = .notUsed then { c.emptyRun with state := .notUsed, firstPending := false } else c.fresh

/-- R41: the Scanner applies a change of a channel's type, zone, thresholds or confirm count, in the steps of the rule; a claim left with none
outstanding completes within the first step and its result is taken there. In every claim that still waits for other
channels the channel then counts as neither outstanding nor in alarm, also where its check had ended in alarm (the model's choice,
log entry 33: R41 speaks of outstanding channels alone). Where the zone changes, the new settings decide whether the channel is isolated in
effect and which zone the notice carries (the model's choice, log entry 34: R41 names neither zone). -/
def reconfigureChannel (s : State) (n : Nat) : State :=
  match s.scanner.record n with
  | none => s
  | some c =>
    let s1 := handResults (countCheck n false (mapChannel n ChannelRecord.uncut s))
    let s2 := clearWiring n (mapChannel n (fun c => { c with alarmReported := false }) s1)
    let s3 := mapChannel n (ChannelRecord.reconfigured (s.settings.channel n).type) s2
    if (s3.scanner.record n).map ChannelRecord.state = some c.state then s3 else changeNotice n c.state .state .plain s3

/-! ## Reading a channel -/

/-- R42: the results of READ CHANNEL. -/
def channelReply (c : ChannelRecord) (s : State) : ChannelReply where
  settings := s.settings.channel c.num
  record := c
  ownIsolated := (s.settings.channel c.num).isolated
  zoneIsolated := s.settings.zoneIsolated (s.settings.channel c.num).zone
  secondsLeft := c.cut.bind (fun k => k.endsAt.map (fun t => secondsLeft t s.uptime))
  visitsNeeded := c.cut.bind (fun k => if k.step = .recoveryCheck then some ((s.settings.channel c.num).confirm - k.visits) else none)

/-! ## Meanings -/

/-- A visit's reading is taken (R26). No reading is taken while the path is on no channel (R25). -/
def execVisit (reading : Byte) : State → Host.Outcome State Fault Refusal :=
  command fun s =>
    match s.scanner.path with
    | none => s
    | some n => refreshPresented (visitChannel n reading s)

/-- The off time of a cut ends (R31, R34). -/
def execOffTimeEnd (n : Nat) : State → Host.Outcome State Fault Refusal :=
  command fun s =>
    match (s.scanner.record n).bind ChannelRecord.cut with
    | some ⟨p, .off, some t, v⟩ =>
      if t ≤ s.uptime then
        mapChannel n (fun c => { c with supply := true, cut := some ⟨p, .blanking, some (s.uptime + s.settings.channels.recoveryTime), v⟩ }) s
      else s
    | _ => s

/-- Blanking ends (R31, R34). -/
def execBlankingEnd (n : Nat) : State → Host.Outcome State Fault Refusal :=
  command fun s =>
    match (s.scanner.record n).bind ChannelRecord.cut with
    | some ⟨.loopReset, .blanking, some t, _⟩ =>
      if t ≤ s.uptime then freshRun n (mapChannel n (fun c => { c with cut := some ⟨.loopReset, .recoveryCheck, none, 0⟩ }) s) else s
    | some ⟨.verification, .blanking, some t, _⟩ =>
      if t ≤ s.uptime then
        mapChannel n (fun c => { c.emptyRun with cut := some ⟨.verification, .window, some (s.uptime + s.settings.channels.verificationWindow), 0⟩ }) s
      else s
    | _ => s

/-- R36: the record of a channel whose verification failed. -/
def ChannelRecord.unconfirm (c : ChannelRecord) : ChannelRecord :=
  let d := { c with cut := none, unconfirmed := satSucc 255 c.unconfirmed }
  match c.windowBand with
  | some b => { d with state := bandState b, firstPending := false }
  | none => { d with state := .normal, firstPending := true }

/-- R36: the verification window ends with the channel still VERIFYING. A band confirmed in the window clears a held wiring fault (R29; log entry 24). -/
def failVerification (n : Nat) (c : ChannelRecord) (s : State) : State :=
  let s1 := mapChannel n ChannelRecord.unconfirm s
  let s2 := match c.windowBand with
    | some b => reportWiring n b s1
    | none => s1
  let s3 := changeNotice n .verifying (.unconfirmed c.unconfirm.unconfirmed) .plain s2
  if 3 ≤ c.unconfirm.unconfirmed then raiseFault (.channel n) .channelUnstable s3 else s3

/-- The verification window ends (R36). -/
def execVerificationWindowEnd (n : Nat) : State → Host.Outcome State Fault Refusal :=
  command fun s =>
    match s.scanner.record n with
    | none => s
    | some c =>
      match c.cut with
      | some ⟨.verification, .window, some t, _⟩ => if t ≤ s.uptime then failVerification n c s else s
      | _ => s

/-- R39: the judgement of ISOLATE. A zone in alarm is refused before what is already isolated is answered DONE (the model's choice, log
entry 33: R39 gives no order of the two). -/
def gateIsolate (t : IsolationTarget) (s : State) : Option Reason :=
  if ¬ targetInRange t then some .invalid
  else if zoneInAlarm (targetZone s.settings t) s then some .zoneInAlarm else none

/-- ISOLATE (R39). -/
def execIsolate (p : Port) (tag : Tag) (t : IsolationTarget) : State → Host.Outcome State Fault Refusal :=
  request p tag .isolate fun s =>
    stageRequest p tag (gateIsolate t s) (fun s =>
      done p tag (if targetIsolated s.settings t then s else makeIsolated t s)) s

/-- RESTORE (R40). -/
def execRestore (p : Port) (tag : Tag) (t : IsolationTarget) : State → Host.Outcome State Fault Refusal :=
  request p tag .restore fun s =>
    stageRequest p tag (if targetInRange t then none else some .invalid) (fun s =>
      done p tag (if targetIsolated s.settings t then makeRestored t s else s)) s

/-- READ CHANNEL (R42). -/
def execReadChannel (p : Port) (tag : Tag) (n : Nat) : State → Host.Outcome State Fault Refusal :=
  request p tag .readChannel fun s =>
    match p with
    | .front => refuse p tag .notPermitted s
    | .stage =>
      match (if targetInRange (.channel n) then s.scanner.record n else none) with
      | none => refuse p tag .invalid s
      | some c => reply p tag (.done (.channel (channelReply c s))) s

end Sys2Proof.Machine
end

