-- ==== Sys2Proof/Machine/Lighting.lean ====
section
/-! DEFINITION. The Light Engine's requests (R107, R108, R121), its fade engine (R111) and its flash clock (R106). -/

namespace Sys2Proof.Machine

/-- R107: a channel list of 1 to 48 channels in range with none listed twice. -/
def listInRange (ns : List Nat) : Bool := !ns.isEmpty && ns.all (fun n => decide (1 ≤ n) && decide (n ≤ 48)) && decide ns.Nodup

/-- R107: whether every channel of a list has the role HOUSE. -/
def allHouse (v : Settings) (ns : List Nat) : Bool := ns.all (fun n => (v.lamp n).role == .house)

/-- R107: the judgement of MANUAL LEVEL, the level being in range or the word RELEASE. Fade times are in tenths of a second. -/
def gateManual (p : Port) (ns : List Nat) (levelOk : Bool) (fade : Nat) (s : State) : Option Reason :=
  if ¬ (listInRange ns ∧ levelOk ∧ fade ≤ 6000) then some .invalid
  else if p = .front ∧ ¬ allHouse s.settings ns then some .notPermitted
  else if s.perf.phase = .evacuation then some .wrongPhase else none

/-- The channels of a list that hold a MANUAL claim. -/
def manualHeld (u : Light) (ns : List Nat) : List Nat := ns.filter (fun n => (u.lamp n).any (·.manual.isSome))

/-- MANUAL LEVEL with a level (R107). -/
def execManualLevel (p : Port) (tag : Tag) (ns : List Nat) (level fade : Nat) : State → Host.Outcome State Fault Refusal :=
  request p tag .manualLevel fun s =>
    match gateManual p ns (decide (level ≤ 100)) fade s with
    | some r => refuse p tag r s
    | none => done p tag (onField (Field.setManual ns level fade) s)

/-- MANUAL LEVEL with RELEASE (R107). -/
def execManualLevelRelease (p : Port) (tag : Tag) (ns : List Nat) (fade : Nat) : State → Host.Outcome State Fault Refusal :=
  request p tag .manualLevel fun s =>
    match gateManual p ns true fade s with
    | some r => refuse p tag r s
    | none => done p tag (onField (Field.releaseManual (manualHeld s.light ns) fade) s)

/-- GO PRESET (R108). -/
def execGoPreset (p : Port) (tag : Tag) (n : Nat) : State → Host.Outcome State Fault Refusal :=
  request p tag .goPreset fun s =>
    match p, s.settings.preset n with
    | .front, _ => refuse p tag .notPermitted s
    | .stage, none => refuse p tag .invalid s
    | .stage, some v =>
      if s.perf.phase = .evacuation then refuse p tag .wrongPhase s else done p tag (onField (Field.goPreset v) s)

/-- R121: the time left of a fade, in ms. -/
def Fade.timeLeft (d : Fade) : Nat := d.duration - d.elapsed

/-- R121: the lists of the Light Engine: the channels, the unit records, the waiting list. -/
def lightItems (s : State) : List LightItem :=
  s.light.lamps.map (fun l => .lamp (s.settings.lamp l.num) l (l.fade.map Fade.timeLeft)) ++ s.light.units.map .unit ++
    s.light.waiting.map .waiting

/-- R121: the results of LIGHT STATUS. -/
def lightReply (first : Nat) (s : State) : LightReply := ⟨page first s.freeCount (lightItems s), s.light.lit⟩

/-- LIGHT STATUS (R121). -/
def execLightStatus (p : Port) (tag : Tag) (first : Nat) : State → Host.Outcome State Fault Refusal :=
  request p tag .lightStatus fun s => reply p tag (.done (.lights (lightReply first s))) (spend s)

/-- R111: every fade advances by 50 ms, and the model's clock reaches that moment (log entry 5). -/
def fadesPass (s : State) : State := onField Field.advanceFades (mapClock Clock.fadePassed s)

/-- Whether a channel's fade ends at the next advance (R111). -/
def fadeEnds (n : Nat) (s : State) : Bool := ((s.light.lamp n).bind Lamp.fade).any Fade.lastAdvance

/-- The fade engine advances by 50 ms (R111); it starts at the end of start-up. -/
def execFadeAdvance : State → Host.Outcome State Fault Refusal :=
  command fun s => if s.startStep = .done then fadesPass s else s

/-- The advance of the fade engine at which a channel's fade ends (R111; log entry 10). With no fade of the channel at its last advance
nothing is due. -/
def execFadeEnd (n : Nat) : State → Host.Outcome State Fault Refusal :=
  command fun s => if s.startStep = .done ∧ fadeEnds n s = true then fadesPass s else s

/-- The flash clock changes half (R106); it starts at the end of start-up. -/
def execFlashClockHalf : State → Host.Outcome State Fault Refusal :=
  command fun s => if s.startStep = .done then onField Field.flashHalf (mapClock Clock.flashPassed s) else s

end Sys2Proof.Machine
end

