-- ==== Sys2Proof/Machine/CallRequests.lean ====
section
/-! DEFINITION. The Call Controller's requests (R126, R136, R140) and the time limit of a repetition (R133). -/

namespace Sys2Proof.Machine

/-- R124: the number of a kind is in range. -/
def kindInRange : CallKind → Bool
  | .chime n => decide (1 ≤ n) && decide (n ≤ 9)
  | .bell n => decide (1 ≤ n) && decide (n ≤ 30)
  | .message n | .staffCode n => decide (1 ≤ n) && decide (n ≤ 64)
  | .evac => true

/-- R122: base and mask are four-place numbers. -/
def callTargetInRange (t : Target) : Bool := decide (t.base ≤ 15) && decide (t.mask ≤ 15)

/-- R124: repetitions 1 to 9, or UNTIL_RELEASED. -/
def repeatsInRange : Repeats → Bool
  | .times n => decide (1 ≤ n) && decide (n ≤ 9)
  | .untilReleased => true

/-- R126 test 2: an offset stands with a countdown anchor, within its range, and with no other. -/
def offsetFits : Anchor → Option Nat → Bool
  | .now, off => off.isNone
  | _, some n => decide (n ≤ 3600)
  | _, none => false

/-- R126 test 4: the anchor's countdown is present in the performance record. -/
def anchorPresent (r : PerfRecord) : Anchor → Bool
  | .now => true
  | .houseCountdown => r.houseCountdown.isSome
  | .intervalCountdown => r.intervalCountdown.isSome

/-- R126: the judgement of PLACE CALL. -/
def gatePlaceCall (cls : CallClass) (kind : CallKind) (t : Target) (reps : Repeats) (anchor : Anchor) (off : Option Nat) (s : State) :
    Option Reason :=
  if cls = .lifeSafety ∨ kind = .evac then some .notPermitted
  else if ¬ (kindInRange kind ∧ callTargetInRange t ∧ repeatsInRange reps ∧ offsetFits anchor off) then some .invalid
  else if (cls = .showing ∨ cls = .courtesy) ∧ s.perf.phase = .evacuation then some .wrongPhase
  else if ¬ anchorPresent s.perf anchor then some .invalid
  else if 16 ≤ s.calls.queue.length then some .full else none

/-- PLACE CALL (R126). The reply tells that the order is placed; the arbitration, and with it an end of the order, comes later in the
event. -/
def execPlaceCall (p : Port) (tag : Tag) (cls : CallClass) (kind : CallKind) (t : Target) (reps : Repeats) (anchor : Anchor)
    (off : Option Nat) : State → Host.Outcome State Fault Refusal :=
  request p tag .placeCall fun s =>
    match gatePlaceCall cls kind t reps anchor off s with
    | some r => refuse p tag r s
    | none => contend (done p tag (joinQueue ⟨s.calls.nextId, tag.toNat, originOf p, cls, kind, t, reps, anchor, off, .waiting, 0, false, []⟩ s))

/-- R136: the orders that a WITHDRAW CALL reaches. -/
def portOrders (p : Port) (named : Nat) (u : Calls) : List Nat := u.idsWhere (fun o => o.origin == originOf p && o.tag == named)

/-- WITHDRAW CALL (R136). The number counts every order reached, a SOUNDING one that was already withdrawn among them, and the CALL notices
of the orders that end stand before the reply (the model's choices, log entry 33: R136 states neither). -/
def execWithdrawCall (p : Port) (tag : Tag) (named : Nat) : State → Host.Outcome State Fault Refusal :=
  request p tag .withdrawCall fun s =>
    let ids := portOrders p named s.calls
    if ids = [] then refuse p tag .noSuchOrder s
    else reply p tag (.done (.withdrawn ids.length)) (withdrawIds ids s)

/-- R129, R140: the entries of a call plan, each with its number. -/
def planItems (v : Settings) (plan : PlanName) : List CallItem := (v.plan plan).zipIdx.map (fun e => .planEntry plan (e.2 + 1) e.1)

/-- R140: the lists of the Call Controller: the orders, the reachable table, the two plans. -/
def callItems (s : State) : List CallItem :=
  s.calls.queue.map .order ++ s.calls.reachable.map .reachable ++ planItems s.settings .house ++ planItems s.settings .interval

/-- R140: the results of CALL STATUS. The order that holds the line is named by its tag alone (the model's choice, log entry 33: the manual
does not say how it is named). -/
def callsReply (first : Nat) (s : State) : CallsReply where
  items := page first s.freeCount (callItems s)
  repetition := s.calls.repetition
  secondsLeft := s.calls.repetition.bind (fun r => r.limitAt.map (fun t => secondsLeft t s.uptime))
  line := s.calls.sounding.map (·.tag)
  nextSerial := s.calls.nextSerial

/-- CALL STATUS (R140). -/
def execCallStatus (p : Port) (tag : Tag) (first : Nat) : State → Host.Outcome State Fault Refusal :=
  request p tag .callStatus fun s => reply p tag (.done (.calls (callsReply first s))) (spend s)

/-- R133: at the time limit every unit still awaited is counted missing, and the repetition ends. -/
def endAtLimit (o : Order) (r : Repetition) (s : State) : State :=
  let s1 := r.awaited.foldl (fun s a => missUnit o r a s) s
  match s1.calls.sounding with
  | some o1 => endRepetition o1 s1
  | none => s1

/-- The time limit of a repetition runs out (R133). -/
def execCallTimeLimit : State → Host.Outcome State Fault Refusal :=
  command fun s =>
    match s.calls.sounding, s.calls.repetition with
    | some o, some r => if r.limitAt.any (· ≤ s.uptime) then endAtLimit o r s else s
    | _, _ => s

end Sys2Proof.Machine
end

