-- ==== Sys2Proof/Machine/Faults.lean ====
section
/-! DEFINITION. Supervision's requests: acknowledgement (R147), the lost-fault count (R148), and FAULT LIST (R153). -/

namespace Sys2Proof.Machine

/-- R147: an entry acknowledged, or removed if it is CLEARED. The notice of a removed one says acknowledged yes (the model's choice, log entry
36: R147 removes the entry and does not say that it was marked). -/
def acknowledgeEntryFault (p : Port) (e : FaultEntry) (s : State) : State :=
  match e.state, e.acked with
  | .active, true => s
  | .active, false =>
    let e' := { e with acked := true }
    faultNotice .acknowledged e' false (some p) (setSup (s.sup.change e.source e.kind (fun _ => e')) s)
  | .cleared, _ => faultNotice .acknowledged { e with acked := true } true (some p) (setSup (s.sup.remove e.source e.kind) s)

/-- R148: the lost-fault count set to 0. Its notice carries no uptime (the model's choice, log entry 35: R151 leaves it open). -/
def resetLost (s : State) : State :=
  let s1 := setSup { s.sup with lost := 0 } s
  notify .faultMajor (.faultLostReset s1.sup.entries.length s1.sup.lost s1.sup.relay) s1

/-- R152: a port's three fault subscriptions. -/
def faultSubs (u : Subscriptions) : List Bool := [u.faultNote, u.faultMajor, u.faultCritical]

/-- R153: the results of FAULT LIST. -/
def faultsReply (first : Nat) (s : State) : FaultsReply where
  entries := page first s.freeCount s.sup.entries
  lost := s.sup.lost
  relay := s.sup.relay
  stageSubs := faultSubs s.settings.ports.stageSubs
  frontSubs := faultSubs s.settings.ports.frontSubs

/-- ACKNOWLEDGE FAULT of a source and kind (R147). A kind that is none of R149's is `none`. -/
def execAcknowledgeFault (p : Port) (tag : Tag) (src : FaultSource) (kind : Option FaultKind) : State → Host.Outcome State Fault Refusal :=
  request p tag .acknowledgeFault fun s =>
    match kind with
    | none => refuse p tag .invalid s
    | some k =>
      if ¬ allowedAt k src then refuse p tag .invalid s
      else
        match s.sup.find src k with
        | none => refuse p tag .notPresented s
        | some e => done p tag (acknowledgeEntryFault p e s)

/-- ACKNOWLEDGE FAULT with the selector "lost" (R148). -/
def execAcknowledgeFaultLost (p : Port) (tag : Tag) : State → Host.Outcome State Fault Refusal :=
  request p tag .acknowledgeFault fun s =>
    if s.sup.lost = 0 then done p tag s
    else if 32 ≤ s.sup.entries.length then refuse p tag .full s
    else done p tag (resetLost s)

/-- FAULT LIST (R153). -/
def execFaultList (p : Port) (tag : Tag) (first : Nat) : State → Host.Outcome State Fault Refusal :=
  request p tag .faultList fun s => reply p tag (.done (.faults (faultsReply first s))) (spend s)

end Sys2Proof.Machine
end

