-- ==== Sys2Proof/Machine/StartUpEnd.lean ====
section
/-! DEFINITION. The last steps of start-up (R195 steps 4 to 6): scanning begins, the curtain is resolved (R99, R100), uptime begins. -/

namespace Sys2Proof.Machine

/-- R99: the state chosen at the resolution, by the limits and by whether an encoder step was recent. -/
def resolvedState (l : Lines) (recent : Bool) : CurtainState :=
  if l.limitTop ∧ l.limitBottom then .faultLocked
  else if l.limitBottom then .down
  else if recent then .dropping
  else if l.limitTop then .up
  else .halted

/-- R99: the position at the resolution. -/
def resolvedPosition (l : Lines) (travel : Nat) : Option Nat :=
  if l.limitTop ∧ l.limitBottom then none
  else if l.limitBottom then some 0
  else if l.limitTop then some travel
  else none

/-- R99: the record after the resolution. -/
def Curtain.resolve (l : Lines) (recent : Bool) (v : CurtainSection) (now : Nat) (c : Curtain) : Curtain :=
  let st := resolvedState l recent
  Curtain.setOutputs
    { Curtain.unresolved with
      state := st, resolved := true, position := resolvedPosition l v.travel, lastInterval := c.lastInterval
      drop := if st = .dropping then some (Drop.begun .startUp now v.dropLimit) else none }

/-- R99: the notice of the resolution. -/
def resolutionNotice (s : State) : State :=
  curtainNotice (.curtainChange s.curtain.state none .startUp s.curtain.position s.uptime) s

/-- R99: whether an encoder step fell within the stall window before now. One exactly a whole window ago did not: its motion watch would
have ended (the model's choice, log entry 13). -/
def stepRecent (s : State) : Bool := s.lines.lastStepAt.any (fun t => decide (s.clock.now < t + s.settings.curtain.stallWindow * 1000))

/-- R99: the curtain resolved from its limits and encoder. Its fault is raised and its warning claims placed before the START-UP notice, as R73
has it for a change of state (the model's choice, log entry 36: R99 does not order them). -/
def resolveFresh (s : State) : State :=
  let s1 := mapCurtain (Curtain.resolve s.lines (stepRecent s) s.settings.curtain s.uptime) s
  let s2 := match s1.curtain.state with
    | .faultLocked => raiseCurtainFault .limitConflict s1
    | .dropping => placeWarning s1
    | .up | .lowering | .raising | .down | .halted => s1
  judgeEmergency (resolutionNotice s2)

/-- R195 step 5, R99, R100: the resolution. A curtain kept through a RESTART is not resolved anew: its START-UP notice shows the state it
holds at this step, also where that state changed since the RESTART (the model's choice, log entry 36: R100 speaks of the state kept). -/
def resolveCurtain (s : State) : State := if s.curtain.resolved then resolutionNotice s else resolveFresh s

/-- R195 step 4. -/
def startScanning (s : State) : State := mapScanner (fun u => { u with scanning := true }) { s with startStep := .scanner }

/-- R195 step 6, R2: the PHASE notice of start-up, then the reports the Scanner has held. -/
def startUptime (s : State) : State :=
  let s0 := mapClock Clock.started { s with startStep := .done }
  let s1 := notify .phase (.phase .dark none .startUp s.perf.number s.perf.act s.uptime) s0
  let held := s1.scanner.heldReports
  refreshPresented (handReports held (mapScanner (fun u => { u with heldReports := [] }) s1))

/-- R195 steps 4 to 6, taken in the event that ends the start-up survey (log entry 21). -/
def endStartUp (s : State) : State := startUptime { resolveCurtain (startScanning s) with startStep := .curtain }

end Sys2Proof.Machine
end

