-- ==== Sys2Proof/Machine/LoopMaster.lean ====
section
/-! DEFINITION. The Loop Master: outcomes of transactions (R158, R167 to R170), presence and absence (R169, R171), surveys (R172 to R174), the loop rate (R175), and a changed LOOP section (R177). -/

namespace Sys2Proof.Machine

/-- One row of the unit table changed. -/
def mapRow (a : Nat) (f : UnitRow → UnitRow) (s : State) : State := mapLoop (fun u => u.change a f) s

/-- A LOOP notice. -/
def loopNotice (n : Notice) (s : State) : State := notify .loop n s

/-! ## The faults a row holds -/

/-- A fault raised for a unit and held by its row. -/
def raiseUnitFault (a : Nat) (k : FaultKind) (s : State) : State :=
  raiseFault (.unit a) k (mapRow a (fun r => { r with faultsHeld := insertKind k r.faultsHeld }) s)

/-- Whether a row holds a fault. -/
def holdsUnitFault (a : Nat) (k : FaultKind) (s : State) : Bool := (s.loop.row a).any (·.faultsHeld.contains k)

/-- A unit's fault cleared, if its row holds it. -/
def clearUnitFault (a : Nat) (k : FaultKind) (s : State) : State :=
  if holdsUnitFault a k s then
    clearFault (.unit a) k (mapRow a (fun r => { r with faultsHeld := removeKind k r.faultsHeld }) s)
  else s

/-! ## Presence and absence -/

/-- R169, R171, R177: an absence reported to the block of the unit's kind. -/
def reportAbsence (a : Nat) (expected : UnitKind) (s : State) : State :=
  match expected with
  | .lamp => onField (Field.absent a) s
  | .call => callUnitGone a s
  | .none => s

/-- R169 step 1. -/
def UnitRow.absent (r : UnitRow) : UnitRow := { r with present := false, misses := 0, room := .room, nextPoll := none }

/-- R169 steps 1 and 2. -/
def Loop.lose (a : Nat) (u : Loop) : Loop := Loop.removeSet a (u.change a UnitRow.absent)

/-- R169: a unit becomes ABSENT. `fault` is what is raised and `n` the LOOP notice. -/
def goAbsent (a : Nat) (expected : UnitKind) (fault : Option FaultKind) (n : Notice) (s : State) : State :=
  let s1 := mapLoop (Loop.lose a) s
  let s2 := match fault with
    | some k => raiseUnitFault a k s1
    | none => s1
  loopNotice n (reportAbsence a expected s2)

/-- R169: the third consecutive miss of a PRESENT unit. -/
def absentByMisses (a : Nat) (s : State) : State :=
  let e := (s.settings.loopRow a).expected
  goAbsent a e (some .unitAbsent) (.unitAbsent a e s.uptime) s

/-- R169: a miss of a PRESENT unit. -/
def miss (a : Nat) (s : State) : State :=
  match s.loop.row a with
  | none => s
  | some r =>
    if r.present then
      if 3 ≤ r.misses + 1 then absentByMisses a s else mapRow a (fun r => { r with misses := r.misses + 1 }) s
    else s

/-- R171: a presence report, with its LOOP notice unless it is held back. -/
def reportPresence (a : Nat) (outputs : Option Nat) (s : State) : State :=
  match (s.settings.loopRow a).expected with
  | .lamp => onField (Field.present a (outputs.getD 0)) s
  | .call => callUnitPresent a s
  | .none => s

def presenceNotice (a : Nat) (outputs area : Option Nat) (s : State) : State :=
  loopNotice (.unitPresent a (s.settings.loopRow a).expected outputs area) s

/-! ## Check errors and the rate -/

/-- The most check errors of any row. -/
def Loop.worst (u : Loop) : Nat := u.rows.foldl (fun m r => max m r.checkErrors) 0

/-- R175: the address with the most check errors; among several a free value chooses (log entry 14). -/
def Loop.worstAddress (free : Nat) (u : Loop) : Nat :=
  let ns := (u.rows.filter (fun r => r.checkErrors == u.worst)).map (·.address)
  match ns with
  | [a] => a
  | _ => ns.getD (Config.tieChoice free % ns.length) 0

/-- R175: the fall to SLOW. -/
def fallBack (s : State) : State :=
  let a := s.loop.worstAddress s.freeCount
  raiseFault .loop .loopRateFallback (loopNotice (.rateSlow a) (spend (mapLoop (fun u => { u with rate := .slow }) s)))

/-- R175: a GARBLED outcome counted. No fallback is made in STARTING (R172) or at SLOW. -/
def countGarbled (a : Nat) (s : State) : State :=
  let s1 := mapLoop (fun u => { u.change a (fun r => { r with checkErrors := satSucc 255 r.checkErrors }) with checkErrors := satSucc 255 u.checkErrors }) s
  if s1.loop.state = .running ∧ s1.loop.rate = .fast ∧ 8 ≤ s1.loop.checkErrors then fallBack s1 else s1

/-- R173, R174: the counts of a period set to 0. -/
def Loop.zeroCounts (u : Loop) : Loop := { u with rows := u.rows.map (fun r => { r with checkErrors := 0 }), checkErrors := 0 }

/-- R173: a new survey period. -/
def Loop.newPeriod (now length : Nat) (u : Loop) : Loop := { u.zeroCounts with periodBegan := now, periodLength := length }

/-! ## Replies -/

/-- What the addressed transaction draws (R158). -/
inductive LoopOutcome
  | valid (body : LoopBody) (good : Bool)
  | garbled
  | noReply
deriving DecidableEq, Repr

/-- R159: the payload fits the reply that the kind of the request allows. A POLL is judged by the kind expected when it began. -/
def bodyFits (t : Transaction) : LoopBody → Bool
  | .lampPoll _ => match t with
    | .poll _ kind _ => kind == .lamp
    | _ => false
  | .callPoll serial _ => match t with
    | .poll _ kind _ => kind == .call && decide (serial ≤ 255)
    | _ => false
  | .setAnswer _ => match t with
    | .set _ _ _ => true
    | _ => false
  | .levels ls => match t with
    | .read _ sent => decide (ls.length = sent.length) && ls.all (· ≤ 100)
    | _ => false
  | .identity kind outputs area => match t, kind with
    | .probe _ _, .lamp => decide (1 ≤ outputs) && decide (outputs ≤ 8) && area == 0
    | .probe _ _, .call => outputs == 0 && decide (area ≤ 15)
    | _, _ => false
  | .malformed => false

/-- The unit that a transaction addresses, with the kind of its frame. -/
def Transaction.addressed : Transaction → Option (Nat × LoopKind)
  | .poll a _ _ => some (a, .poll)
  | .set a _ _ => some (a, .set)
  | .read a _ => some (a, .read)
  | .probe a _ => some (a, .survey)
  | .broadcast => none

/-- R158: a frame that began within the window, judged. -/
def judgeFrame (t : Transaction) (f : LoopFrame) : LoopOutcome :=
  match t.addressed with
  | none => .garbled
  | some (a, k) =>
    if f.complete ∧ f.checkGood ∧ f.reply ∧ f.address = a ∧ f.kind = k ∧ bodyFits t f.body then .valid f.body f.good
    else .garbled

/-- R168: what every valid reply does by its GOOD place: the miss count, and "unit bad data". The callers use the reply's contents after it (the
model's choice, log entry 36: R168 does not order the two). -/
def heard (a : Nat) (good : Bool) (s : State) : State :=
  let s1 := mapRow a (fun r => { r with misses := 0 }) s
  if good then clearUnitFault a .unitBadData s1 else raiseUnitFault a .unitBadData s1

/-- R167: a transaction with a unit that drew no valid reply. A third miss makes the unit ABSENT before an eighth check error brings the fallback
(the model's choice, log entry 36: R169 and R175 put both in one event and give no order). -/
def unheard (a : Nat) (o : LoopOutcome) (s : State) : State :=
  match o with
  | .garbled => countGarbled a (miss a s)
  | .noReply | .valid _ _ => miss a s

def endTransaction (s : State) : State := mapLoop (fun u => { u.unsend with transaction := none, drives := false }) s

/-! ## POLL -/

/-- R168: the contents of a good poll reply taken. -/
def takePoll (a : Nat) (b : LoopBody) (s : State) : State :=
  match b with
  | .lampPoll r => mapRow a (fun x => { x with room := r }) s
  | .callPoll n p => unitReport a n p (mapRow a (fun x => { x with lastSerial := n, progress := p }) s)
  | _ => s

/-- R165: the next poll is due one period after this one began, if the unit is still PRESENT. The period is in ms. -/
def scheduleNext (a began : Nat) (s : State) : State :=
  mapRow a (fun r => if r.present then { r with nextPoll := some (began + s.settings.loop.pollPeriod * 10) } else r) s

/-- The end of a POLL. -/
def endPoll (a : Nat) (o : LoopOutcome) (s : State) : State :=
  match o with
  | .valid b good =>
    let s1 := heard a good s
    if good then takePoll a b s1 else s1
  | .garbled | .noReply => unheard a o s

/-! ## SET and READ -/

/-- R167: the SET has been taken; its item leaves its lane and the Light Engine is told. -/
def completeSet (a : Nat) (s : State) : State := onField (Field.taken a) (mapLoop (Loop.removeSet a) s)

/-- R167: the room that an answer leaves. -/
def roomAfter : SetAnswer → Room
  | .taken => .room
  | .takenFull | .refused => .full

/-- R167: an answer's effect on the row and on "promise broken", which comes after that on "unit bad data" (R168; the model's choice, log entry
35: R167 and R168 give no order of the two faults). -/
def takeAnswer (a : Nat) (x : SetAnswer) (good : Bool) (s : State) : State :=
  let s1 := heard a good (mapRow a (fun r => { r with room := roomAfter x }) s)
  match x with
  | .taken | .takenFull => clearUnitFault a .promiseBroken s1
  | .refused => if (s1.settings.loopRow a).mode = .streamed then raiseUnitFault a .promiseBroken s1 else s1

/-- R170: whether the row is still PRESENT. -/
def stillPresent (a : Nat) (s : State) : Bool := (s.loop.row a).any (·.present)

/-- The end of a SET; a held one that was taken goes on to its READ (R167, R170). -/
def endSet (a : Nat) (sent : List Nat) (held : Bool) (o : LoopOutcome) (s : State) : State :=
  match o with
  | .valid (.setAnswer .refused) good => takeAnswer a .refused good (endTransaction s)
  | .valid (.setAnswer x) good =>
    if held then mapLoop (Loop.begin (.read a sent) s.settings.loop.replyWindow s.clock.now) (takeAnswer a x good s)
    else completeSet a (takeAnswer a x good (endTransaction s))
  | .valid _ _ | .garbled | .noReply => unheard a o (endTransaction s)

/-- R170: the verdict's effects, in the order of the rule. -/
def takeVerdict (a : Nat) (confirmed : Bool) (s : State) : State :=
  let s1 := if confirmed then clearUnitFault a .levelUnconfirmed s else raiseUnitFault a .levelUnconfirmed s
  completeSet a (onField (Field.verdict a confirmed) s1)

/-- The end of a READ of a held exchange (R170). A miss sends the READ again while the unit stays PRESENT. "Unit bad data" is raised or cleared
before "level unconfirmed" (R168; the model's choice, log entry 35: R168 and R170 give no order of the two faults). -/
def endRead (a : Nat) (sent : List Nat) (o : LoopOutcome) (s : State) : State :=
  match o with
  | .valid (.levels ls) good => takeVerdict a (good && ls == sent) (heard a good (endTransaction s))
  | .valid _ _ | .garbled | .noReply =>
    let s1 := unheard a o s
    if stillPresent a s1 then mapLoop (Loop.begin (.read a sent) s1.settings.loop.replyWindow s1.clock.now) s1 else endTransaction s1

/-! ## Findings -/

/-- R171: the identity is of the expected kind, and for CALL of the area in the CALLS section. An address for which that section holds no area
matches no call unit (the model's choice, log entry 35: R171 speaks of an area that the section has). -/
def matchesExpected (v : Settings) (a : Nat) (kind : UnitKind) (area : Nat) : Bool :=
  (v.loopRow a).expected == kind && (kind != .call || (v.callUnit a).any (·.area == area))

/-- R171: the found kind recorded. -/
def recordKind (a : Nat) (kind : UnitKind) (s : State) : State := mapRow a (fun r => { r with found := kind }) s

/-- R171: a finding is reported at once, but in STARTING it is held back until the survey's end (R172). -/
def unlessStarting (f : State → State) (s : State) : State := if s.loop.state = .starting then s else f s

/-- The outputs of an identity, for a lamp unit. -/
def outputsOf (kind : UnitKind) (outputs : Nat) : Option Nat := if kind = .lamp then some outputs else none

/-- The area of an identity, for a call unit. -/
def areaFound (kind : UnitKind) (area : Nat) : Option Nat := if kind = .call then some area else none

/-- R171: the row of a unit of the expected kind. -/
def UnitRow.identified (kind : UnitKind) (outputs area : Nat) (r : UnitRow) : UnitRow :=
  { r with found := kind, outputs := outputsOf kind outputs, area := areaFound kind area, misses := 0 }

/-- R171: a unit of the expected kind found where none was in service. -/
def becomePresent (a : Nat) (kind : UnitKind) (outputs area : Nat) (s : State) : State :=
  let s1 := mapRow a (fun r => { r.identified kind outputs area with present := true, room := .room, nextPoll := some s.clock.now }) s
  let s2 := clearUnitFault a .unitKindMismatch (clearUnitFault a .unitAbsent s1)
  unlessStarting (fun s => presenceNotice a (outputsOf kind outputs) (areaFound kind area)
    (reportPresence a (outputsOf kind outputs) s)) s2

/-- R171: a PRESENT unit of the expected kind found again. -/
def foundAgain (a : Nat) (kind : UnitKind) (outputs area : Nat) (r : UnitRow) (s : State) : State :=
  let s1 := mapRow a (fun r => r.identified kind outputs area) s
  if kind = .lamp ∧ r.outputs ≠ some outputs then
    unlessStarting (fun s => presenceNotice a (some outputs) none (reportPresence a (some outputs) s)) s1
  else s1

/-- R171: a unit of the wrong kind or area. At an ABSENT row too the notice carries the address, the kind expected and the uptime (the model's
choice, log entry 36: R171 does not say what it carries). -/
def foundMismatch (a : Nat) (r : UnitRow) (s : State) : State :=
  let e := (s.settings.loopRow a).expected
  let n := Notice.kindMismatch a e s.uptime
  if r.present then goAbsent a e (some .unitKindMismatch) n s
  else if holdsUnitFault a .unitKindMismatch s then s
  else unlessStarting (loopNotice n) (clearUnitFault a .unitAbsent (raiseUnitFault a .unitKindMismatch s))

/-- R171: a unit at an address expected NONE. The notice carries the address alone (the model's choice, log entry 36: R171 does not say what it
carries). -/
def foundUnexpected (a : Nat) (s : State) : State :=
  if holdsUnitFault a .unexpectedUnit s then s
  else unlessStarting (loopNotice (.unexpectedUnit a)) (raiseUnitFault a .unexpectedUnit s)

/-- R171: a valid reply to a probe. Of a unit of the wrong kind or area the found kind is recorded, at a PRESENT row too, and neither its
outputs nor its area (the model's choice, log entry 36: R171 names the found kind for an ABSENT row and nothing for a PRESENT one). -/
def takeIdentity (a : Nat) (kind : UnitKind) (outputs area : Nat) (s : State) : State :=
  match s.loop.row a with
  | none => s
  | some r =>
    if (s.settings.loopRow a).expected = .none then foundUnexpected a (recordKind a kind s)
    else if matchesExpected s.settings a kind area then
      if r.present then foundAgain a kind outputs area r s else becomePresent a kind outputs area s
    else foundMismatch a r (recordKind a kind s)

/-- R171: a probe without a valid reply. -/
def takeNothing (a : Nat) (o : LoopOutcome) (s : State) : State :=
  match s.loop.row a with
  | none => s
  | some r =>
    if r.present then miss a (if o = .noReply then recordKind a .none s else s)
    else
      let s1 := recordKind a .none s
      if (s.settings.loopRow a).expected = .none then clearUnitFault a .unexpectedUnit s1
      else if holdsUnitFault a .unitKindMismatch s1 then raiseUnitFault a .unitAbsent (clearUnitFault a .unitKindMismatch s1)
      else s1

/-- R171, R175: the finding of one probe. What the finding does comes before the check error of a GARBLED one (the order of log entry 36, as
in `unheard`). -/
def takeFinding (a : Nat) (o : LoopOutcome) (s : State) : State :=
  match o with
  | .valid (.identity kind outputs area) good => takeIdentity a kind outputs area (heard a good s)
  | .garbled => countGarbled a (takeNothing a o s)
  | .valid _ _ | .noReply => takeNothing a o s

/-! ## Surveys -/

/-- R172: the addresses of a kind of finding. -/
def Loop.addressesWhere (u : Loop) (p : UnitRow → Bool) : List Nat := (u.rows.filter p).map (·.address)

/-- Whether a unit is expected at a row and is neither PRESENT nor mismatched. -/
def missingRow (v : Settings) (r : UnitRow) : Bool :=
  (v.loopRow r.address).expected != .none && !r.present && !r.faultsHeld.contains .unitKindMismatch

/-- R172, R174: the lists of "survey done". -/
def surveyLists (v : Settings) (u : Loop) : SurveyLists where
  present := u.addressesWhere (·.present)
  missing := u.addressesWhere (missingRow v)
  mismatched := u.addressesWhere (·.faultsHeld.contains .unitKindMismatch)
  unexpected := u.addressesWhere (·.faultsHeld.contains .unexpectedUnit)

/-- R172: "unit absent" for a missing unit of the start-up survey. -/
def raiseMissing (s : State) (a : Nat) : State := if holdsUnitFault a .unitAbsent s then s else raiseUnitFault a .unitAbsent s

/-- R172: the presence report of one PRESENT unit at the end of the start-up survey. -/
def handPresence (s : State) (a : Nat) : State :=
  match s.loop.row a with
  | none => s
  | some r => reportPresence a r.outputs s

/-- R172: the end of the start-up survey, and the rest of start-up (R195). Its notice "survey done" carries the number of RETRAIN requests absorbed
too (the model's choice, log entry 37: R172 does not list that number, and R174 says only that the notice answers them). -/
def endStartUpSurvey (v : Survey) (s : State) : State :=
  let s1 := (s.loop.addressesWhere (missingRow s.settings)).foldl raiseMissing s
  let s2 := (s1.loop.addressesWhere (·.present)).foldl handPresence s1
  let s3 := mapLoop (fun u => { u.newPeriod s2.uptime s2.settings.loop.surveyPeriod with state := .running, survey := none }) s2
  endStartUp (loopNotice (.surveyDone .startUp v.retrains (surveyLists s3.settings s3.loop)) s3)

/-- R174: the end of a full survey. -/
def endFullSurvey (v : Survey) (s : State) : State :=
  let s1 := mapLoop (fun u => { u with survey := none }) s
  loopNotice (.surveyDone .retrain v.retrains (surveyLists s1.settings s1.loop)) s1

/-- R172: the survey after one probe: up to three attempts at each address, from 1 to 31. -/
def Survey.after (v : Survey) (answered : Bool) : Survey :=
  if answered ∨ 3 ≤ v.attempts + 1 then { v with next := v.next + 1, attempts := 0 } else { v with attempts := v.attempts + 1 }

/-- R172, R174: the survey carried on after one probe, or ended after address 31. -/
def advanceSurvey (answered : Bool) (s : State) : State :=
  match s.loop.survey with
  | none => s
  | some v =>
    let v' := v.after answered
    if 31 < v'.next then
      match v.cause with
      | .startUp => endStartUpSurvey v s
      | .retrain => endFullSurvey v s
    else mapLoop (fun u => { u with survey := some v' }) s

def LoopOutcome.isValid : LoopOutcome → Bool
  | .valid _ _ => true
  | .garbled | .noReply => false

/-- The end of a probe. -/
def endProbe (a : Nat) (k : ProbeKind) (o : LoopOutcome) (s : State) : State :=
  let s1 := takeFinding a o (endTransaction s)
  match k with
  | .survey => advanceSurvey o.isValid s1
  | .sweep | .reprobe => s1

/-- R156: whether a row is now a LAMP row. Room and issue mode are a LAMP row's; every other row's room is ROOM. -/
def isLampRow (a : Nat) (s : State) : Bool := (s.settings.loopRow a).expected == .lamp

/-- R156, R167, R168, R175: the outcome of a POLL, a SET or a READ whose unit a CONFIG has made ABSENT meanwhile (log entry 20). A valid reply
acts on the row as for a PRESENT unit, a lamp unit's room only while the row is still a LAMP row. A READ gives no verdict (R170), a miss is
not counted (R169), and a GARBLED outcome is counted whatever the row. -/
def lostOutcome (a : Nat) (o : LoopOutcome) (s : State) : State :=
  match o with
  | .valid (.setAnswer x) good => if isLampRow a s then takeAnswer a x good s else heard a good s
  | .valid (.lampPoll r) good =>
    if good && isLampRow a s then takePoll a (.lampPoll r) (heard a good s) else heard a good s
  | .valid (.callPoll n p) good => endPoll a (.valid (.callPoll n p) good) s
  | .valid _ good => heard a good s
  | .garbled | .noReply => unheard a o s

/-- The outcome of the transaction on the loop (R158), by whether the unit is still PRESENT. -/
def takeOutcome (t : Transaction) (o : LoopOutcome) (s : State) : State :=
  match t with
  | .broadcast => s
  | .poll a _ began => if stillPresent a s then scheduleNext a began (endPoll a o (endTransaction s)) else lostOutcome a o (endTransaction s)
  | .set a sent held => if stillPresent a s then endSet a sent held o s else lostOutcome a o (endTransaction s)
  | .read a sent => if stillPresent a s then endRead a sent o s else lostOutcome a o (endTransaction s)
  | .probe a k => endProbe a k o s

/-! ## A changed LOOP section -/

/-- Every fault a row holds cleared (R177), in the order in which the row came to hold them (the model's choice, log entry 36: R177 gives
no order). -/
def clearRowFaults (a : Nat) (s : State) : State :=
  match s.loop.row a with
  | none => s
  | some r => r.faultsHeld.foldl (fun s k => clearUnitFault a k s) s

/-- R177: an address whose expected kind has changed. The absence is reported to the block of the kind it had. The room is ROOM, as R156 has it
for every CALL and NONE row and R169 for an ABSENT one, also where the late answer of a unit no longer in service had set it (log entry
20). -/
def reexpect (old : Settings) (s : State) (a : Nat) : State :=
  let e := (old.loopRow a).expected
  let s1 := if stillPresent a s then goAbsent a e none (.unitAbsent a e s.uptime) s else s
  mapLoop (fun u => { u with reprobes := if u.reprobes.contains a then u.reprobes else u.reprobes ++ [a] })
    (clearRowFaults a (mapRow a (fun r => { r with room := .room }) s1))

/-- R177: one address after a change of the LOOP section. -/
def applyLoopRow (old : Settings) (s : State) (a : Nat) : State :=
  let s1 := if (old.loopRow a).expected ≠ (s.settings.loopRow a).expected then reexpect old s a else s
  if (old.loopRow a).mode ≠ (s.settings.loopRow a).mode then clearUnitFault a .promiseBroken s1 else s1

/-- R177: the Loop Master applies an accepted change of its section. -/
def applyLoop (old : Settings) (s : State) : State := loopAddresses.foldl (applyLoopRow old) s

/-! ## Requests -/

/-- R174: RETRAIN LOOP carried out. -/
def retrain (s : State) : State :=
  let s1 := if s.loop.rate = .slow then
      clearFault .loop .loopRateFallback (loopNotice .rateFast (mapLoop (fun u => { u with rate := .fast }) s))
    else s
  mapLoop (fun u => { u.newPeriod s1.uptime s1.settings.loop.surveyPeriod with
    survey := some (match u.survey with
      | some v => { v with retrains := v.retrains + 1 }
      | none => ⟨.retrain, 1, 0, 1⟩) }) s1

/-- The five classes of the class-to-lane map (R156). -/
def laneClasses : List LaneClass := [.curtain, .light, .staff, .showing, .courtesy]

/-- R176: the lists of the Loop Master: the rows, the two lanes, the class-to-lane map. -/
def unitItems (s : State) : List UnitItem :=
  s.loop.rows.map (fun r => .row (s.settings.loopRow r.address) r) ++ s.loop.urgent.map .urgent ++ s.loop.ordinary.map .ordinary ++
    laneClasses.map (fun c => .lane c (s.settings.loop.lane c))

/-- R176: the results of UNIT TABLE. -/
def unitsReply (first : Nat) (s : State) : UnitsReply where
  items := page first s.freeCount (unitItems s)
  state := s.loop.state
  rate := s.loop.rate
  busy := s.loop.transaction.isSome
  survey := s.loop.survey
  sweepPosition := s.loop.sweepPosition
  checkErrors := s.loop.checkErrors
  secondsLeft := secondsLeft (s.loop.periodBegan + s.loop.periodLength) s.uptime
  pollPeriod := s.settings.loop.pollPeriod
  surveyPeriod := s.settings.loop.surveyPeriod
  replyWindow := s.settings.loop.replyWindow

/-! ## Meanings -/

/-- A frame begun within the reply window is taken and judged (R158). -/
def execLoopReply (f : LoopFrame) : State → Host.Outcome State Fault Refusal :=
  command fun s =>
    match s.loop.transaction with
    | none => s
    | some t => refreshPresented (takeOutcome t (judgeFrame t f) s)

/-- The reply window passes with no frame begun (R158). The clock reaches its end (log entry 5). -/
def execReplyWindowExpiry : State → Host.Outcome State Fault Refusal :=
  command fun s =>
    match s.loop.transaction with
    | none => s
    | some .broadcast => s
    | some t => refreshPresented (takeOutcome t .noReply (mapClock (Clock.reach s.loop.windowAt) s))

/-- The serial of the CALL being sent, if a CALL is (R162). -/
def Loop.sendingSerial (u : Loop) : Option Nat :=
  ((u.urgent ++ u.ordinary).find? (·.sending)).bind (fun i => match i.work with
    | .call b => some b.serial
    | .set _ _ | .cancel _ => none)

/-- R158, R162: a broadcast's frame has been sent. -/
def broadcastSent (s : State) : State :=
  let n := s.loop.sendingSerial
  let s1 := mapLoop (fun u => { u.removeSent with transaction := none, drives := false }) s
  match n with
  | some k => callSent k s1
  | none => s1

/-- A broadcast has been sent (R158, R162). -/
def execLoopBroadcastSent : State → Host.Outcome State Fault Refusal :=
  command fun s => if s.loop.transaction = some .broadcast then broadcastSent s else s

/-- A PRESENT unit's next poll time arrives (R165): the clock reaches it (log entries 5 and 18), and the loop, when free, takes the due
POLLs. -/
def execPollDue (a : Nat) : State → Host.Outcome State Fault Refusal :=
  command fun s =>
    match (s.loop.row a).bind UnitRow.nextPoll with
    | some t => mapClock (Clock.reach t) s
    | none => s

/-- R173: the end of a survey period in RUNNING. -/
def Loop.endPeriod (now length : Nat) (u : Loop) : Loop :=
  let u := u.newPeriod now length
  if u.survey.isNone ∧ u.nextSweep.isSome then { u with sweepDue := true } else u

/-- A survey period ends (R173). -/
def execSurveyPeriodEnd : State → Host.Outcome State Fault Refusal :=
  command fun s =>
    if s.loop.state = .running ∧ s.loop.periodBegan + s.loop.periodLength ≤ s.uptime then
      mapLoop (Loop.endPeriod s.uptime s.settings.loop.surveyPeriod) s
    else s

/-- RETRAIN LOOP (R174). -/
def execRetrainLoop (p : Port) (tag : Tag) : State → Host.Outcome State Fault Refusal :=
  request p tag .retrainLoop fun s => stageRequest p tag none (fun s => retrain (accept p tag s)) s

/-- UNIT TABLE (R176). -/
def execUnitTable (p : Port) (tag : Tag) (first : Nat) : State → Host.Outcome State Fault Refusal :=
  request p tag .unitTable fun s => reply p tag (.done (.units (unitsReply first s))) (spend s)

end Sys2Proof.Machine
end

