-- ==== Sys2Proof/Machine/StoreOps.lean ====
section
/-! DEFINITION. The Settings Store: CONFIG (R191) and its application by the blocks (R41, R102, R177), GET CONFIG (R192), STORE SECTION and the end of its write (R193). -/

namespace Sys2Proof.Machine

/-! ## Fields -/

/-- The section a field belongs to (R190). -/
def fieldSection : ConfigField → SectionName
  | .zoneAreaKind _ _ | .zoneStaged _ _ | .zoneVerify _ _ | .zoneCurtainTrigger _ _ | .zoneStaffTarget _ _ | .zoneStaffMessage _ _
  | .ackWindow _ | .investigationWindow _ => .zones
  | .channelType _ _ | .channelZone _ _ | .channelOpen _ _ | .channelPrealarm _ _ | .channelAlarm _ _ | .channelShort _ _
  | .channelConfirm _ _ | .settleWindow _ | .offTime _ | .recoveryTime _ | .verificationWindow _ => .channels
  | .travel _ | .stallWindow _ | .minDropInterval _ | .dropLimit _ | .holdOff _ | .maxHolds _ | .grace _ | .dwell _
  | .displayMessage _ | .displayTarget _ => .curtain
  | .lampUnit _ _ | .lampOutput _ _ | .lampRole _ _ | .lampRest _ _ | .preset _ _ | .phasePreset _ _ | .panicFade _ => .lights
  | .callUnitArea _ _ | .callUnitAllAreas _ _ | .planEntry _ _ _ => .calls
  | .expectedKind _ _ | .issueMode _ _ | .laneOf _ _ | .pollPeriod _ | .surveyPeriod _ | .replyWindow _ => .loop
  | .frontFitted _ | .subscription _ _ _ | .intervalLength _ | .clearanceLife _ => .ports
  | .displayRequired _ => .performance

/-- A number within a range, ends included. -/
def within (lo hi n : Nat) : Bool := decide (lo ≤ n) && decide (n ≤ hi)

/-- R102: a preset's pairs in range with no channel twice, and its fade time in tenths. -/
def presetInRange (v : Preset) : Bool :=
  within 1 48 v.levels.length && v.levels.all (fun q => within 1 48 q.1 && decide (q.2 ≤ 100)) && decide (v.levels.map (·.1)).Nodup &&
    decide (v.fade ≤ 6000)

/-- R129, R191: a plan entry's offset, kind and target. -/
def planEntryInRange (e : PlanEntry) : Bool :=
  decide (e.offset ≤ 3600) && callTargetInRange e.target && kindInRange e.kind &&
    (match e.kind with
     | .chime _ | .bell _ | .message _ => true
     | .staffCode _ | .evac => false)

/-- R191: a field's own value within its range. Zone 0's area kind, staged and verify may not be named (R43). -/
def fieldInRange : ConfigField → Bool
  | .zoneAreaKind z _ | .zoneStaged z _ | .zoneVerify z _ => within 1 12 z
  | .zoneCurtainTrigger z _ => within 0 12 z
  | .zoneStaffTarget z t => within 0 12 z && callTargetInRange t
  | .zoneStaffMessage z n => within 0 12 z && within 1 64 n
  | .ackWindow n => within 10 120 n
  | .investigationWindow n => within 30 600 n
  | .channelType c _ => within 1 16 c
  | .channelZone c z => within 1 16 c && within 1 12 z
  | .channelOpen c n | .channelPrealarm c n | .channelAlarm c n | .channelShort c n => within 1 16 c && within 0 255 n
  | .channelConfirm c n => within 1 16 c && within 1 15 n
  | .settleWindow n => within 1 255 n
  | .offTime n => within 2 10 n
  | .recoveryTime n => within 5 30 n
  | .verificationWindow n => within 30 120 n
  | .travel n => within 100 65000 n
  | .stallWindow n => within 2 50 n
  | .minDropInterval n => within 1 255 n
  | .dropLimit n => within 10 60 n
  | .holdOff n => within 0 60 n
  | .maxHolds n => within 0 3 n
  | .grace n => within 0 30 n
  | .dwell n => within 10 120 n
  | .displayMessage n => within 1 64 n
  | .displayTarget t => callTargetInRange t
  | .lampUnit c a => within 1 48 c && within 1 31 a
  | .lampOutput c o => within 1 48 c && within 1 8 o
  | .lampRole c _ => within 1 48 c
  | .lampRest c n => within 1 48 c && within 0 100 n
  | .preset n v => within 1 16 n && v.all presetInRange
  | .phasePreset p v => p != .evacuation && v.all (within 1 16)
  | .panicFade n => within 0 100 n
  | .callUnitArea a n => within 1 31 a && within 0 15 n
  | .callUnitAllAreas a _ => within 1 31 a
  | .planEntry _ k v => within 1 6 k && v.all planEntryInRange
  | .expectedKind a _ => within 1 31 a
  | .issueMode a _ => within 1 31 a
  | .laneOf _ _ => true
  | .pollPeriod n => within 100 1000 n
  | .surveyPeriod n => within 2 60 n
  | .replyWindow n => within 2 20 n
  | .frontFitted _ => true
  | .subscription _ _ _ => true
  | .intervalLength n => within 60 3600 n
  | .clearanceLife n => within 60 1800 n
  | .displayRequired _ => true

/-! ## The change of a section -/

/-- A zone's record changed. -/
def ZonesSection.change (v : ZonesSection) (z : Nat) (f : ZoneSettings → ZoneSettings) : ZonesSection :=
  { v with zones := v.zones.map (fun x => if x.num == z then f x else x) }

/-- A channel's configured record changed. -/
def ChannelsSection.change (v : ChannelsSection) (n : Nat) (f : ChannelSettings → ChannelSettings) : ChannelsSection :=
  { v with channels := v.channels.map (fun x => if x.num == n then f x else x) }

/-- A lamp channel's configured record changed. -/
def LightsSection.change (v : LightsSection) (n : Nat) (f : LampSettings → LampSettings) : LightsSection :=
  { v with lamps := v.lamps.map (fun x => if x.num == n then f x else x) }

/-- A call unit's place put in order of address; a new one serves area 0 and accepts all-areas calls until it is named (log entry 25). -/
def putCallUnit (a : Nat) (f : CallUnitSettings → CallUnitSettings) : List CallUnitSettings → List CallUnitSettings
  | [] => [f ⟨a, 0, true⟩]
  | x :: l => if a < x.address then f ⟨a, 0, true⟩ :: x :: l else if a = x.address then f x :: l else x :: putCallUnit a f l

/-- A call plan's entry, counted from 1, replaced. -/
def putEntry (k : Nat) (e : Option PlanEntry) (l : List (Option PlanEntry)) : List (Option PlanEntry) := l.set (k - 1) e

/-- A row of the LOOP section changed. -/
def LoopSection.change (v : LoopSection) (a : Nat) (f : LoopRowSettings → LoopRowSettings) : LoopSection :=
  { v with rows := v.rows.map (fun x => if x.address == a then f x else x) }

/-- The class-to-lane map changed for one class (R156). -/
def LoopSection.setLane (v : LoopSection) (c : LaneClass) (l : Lane) : LoopSection :=
  match c with
  | .curtain => { v with laneCurtain := l }
  | .light => { v with laneLight := l }
  | .staff => { v with laneStaff := l }
  | .showing => { v with laneShow := l }
  | .courtesy => { v with laneCourtesy := l }

def setZones (s : Settings) (f : ZonesSection → ZonesSection) : Settings := { s with zones := f s.zones }
def setChannels (s : Settings) (f : ChannelsSection → ChannelsSection) : Settings := { s with channels := f s.channels }
def setCurtain (s : Settings) (f : CurtainSection → CurtainSection) : Settings := { s with curtain := f s.curtain }
def setLights (s : Settings) (f : LightsSection → LightsSection) : Settings := { s with lights := f s.lights }
def setCalls (s : Settings) (f : CallsSection → CallsSection) : Settings := { s with calls := f s.calls }
def setLoop (s : Settings) (f : LoopSection → LoopSection) : Settings := { s with loop := f s.loop }
def setPorts (s : Settings) (f : PortsSection → PortsSection) : Settings := { s with ports := f s.ports }

/-- R191: one field set to its new value. -/
def applyField (s : Settings) : ConfigField → Settings
  | .zoneAreaKind z k => setZones s (·.change z (fun x => { x with areaKind := k }))
  | .zoneStaged z b => setZones s (·.change z (fun x => { x with staged := b }))
  | .zoneVerify z b => setZones s (·.change z (fun x => { x with verify := b }))
  | .zoneCurtainTrigger z b => setZones s (·.change z (fun x => { x with curtainTrigger := b }))
  | .zoneStaffTarget z t => setZones s (·.change z (fun x => { x with staffTarget := t }))
  | .zoneStaffMessage z n => setZones s (·.change z (fun x => { x with staffMessage := n }))
  | .ackWindow n => setZones s (fun v => { v with ackWindow := n })
  | .investigationWindow n => setZones s (fun v => { v with investigationWindow := n })
  | .channelType c t => setChannels s (·.change c (fun x => { x with type := t }))
  | .channelZone c z => setChannels s (·.change c (fun x => { x with zone := z }))
  | .channelOpen c n => setChannels s (·.change c (fun x => { x with openBelow := n }))
  | .channelPrealarm c n => setChannels s (·.change c (fun x => { x with prealarm := n }))
  | .channelAlarm c n => setChannels s (·.change c (fun x => { x with alarm := n }))
  | .channelShort c n => setChannels s (·.change c (fun x => { x with short := n }))
  | .channelConfirm c n => setChannels s (·.change c (fun x => { x with confirm := n }))
  | .settleWindow n => setChannels s (fun v => { v with settleWindow := n })
  | .offTime n => setChannels s (fun v => { v with offTime := n })
  | .recoveryTime n => setChannels s (fun v => { v with recoveryTime := n })
  | .verificationWindow n => setChannels s (fun v => { v with verificationWindow := n })
  | .travel n => setCurtain s (fun v => { v with travel := n })
  | .stallWindow n => setCurtain s (fun v => { v with stallWindow := n })
  | .minDropInterval n => setCurtain s (fun v => { v with minDropInterval := n })
  | .dropLimit n => setCurtain s (fun v => { v with dropLimit := n })
  | .holdOff n => setCurtain s (fun v => { v with holdOff := n })
  | .maxHolds n => setCurtain s (fun v => { v with maxHolds := n })
  | .grace n => setCurtain s (fun v => { v with grace := n })
  | .dwell n => setCurtain s (fun v => { v with dwell := n })
  | .displayMessage n => setCurtain s (fun v => { v with displayMessage := n })
  | .displayTarget t => setCurtain s (fun v => { v with displayTarget := t })
  | .lampUnit c a => setLights s (·.change c (fun x => { x with unit := a }))
  | .lampOutput c o => setLights s (·.change c (fun x => { x with output := o }))
  | .lampRole c r => setLights s (·.change c (fun x => { x with role := r }))
  | .lampRest c n => setLights s (·.change c (fun x => { x with rest := n }))
  | .preset n v => setLights s (fun w => { w with presets := w.presets.map (fun x => if x.num == n then { x with value := v } else x) })
  | .phasePreset p v => setLights s (fun w => { w with phasePresets := w.phasePresets.map (fun x => if x.phase == p then { x with preset := v } else x) })
  | .panicFade n => setLights s (fun v => { v with panicFade := n })
  | .callUnitArea a n => setCalls s (fun v => { v with units := putCallUnit a (fun x => { x with area := n }) v.units })
  | .callUnitAllAreas a b => setCalls s (fun v => { v with units := putCallUnit a (fun x => { x with acceptsAll := b }) v.units })
  | .planEntry .house k e => setCalls s (fun v => { v with housePlan := putEntry k e v.housePlan })
  | .planEntry .interval k e => setCalls s (fun v => { v with intervalPlan := putEntry k e v.intervalPlan })
  | .expectedKind a k => setLoop s (·.change a (fun x => { x with expected := k }))
  | .issueMode a m => setLoop s (·.change a (fun x => { x with mode := m }))
  | .laneOf c l => setLoop s (·.setLane c l)
  | .pollPeriod n => setLoop s (fun v => { v with pollPeriod := n })
  | .surveyPeriod n => setLoop s (fun v => { v with surveyPeriod := n })
  | .replyWindow n => setLoop s (fun v => { v with replyWindow := n })
  | .frontFitted b => setPorts s (fun v => { v with frontFitted := b })
  | .subscription p f b => setPorts s (fun v => v.setSubs p ((v.subs p).set f b))
  | .intervalLength n => setPorts s (fun v => { v with intervalLength := n })
  | .clearanceLife n => setPorts s (fun v => { v with clearanceLife := n })
  | .displayRequired b => { s with performance := ⟨b⟩ }

/-- R191: every named field set. Of a field named twice the last value stands (the model's choice, log entry 36: R191 does not speak of it). -/
def applyFields (fs : List ConfigField) (s : Settings) : Settings := fs.foldl applyField s

/-! ## The judgement of CONFIG -/

/-- R23: a channel's thresholds strictly increasing. -/
def thresholdsRise (c : ChannelSettings) : Bool := decide (c.openBelow < c.prealarm) && decide (c.prealarm < c.alarm) && decide (c.alarm < c.short)

/-- R156: how many addresses expect a kind. -/
def expectedCount (v : LoopSection) (k : UnitKind) : Nat := (v.rows.filter (fun r => r.expected == k)).length

/-- R191: a section as it would stand after the change. -/
def sectionSound (s : Settings) : SectionName → Bool
  | .channels => s.channels.channels.all thresholdsRise
  | .lights => decide (s.lights.lamps.map (fun l => (l.unit, l.output))).Nodup
  | .loop =>
    decide (expectedCount s.loop .lamp ≤ 8) && decide (expectedCount s.loop .call ≤ 16) &&
      decide (expectedCount s.loop .lamp + expectedCount s.loop .call ≤ 24)
  | .zones | .curtain | .calls | .ports | .performance => true

/-- R191: whether the values of a CONFIG are sound; every field must belong to the section named (log entry 25). -/
def configSound (n : SectionName) (fs : List ConfigField) (s : Settings) : Bool :=
  !fs.isEmpty && fs.all (fun f => fieldSection f == n && fieldInRange f) && sectionSound (applyFields fs s) n

/-- R191: the judgement of CONFIG. A section name that is not one of the eight is refused INVALID with the values, after the phase (the model's
choice, log entry 25: R191 gives such a CONFIG no reply). -/
def gateConfig (n : Option SectionName) (fs : List ConfigField) (s : State) : Option Reason :=
  if s.perf.phase ≠ .dark then some .wrongPhase
  else if n = some .channels ∧ s.alarm.entries ≠ [] then some .alarmPresent
  else if ¬ n.any (fun m => configSound m fs s.settings) then some .invalid else none

/-! ## Application by the blocks -/

/-- R41: the channels whose type, zone, thresholds or confirm count differ. -/
def changedChannels (a b : Settings) : List Nat :=
  channelNumbers.filter (fun n => { a.channel n with isolated := false } != { b.channel n with isolated := false })

/-- R191: the change handed to the blocks that read the section. -/
def handSection (n : SectionName) (old : Settings) (s : State) : State :=
  match n with
  | .channels => (changedChannels old s.settings).foldl reconfigureChannel s
  | .lights => onField (Field.applySettings old) s
  | .loop => applyLoop old s
  | .zones | .curtain | .calls | .ports | .performance => s

/-- R191: an accepted CONFIG. -/
def applyConfig (n : SectionName) (fs : List ConfigField) (s : State) : State :=
  handSection n s.settings (markChanged n { s with settings := applyFields fs s.settings })

/-! ## GET CONFIG -/

/-- R181, R192: the items of a section, one for each entry, row or channel of its lists, in the order in which the section holds them. -/
def sectionItems (s : Settings) : SectionName → List SettingItem
  | .zones => s.zones.zones.map .zone
  | .channels => s.channels.channels.map .channel ++ s.channels.isolatedZones.map .zoneIsolated
  | .curtain => []
  | .lights => s.lights.lamps.map .lamp ++ s.lights.presets.map .preset ++ s.lights.phasePresets.map .phasePreset
  | .calls =>
    s.calls.units.map .callUnit ++ s.calls.housePlan.zipIdx.map (fun e => .planEntry .house (e.2 + 1) e.1) ++
      s.calls.intervalPlan.zipIdx.map (fun e => .planEntry .interval (e.2 + 1) e.1)
  | .loop => s.loop.rows.map .loopRow ++ laneClasses.map (fun c => .lane c (s.loop.lane c))
  | .ports => [.subscriptions .stage s.ports.stageSubs, .subscriptions .front s.ports.frontSubs]
  | .performance => []

/-- R192: the values of a section that stand in no list. -/
def sectionFields (s : Settings) : SectionName → List ConfigField
  | .zones => [.ackWindow s.zones.ackWindow, .investigationWindow s.zones.investigationWindow]
  | .channels =>
    [.settleWindow s.channels.settleWindow, .offTime s.channels.offTime, .recoveryTime s.channels.recoveryTime,
      .verificationWindow s.channels.verificationWindow]
  | .curtain =>
    [.travel s.curtain.travel, .stallWindow s.curtain.stallWindow, .minDropInterval s.curtain.minDropInterval,
      .dropLimit s.curtain.dropLimit, .holdOff s.curtain.holdOff, .maxHolds s.curtain.maxHolds, .grace s.curtain.grace,
      .dwell s.curtain.dwell, .displayMessage s.curtain.displayMessage, .displayTarget s.curtain.displayTarget]
  | .lights => [.panicFade s.lights.panicFade]
  | .calls => []
  | .loop => [.pollPeriod s.loop.pollPeriod, .surveyPeriod s.loop.surveyPeriod, .replyWindow s.loop.replyWindow]
  | .ports =>
    [.frontFitted s.ports.frontFitted, .intervalLength s.ports.intervalLength, .clearanceLife s.ports.clearanceLife]
  | .performance => [.displayRequired s.performance.displayRequired]

/-- A section's place in the Settings Store. -/
def Store.row (u : Store) (n : SectionName) : StoreRow := (u.rows.find? (·.name == n)).getD ⟨n, .blank, .blank, false⟩

/-- R192: the results of GET CONFIG. -/
def configReply (n : SectionName) (first : Nat) (s : State) : ConfigReply where
  name := n
  items := page first s.freeCount (sectionItems s.settings n)
  fields := sectionFields s.settings n
  stored := (s.store.row n).stored
  changed := (s.store.row n).changed
  storeRunning := s.store.operation.any (·.name == n)

/-! ## Storing -/

/-- R193: the judgement of STORE SECTION. -/
def gateStore (n : Option SectionName) (s : State) : Option Reason :=
  if n.isNone then some .invalid
  else if s.perf.phase ≠ .dark then some .wrongPhase
  else if s.alarm.entries ≠ [] then some .alarmPresent
  else if s.store.operation.isSome then some .busy else none

/-- R193: a store begun; its section is erased at once. -/
def beginStore (n : SectionName) (s : State) : State :=
  mapStoreRow n (fun r => { r with cell := .blank, stored := .blank }) (setOperation (some ⟨n, s.settings.value n, s.uptime⟩) s)

/-- R193: the end of the write. The changed mark becomes no where the working section equals the snapshot, also where a CONFIG has been taken
during the write and left the section equal to it (the model's choice, log entry 37: R193 says both that an equal section's mark becomes no
and that such a CONFIG leaves it yes). -/
def endStore (op : StoreOperation) (s : State) : State :=
  let same := s.settings.value op.name == op.snapshot
  let s1 := mapStoreRow op.name (fun r => { r with cell := .checked op.snapshot, stored := .valid, changed := r.changed && !same }) (setOperation none s)
  let s2 := notify .store (.storeDone op.name s.uptime) s1
  clearFault (.store op.name) .storeAborted (clearFault (.store op.name) .sectionLost s2)

/-! ## Meanings -/

/-- CONFIG (R191). -/
def execConfig (p : Port) (tag : Tag) (n : Option SectionName) (fs : List ConfigField) : State → Host.Outcome State Fault Refusal :=
  request p tag .config fun s =>
    stageRequest p tag (gateConfig n fs s) (fun s =>
      match n with
      | some m => done p tag (applyConfig m fs s)
      | none => s) s

/-- GET CONFIG (R192). A section name that is not one of the eight is refused INVALID (log entry 25). -/
def execGetConfig (p : Port) (tag : Tag) (n : Option SectionName) (first : Nat) : State → Host.Outcome State Fault Refusal :=
  request p tag .getConfig fun s =>
    match n with
    | none => refuse p tag .invalid s
    | some m => reply p tag (.done (.config (configReply m first s))) (spend s)

/-- STORE SECTION (R193). -/
def execStoreSection (p : Port) (tag : Tag) (n : Option SectionName) : State → Host.Outcome State Fault Refusal :=
  request p tag .storeSection fun s =>
    stageRequest p tag (gateStore n s) (fun s =>
      match n with
      | some m => accept p tag (beginStore m s)
      | none => s) s

/-- The write to the non-volatile store ends (R193). -/
def execStoreWriteEnd : State → Host.Outcome State Fault Refusal :=
  command fun s =>
    match s.store.operation with
    | some op => endStore op s
    | none => s

end Sys2Proof.Machine
end

