-- ==== Sys2Proof/Machine/StartUp.lean ====
section
/-! DEFINITION. Resets and the first steps of start-up (R195 steps 1 to 3, R189, R24, R46, R99, R100, R155, R157, R194), and RESTART (R196). -/

namespace Sys2Proof.Machine

/-! ## Loading -/

/-- The section of some stored contents. -/
def valueSection : SectionValue → SectionName
  | .zones _ => .zones
  | .channels _ => .channels
  | .curtain _ => .curtain
  | .lights _ => .lights
  | .calls _ => .calls
  | .loop _ => .loop
  | .ports _ => .ports
  | .performance _ => .performance

/-- R195 step 1: what a section loads: its contents with a good check, or nothing. -/
def loadRow (r : StoreRow) : Option SectionValue :=
  match r.cell with
  | .checked v => if valueSection v = r.name then some v else none
  | .blank | .unchecked => none

/-- R195 step 1: the working settings as loaded, with the built-in defaults of every section that cannot be read. -/
def loadSettings (u : Store) : Settings :=
  SectionName.all.foldl (fun s n => match loadRow (u.row n) with
    | some v => s.put v
    | none => s) Settings.default

/-- R190, R195: a section's stored state and changed mark after the load. -/
def loadedRow (r : StoreRow) : StoreRow :=
  if (loadRow r).isSome then { r with stored := .valid, changed := false } else { r with stored := .defaulted, changed := true }

/-- R194, R196: a store in progress is stopped; its section may hold a partial write with no check. -/
def stopStore (u : Store) : Store :=
  match u.operation with
  | none => u
  | some op => { rows := u.rows.map (fun r => if r.name = op.name then { r with cell := .unchecked } else r), operation := none }

/-- R195 step 1: the Settings Store after the load. -/
def loadStore (u : Store) : Store := { rows := SectionName.all.map (fun n => loadedRow (u.row n)), operation := none }

/-- The sections that the load found unreadable. -/
def lostSections (u : Store) : List SectionName := SectionName.all.filter (fun n => (u.row n).stored == .defaulted)

/-! ## Start-up -/

/-- R172: the start-up survey, begun at address 1. -/
def Loop.surveying (u : Loop) : Loop := { u with survey := some ⟨.startUp, 1, 0, 0⟩ }

/-- R195 steps 1 and 2: every block's records from the settings as loaded. -/
def rebuild (curtain : Curtain) (s : State) : State :=
  let store := stopStore s.store
  let v := loadSettings store
  { s with
    resetHeld := false, startStep := .survey, uptime := 0, settings := v, store := loadStore store, perf := .reset
    scanner := .rebuilt v.channels, alarm := .reset, curtain := curtain, light := .rebuilt v.lights, calls := .reset
    sup := .reset, loop := (Loop.rebuilt v.loop).surveying, ports := ⟨.reset, .reset⟩ }

/-- R195 step 1: "section lost" raised for each section lost, in the order of R190, once every section has been loaded; so the subscriptions of
the PORTS section route each notice (the model's choice, log entry 36: R195 gives no order of the sections, and PORTS may be loaded after one
that is lost). -/
def raiseLost (s : State) : State := (lostSections s.store).foldl (fun s n => raiseFault (.store n) .sectionLost s) s

/-- R24: "isolated" raised for each isolated channel and zone: every channel before every zone, each in ascending order (the model's choice,
log entries 28 and 35: R24 and R195 give no order). -/
def raiseIsolated (s : State) : State :=
  let ns := (s.settings.channels.channels.filter (·.isolated)).map (·.num)
  let s1 := ns.foldl (fun s n => raiseFault (.channel n) .isolated s) s
  s1.settings.channels.isolatedZones.foldl (fun s z => raiseFault (.zone z) .isolated s) s1

/-- R195 steps 1 and 2, up to the survey. -/
def startUp (curtain : Curtain) (s : State) : State := raiseIsolated (raiseLost (rebuild curtain s))

/-- R99: the record before the resolution, with the last step interval of a step already seen. -/
def unresolvedWith (last : Option Nat) : Curtain := { Curtain.unresolved with lastInterval := last }

/-- R100: whether a curtain is kept through a RESTART. -/
def keptState : CurtainState → Bool
  | .up | .down | .halted => true
  | .lowering | .raising | .dropping | .faultLocked => false

/-- R100: the curtain's record when the start-up of a RESTART begins. It keeps the last step interval (the model's choice, log entry 34:
R99 and R100 say "absent unless a step has been seen" and not since when). -/
def restartCurtain (c : Curtain) : Curtain :=
  if keptState c.state ∧ c.resolved then
    { Curtain.unresolved with state := c.state, resolved := true, position := c.position, lastInterval := c.lastInterval, hold := c.hold }
  else unresolvedWith c.lastInterval

/-- R98: the notice of a display drop abandoned by a RESTART, placed once the Port Units are set, ahead of any "section lost" (the model's
choice, log entry 36: R98 and R189 do not order the notice and the emptying of the queues). -/
def restartNotice (d : Option DisplayStep) (s : State) : State :=
  match d with
  | some x => curtainNotice (.displayAbandoned x .reset) s
  | none => s

/-- R189, R196: start-up begun by the sending of the RESTART reply. -/
def restartController (s : State) : State :=
  raiseIsolated (raiseLost (restartNotice s.curtain.display (rebuild (restartCurtain s.curtain) s)))

/-! ## The reset line -/

/-- R24: the supply of a channel at the reset itself. -/
def ChannelRecord.cutEnded (c : ChannelRecord) : ChannelRecord := { c with supply := true, cut := none }

/-- R189: a Port Unit at the reset itself. -/
def PortUnit.cutOff (u : PortUnit) : PortUnit := { u with sending := none, reader := .hunting }

/-- R24, R46, R99, R155, R157, R189, R194: what RESET_N does at the reset itself. The last step interval held before it is forgotten (the
model's choice, log entry 34: R99 says "absent unless a step has been seen" and not since when). -/
def assertReset (s : State) : State :=
  { s with
    resetHeld := true
    store := stopStore s.store
    scanner := { s.scanner with channels := s.scanner.channels.map ChannelRecord.cutEnded }
    alarm := { s.alarm with sounder := .off, relay := false }
    curtain := Curtain.unresolved
    sup := .reset
    loop := { s.loop with transaction := none, drives := false }
    ports := ⟨s.ports.stage.cutOff, s.ports.front.cutOff⟩ }

/-! ## Meanings -/

/-- Power is applied (R195, R189). No step has been sensed before it, and the model's clock begins (log entry 5). -/
def execPowerOn (s : State) : Host.Outcome State Fault Refusal :=
  .next (settle (startUp Curtain.unresolved { mapLines (fun l => { l with lastStepAt := none }) s with clock := ⟨0, 0, 0, 0⟩ }))

/-- RESET_N is asserted. -/
def execResetNAsserted (s : State) : Host.Outcome State Fault Refusal := .next (if s.resetHeld then s else assertReset s)

/-- RESET_N is released, which begins start-up (R195). -/
def execResetNReleased (s : State) : Host.Outcome State Fault Refusal :=
  .next (if s.resetHeld then settle (startUp (unresolvedWith s.curtain.lastInterval) s) else s)

/-- R196: the judgement of RESTART. -/
def gateRestart (s : State) : Option Reason :=
  if s.perf.phase ≠ .dark then some .wrongPhase
  else if s.alarm.entries ≠ [] then some .alarmPresent
  else if s.curtain.state.moving then some .curtainMoving
  else if s.curtain.state = .faultLocked then some .criticalFault
  else if s.store.operation.isSome then some .busy else none

/-- RESTART (R196). Start-up begins when the reply has been sent. -/
def execRestart (p : Port) (tag : Tag) : State → Host.Outcome State Fault Refusal :=
  request p tag .restart fun s => stageRequest p tag (gateRestart s) (reply p tag (.done .restart)) s

end Sys2Proof.Machine
end

