-- ==== Sys2Proof/Machine/PortOps.lean ====
section
/-! DEFINITION. The Port Units: frame errors (R179), the transmitter (R184), subscriptions (R185), PORT STATUS (R186), and IDENTIFY (R187). -/

namespace Sys2Proof.Machine

/-! ## Frame errors -/

/-- R179: a frame error; the reader returns to hunting. -/
def PortUnit.frameError (u : PortUnit) : PortUnit := { u with frameErrors := satSucc 65535 u.frameErrors, reader := .hunting }

/-! ## Frames sent -/

/-- R184: the first request whose queued reply carries a tag leaves the intake. -/
def leaveIntake (tag : Tag) : List IntakeEntry → List IntakeEntry
  | [] => []
  | e :: l => if e.step = .replyQueued ∧ e.tag = tag then l else e :: leaveIntake tag l

/-- R184: the oldest frame of the output queue has been sent. -/
def PortUnit.sentQueued (u : PortUnit) : PortUnit :=
  match u.queue with
  | [] => u
  | .notice _ _ :: l => { u with queue := l }
  | .reply tag _ :: l => PortUnit.judgeFlow { u with queue := l, intake := leaveIntake tag u.intake }

/-- R184: the transmitter finishes a frame (log entry 29). -/
def PortUnit.frameDone (u : PortUnit) : PortUnit :=
  match u.sending with
  | none => u
  | some (.flow n) => { u with sending := none, flow := if u.flow = some n then none else u.flow }
  | some .fullRefusal => { u with sending := none, refusals := u.refusals.drop 1 }
  | some .queued => PortUnit.sentQueued { u with sending := none }

/-- R189: whether the frame being sent is the RESTART reply. -/
def PortUnit.sendsRestart (u : PortUnit) : Bool :=
  match u.sending, u.queue with
  | some .queued, .reply _ o :: _ => o == .done .restart
  | _, _ => false

/-! ## Requests -/

/-- R185: the named families set, the others kept. Of a family named twice the last value stands (the model's choice, log entry 36: R185 does
not speak of it). -/
def subscribeAll (l : List (Option Family × Bool)) (u : Subscriptions) : Subscriptions :=
  l.foldl (fun u q => match q.1 with
    | some f => u.set f q.2
    | none => u) u

/-- R185: one or more families named, each of the table. -/
def familiesKnown (l : List (Option Family × Bool)) : Bool := !l.isEmpty && l.all (·.1.isSome)

/-- R185, R190: a port's subscriptions set, with the changed mark of PORTS if one of them changes. -/
def setSubscriptions (p : Port) (u : Subscriptions) (s : State) : State :=
  let s1 := { s with settings := { s.settings with ports := s.settings.ports.setSubs p u } }
  if u = s.settings.ports.subs p then s1 else markChanged .ports s1

/-- R186: a frame of the output queue, as PORT STATUS lists it: a reply by its tag without its outcome, a notice without saying which it is (the
model's choice, log entry 37: R186 names the replies and notices and not what it shows of each). -/
def OutFrame.summary : OutFrame → FrameSummary
  | .reply tag _ => .reply tag
  | .notice _ _ => .notice

/-- R186: one port's part of PORT STATUS. -/
def portReply (u : PortUnit) (subs : Subscriptions) : PortReply :=
  ⟨u.heldOff, u.flow, u.refusals.length, u.frameErrors, u.dropped, u.fullRefusals, subs⟩

/-- R186: the lists of one port, the intake before the output queue. -/
def portItems (p : Port) (u : PortUnit) : List PortItem := u.intake.map (.request p) ++ u.queue.map (fun f => .frame p f.summary)

/-- R186: the results of PORT STATUS. -/
def portsReply (first : Nat) (s : State) : PortsReply where
  items := page first s.freeCount (portItems .stage s.ports.stage ++ portItems .front s.ports.front)
  stage := portReply s.ports.stage s.settings.ports.stageSubs
  front := portReply s.ports.front s.settings.ports.frontSubs
  frontFitted := s.settings.ports.frontFitted
  strapFast := s.lines.strapFast

/-- R186: the three counts set to 0. -/
def PortUnit.clearCounts (u : PortUnit) : PortUnit := { u with frameErrors := 0, dropped := 0, fullRefusals := 0 }

/-- R187: the results of IDENTIFY. -/
def identityReply (p : Port) (s : State) : IdentityReply := ⟨"Hovabel", "Razsel", "RZS-840", 1, s.lines.strapFast, p⟩

/-! ## Meanings -/

/-- A received frame (R180, R182). -/
def execReceivedFrame (p : Port) (f : PortFrame) : State → Host.Outcome State Fault Refusal :=
  command fun s => s.mapPort p (PortUnit.receive (portJudgement s.settings.ports.frontFitted p f) f)

/-- A run of bytes other than the sync byte between two frames (R179). -/
def execBadSync (p : Port) : State → Host.Outcome State Fault Refusal := command fun s => s.mapPort p PortUnit.frameError

/-- A length byte above 120 (R179). -/
def execBadLength (p : Port) : State → Host.Outcome State Fault Refusal := command fun s => s.mapPort p PortUnit.frameError

/-- More than 4 byte times of idle line inside a frame (R179). -/
def execIncomplete (p : Port) : State → Host.Outcome State Fault Refusal := command fun s => s.mapPort p PortUnit.frameError

/-- A complete frame whose check fails (R179). -/
def execBadCheck (p : Port) : State → Host.Outcome State Fault Refusal := command fun s => s.mapPort p PortUnit.frameError

/-- A byte with a bad stop element inside a frame (R179). -/
def execBadFraming (p : Port) : State → Host.Outcome State Fault Refusal := command fun s => s.mapPort p PortUnit.frameError

/-- The next waiting request is passed to its owner (R180). -/
def execRequestPassedOn (p : Port) : State → Host.Outcome State Fault Refusal :=
  command fun s => s.mapPort p (fun u => { u with intake := passOn u.intake })

/-- The transmitter finishes a frame (R184); the end of the RESTART reply begins start-up (R189). -/
def execFrameSent (p : Port) : State → Host.Outcome State Fault Refusal :=
  command fun s => if (s.port p).sendsRestart then restartController s else s.mapPort p PortUnit.frameDone

/-- SUBSCRIBE (R185). -/
def execSubscribe (p : Port) (tag : Tag) (families : List (Option Family × Bool)) : State → Host.Outcome State Fault Refusal :=
  request p tag .subscribe fun s =>
    if familiesKnown families then
      let u := subscribeAll families (s.settings.ports.subs p)
      reply p tag (.done (.subscriptions u)) (setSubscriptions p u s)
    else refuse p tag .invalid s

/-- PORT STATUS with the selector "read", or with one that is neither (R186). -/
def execPortStatus (p : Port) (tag : Tag) (selectorKnown : Bool) (first : Nat) : State → Host.Outcome State Fault Refusal :=
  request p tag .portStatus fun s =>
    if selectorKnown then reply p tag (.done (.ports (portsReply first s))) (spend s) else refuse p tag .invalid s

/-- PORT STATUS with the selector "read and clear" (R186). -/
def execPortStatusReadAndClear (p : Port) (tag : Tag) (first : Nat) : State → Host.Outcome State Fault Refusal :=
  request p tag .portStatus fun s => (reply p tag (.done (.ports (portsReply first s))) (spend s)).mapPort p PortUnit.clearCounts

/-- IDENTIFY (R187). -/
def execIdentify (p : Port) (tag : Tag) : State → Host.Outcome State Fault Refusal :=
  request p tag .identify fun s => reply p tag (.done (.identity (identityReply p s))) s

end Sys2Proof.Machine
end

