-- ==== Sys2Proof/Machine/Frames.lean ====
section
/-! DEFINITION. The layout of a port frame (R178, R179), with the check that it shares with the loop frame. The manual does not give the kind codes of port frames (log entry 7), so they are operands here and no step builds these bytes. -/

namespace Sys2Proof.Machine

/-! ## The port frame -/

/-- R178: what the kind byte of a port frame says the frame is. -/
inductive FrameClass
  | request
  | reply
  | notice
deriving DecidableEq, Repr

/-- R178: the kind codes of a class: a request code (1 to 63), a reply code (64 to 127) or a notice code (128 to 191). -/
def FrameClass.codes : FrameClass → List Nat
  | .request => (List.range 63).map (· + 1)
  | .reply => (List.range 64).map (· + 64)
  | .notice => (List.range 64).map (· + 128)

/-- R178: the class of a kind byte, if it has one. A desk tells a reply from a notice by the kind, never by the tag. -/
def frameClass (kind : Byte) : Option FrameClass := [.request, .reply, .notice].find? (fun c => c.codes.contains kind.toNat)

/-- The class and the tag of a frame that a Port Unit sends. -/
structure FrameHead where
  cls : FrameClass
  tag : Tag
deriving DecidableEq, Repr

/-- R178: a reply carries the tag of the request it answers, a notice tag 0. -/
def OutFrame.head : OutFrame → FrameHead
  | .reply tag _ => ⟨.reply, tag⟩
  | .notice _ _ => ⟨.notice, 0⟩

/-- R178, R182: the head of the frame a Port Unit is sending. A REFUSED FULL reply carries the oldest tag of the refusal list. -/
def PortUnit.sendingHead (u : PortUnit) : Option FrameHead :=
  match u.sending with
  | none => none
  | some (.flow _) => some ⟨.notice, 0⟩
  | some .fullRefusal => u.refusals.head?.map (⟨.reply, ·⟩)
  | some .queued => u.queue.head?.map OutFrame.head

/-- R178: the dropped-notice count with which a notice's payload begins. -/
def OutFrame.droppedCount : OutFrame → Option Nat
  | .reply _ _ => none
  | .notice n _ => some n

/-- R178: bytes 2 to the last payload byte. -/
def portBody (kind tag : Byte) (payload : List Byte) : List Byte := BitVec.ofNat 8 payload.length :: kind :: tag :: payload

/-- R178: a port frame. -/
def portFrame (kind tag : Byte) (payload : List Byte) : List Byte := 0xC3#8 :: (portBody kind tag payload ++ checkBytes (portBody kind tag payload))

/-- R178: the frame of a refusal, whose kind is the reason's code: no payload, 6 bytes. -/
def refusalFrame (code tag : Byte) : List Byte := portFrame code tag []

/-- What the bytes after a sync byte come to (R179). -/
inductive FrameReading
  | badLength
  | incomplete
  | badCheck
  | received (kind tag : Byte) (payload : List Byte)
deriving DecidableEq, Repr

/-- R179: the bytes after a sync byte read, up to an idle line. -/
def readPortFrame : List Byte → FrameReading
  | [] => .incomplete
  | len :: rest =>
    if 120 < len.toNat then .badLength
    else
      match rest with
      | kind :: tag :: l =>
        if l.length < len.toNat + 2 then .incomplete
        else if (l.drop len.toNat).take 2 = checkBytes (len :: kind :: tag :: l.take len.toNat) then .received kind tag (l.take len.toNat)
        else .badCheck
      | _ => .incomplete

end Sys2Proof.Machine
end

