-- ==== Sys2Proof/Machine/Dispatch.lean ====
section
/-! DEFINITION. The dispatch: one arm per command, each a call of its meaning. -/

namespace Sys2Proof.Machine

/-- What a command does to everything but the queue. -/
def exec (i : Instr) (s : State) : Host.Outcome State Fault Refusal :=
  match i with
  | .powerOn => Sys2Proof.Machine.execPowerOn s
  | .resetNAsserted => Sys2Proof.Machine.execResetNAsserted s
  | .resetNReleased => Sys2Proof.Machine.execResetNReleased s
  | .receivedFrame p frame => Sys2Proof.Machine.execReceivedFrame p frame s
  | .badSync p => Sys2Proof.Machine.execBadSync p s
  | .badLength p => Sys2Proof.Machine.execBadLength p s
  | .incomplete p => Sys2Proof.Machine.execIncomplete p s
  | .badCheck p => Sys2Proof.Machine.execBadCheck p s
  | .badFraming p => Sys2Proof.Machine.execBadFraming p s
  | .requestPassedOn p => Sys2Proof.Machine.execRequestPassedOn p s
  | .frameSent p => Sys2Proof.Machine.execFrameSent p s
  | .phase p tag target countdown length override => Sys2Proof.Machine.execPhase p tag target countdown length override s
  | .giveClearance p tag => Sys2Proof.Machine.execGiveClearance p tag s
  | .withdrawClearance p tag => Sys2Proof.Machine.execWithdrawClearance p tag s
  | .setCountdown p tag value => Sys2Proof.Machine.execSetCountdown p tag value s
  | .setCountdownClear p tag => Sys2Proof.Machine.execSetCountdownClear p tag s
  | .extendInterval p tag seconds => Sys2Proof.Machine.execExtendInterval p tag seconds s
  | .performanceStatus p tag first => Sys2Proof.Machine.execPerformanceStatus p tag s first
  | .clearanceLapse which => Sys2Proof.Machine.execClearanceLapse which s
  | .uptimeAdvance => Sys2Proof.Machine.execUptimeAdvance s
  | .countdownReachesZero which => Sys2Proof.Machine.execCountdownReachesZero which s
  | .visit reading => Sys2Proof.Machine.execVisit reading s
  | .offTimeEnd channel => Sys2Proof.Machine.execOffTimeEnd channel s
  | .blankingEnd channel => Sys2Proof.Machine.execBlankingEnd channel s
  | .verificationWindowEnd channel => Sys2Proof.Machine.execVerificationWindowEnd channel s
  | .isolate p tag what => Sys2Proof.Machine.execIsolate p tag what s
  | .restore p tag what => Sys2Proof.Machine.execRestore p tag what s
  | .readChannel p tag channel => Sys2Proof.Machine.execReadChannel p tag channel s
  | .acknowledge p tag zone => Sys2Proof.Machine.execAcknowledge p tag zone s
  | .cancel p tag zone => Sys2Proof.Machine.execCancel p tag zone s
  | .silence p tag => Sys2Proof.Machine.execSilence p tag s
  | .evacuate p tag => Sys2Proof.Machine.execEvacuate p tag s
  | .resetAlarms p tag => Sys2Proof.Machine.execResetAlarms p tag s
  | .alarmList p tag first => Sys2Proof.Machine.execAlarmList p tag first s
  | .ackWindowExpiry zone => Sys2Proof.Machine.execAckWindowExpiry zone s
  | .investigationWindowExpiry zone => Sys2Proof.Machine.execInvestigationWindowExpiry zone s
  | .curtainLower p tag => Sys2Proof.Machine.execCurtainLower p tag s
  | .curtainRaise p tag => Sys2Proof.Machine.execCurtainRaise p tag s
  | .curtainStop p tag => Sys2Proof.Machine.execCurtainStop p tag s
  | .curtainDropTest p tag => Sys2Proof.Machine.execCurtainDropTest p tag s
  | .curtainClearFault p tag => Sys2Proof.Machine.execCurtainClearFault p tag s
  | .curtainStatus p tag first => Sys2Proof.Machine.execCurtainStatus p tag s first
  | .curtainHold p tag => Sys2Proof.Machine.execCurtainHold p tag s
  | .curtainDisplay p tag => Sys2Proof.Machine.execCurtainDisplay p tag s
  | .limitBottomActive => Sys2Proof.Machine.execLimitBottomActive s
  | .limitBottomLost => Sys2Proof.Machine.execLimitBottomLost s
  | .limitTopActive => Sys2Proof.Machine.execLimitTopActive s
  | .limitTopLost => Sys2Proof.Machine.execLimitTopLost s
  | .encoderStep line interval => Sys2Proof.Machine.execEncoderStep line interval s
  | .motionWatchEnd => Sys2Proof.Machine.execMotionWatchEnd s
  | .settingLineChange beamUs beamDs => Sys2Proof.Machine.execSettingLineChange beamUs beamDs s
  | .releaseExpiry => Sys2Proof.Machine.execReleaseExpiry s
  | .graceEnd => Sys2Proof.Machine.execGraceEnd s
  | .dropOverdue => Sys2Proof.Machine.execDropOverdue s
  | .dwellEnd => Sys2Proof.Machine.execDwellEnd s
  | .emergReleaseAsserted => Sys2Proof.Machine.execEmergReleaseAsserted s
  | .emergReleaseReleased => Sys2Proof.Machine.execEmergReleaseReleased s
  | .manualLevel p tag channels level fade => Sys2Proof.Machine.execManualLevel p tag channels level fade s
  | .manualLevelRelease p tag channels fade => Sys2Proof.Machine.execManualLevelRelease p tag channels fade s
  | .goPreset p tag number => Sys2Proof.Machine.execGoPreset p tag number s
  | .lightStatus p tag first => Sys2Proof.Machine.execLightStatus p tag first s
  | .fadeAdvance => Sys2Proof.Machine.execFadeAdvance s
  | .fadeEnd channel => Sys2Proof.Machine.execFadeEnd channel s
  | .flashClockHalf => Sys2Proof.Machine.execFlashClockHalf s
  | .placeCall p tag cls kind target repeats anchor offset => Sys2Proof.Machine.execPlaceCall p tag cls kind target repeats anchor offset s
  | .withdrawCall p tag named => Sys2Proof.Machine.execWithdrawCall p tag named s
  | .callStatus p tag first => Sys2Proof.Machine.execCallStatus p tag first s
  | .callTimeLimit => Sys2Proof.Machine.execCallTimeLimit s
  | .acknowledgeFault p tag source kind => Sys2Proof.Machine.execAcknowledgeFault p tag source kind s
  | .acknowledgeFaultLost p tag => Sys2Proof.Machine.execAcknowledgeFaultLost p tag s
  | .faultList p tag first => Sys2Proof.Machine.execFaultList p tag first s
  | .loopReply frame => Sys2Proof.Machine.execLoopReply frame s
  | .replyWindowExpiry => Sys2Proof.Machine.execReplyWindowExpiry s
  | .loopBroadcastSent => Sys2Proof.Machine.execLoopBroadcastSent s
  | .pollDue address => Sys2Proof.Machine.execPollDue address s
  | .surveyPeriodEnd => Sys2Proof.Machine.execSurveyPeriodEnd s
  | .retrainLoop p tag => Sys2Proof.Machine.execRetrainLoop p tag s
  | .unitTable p tag first => Sys2Proof.Machine.execUnitTable p tag first s
  | .subscribe p tag families => Sys2Proof.Machine.execSubscribe p tag families s
  | .portStatus p tag selectorKnown first => Sys2Proof.Machine.execPortStatus p tag selectorKnown first s
  | .portStatusReadAndClear p tag first => Sys2Proof.Machine.execPortStatusReadAndClear p tag first s
  | .identify p tag => Sys2Proof.Machine.execIdentify p tag s
  | .config p tag name fields => Sys2Proof.Machine.execConfig p tag name fields s
  | .getConfig p tag name first => Sys2Proof.Machine.execGetConfig p tag name first s
  | .storeSection p tag name => Sys2Proof.Machine.execStoreSection p tag name s
  | .storeWriteEnd => Sys2Proof.Machine.execStoreWriteEnd s
  | .restart p tag => Sys2Proof.Machine.execRestart p tag s

end Sys2Proof.Machine
end

