-- ==== Sys2Proof/Safety.lean ====
section
/-! DEFINITION. What counts as a safe state of the RZS-840, in the words of the manual: the predicates that the statements and their proofs use. The model never stops, so a safe run is one whose states satisfy them. -/

namespace Sys2Proof.Machine

/-- Source and kind of a fault entry. -/
def FaultEntry.pair (e : FaultEntry) : FaultSource × FaultKind := (e.source, e.kind)

/-- R142, R143, R145, R150: at most 32 entries, at most one for a pair, a count of one byte, and a relay released exactly while an ACTIVE MAJOR or CRITICAL entry is held or the count is not 0. -/
def Supervision.sound (u : Supervision) : Prop :=
  u.relay = (!(u.entries.any FaultEntry.troubles) && u.lost == 0) ∧ u.entries.length ≤ 32 ∧ u.lost ≤ 255 ∧
    (u.entries.map FaultEntry.pair).Nodup

/-- The replies that stand in an output queue. -/
def PortUnit.replyCount (u : PortUnit) : Nat := (u.queue.filter (fun f => !f.isNotice)).length

/-- The requests of an intake whose reply stands in the output queue (R182). -/
def PortUnit.repliesOwed (u : PortUnit) : Nat := (u.intake.filter (fun e => e.step == .replyQueued)).length

/-- R182, R184: at most 4 requests held, at most 12 notices queued, no more replies queued than requests that stand at REPLY QUEUED, and
at most 24 refusals: so the output queue never holds more than its 16 frames. -/
def PortUnit.bounded (u : PortUnit) : Prop :=
  u.intake.length ≤ 4 ∧ u.noticeCount ≤ 12 ∧ u.replyCount ≤ u.repliesOwed ∧ u.refusals.length ≤ 24

/-- Both Port Units within their bounds. -/
def Ports.bounded (q : Ports) : Prop := q.stage.bounded ∧ q.front.bounded

/-- R72: CURTAIN_HOLD energised in every state but DROPPING, each drive in its own state alone; R99: a curtain not yet resolved is held
as DROPPING (log entry 12). -/
def Curtain.sound (c : Curtain) : Prop :=
  c.hold = (c.state != .dropping) ∧ c.driveDown = (c.state == .lowering) ∧ c.driveUp = (c.state == .raising) ∧
    (c.state ≠ .dropping → c.resolved = true)

/-- R11: whenever the phase is SHOW, the curtain is UP. -/
def State.showSafe (s : State) : Prop := s.perf.phase = .inShow → s.curtain.state = .up

/-- R13, R59: while the alarm list holds an entry at GENERAL, the phase is EVACUATION and the evacuation relay is on. -/
def State.generalSafe (s : State) : Prop := s.anyGeneral = true → s.perf.phase = .evacuation ∧ s.alarm.relay = true

/-- No event is under way: the end of an event has nothing left to do. -/
def State.idle (s : State) : Prop := settle s = s

/-- The controller takes commands and no event is under way. -/
def State.awake (s : State) : Prop := s.resetHeld = false ∧ s.idle

/-- R24, R46, R99, R155: what the reset line holds safe while it is asserted: every channel supply on, the sounders and the evacuation
relay off, both curtain drives off with CURTAIN_HOLD released and no drop timed, the trouble relay energised. -/
def State.heldSafe (s : State) : Prop :=
  (∀ c ∈ s.scanner.channels, c.supply = true) ∧ s.alarm.sounderStage = false ∧ s.alarm.sounderFront = false ∧
    s.alarm.relay = false ∧ s.curtain.driveDown = false ∧ s.curtain.driveUp = false ∧ s.curtain.hold = false ∧ s.curtain.drop = none ∧ s.sup.relay = true

/-- A reply stands in the output queue of its port (R181). -/
def State.answered (s : State) (p : Port) (tag : Tag) (o : ReplyOutcome) : Prop := OutFrame.reply tag o ∈ (s.port p).queue

/-- No display announcement is waited for, so no end of a call order can move the curtain (R96). -/
def State.calm (s : State) : Prop := s.curtain.display ≠ some .announcing

/-- An order sounds, none of LIFE_SAFETY waits to take the line from it, and the queue has a place (R125, R138): an order of a lower class
that joins waits. -/
def State.lineHeld (s : State) : Prop :=
  s.calls.sounding.isSome = true ∧ s.calls.queue.all (fun o => o.isSounding || o.cls != .lifeSafety) = true ∧ s.calls.queue.length < 16

/-- R116, R166: `t` has on the loop the SET of unit `a` as the Light Engine issues it from `s`: one level for each output, held when a placed
channel of the unit has SAFETY as its winning claim; each placed channel's sent level is the level given, and changed since issue is no. -/
def State.issued (s t : State) (a : Nat) : Prop :=
  t.loop.transaction = some (.set a
    (match s.light.unit a with
      | none => []
      | some u => (List.range u.outputs).map (fun k =>
          match s.light.lamps.find? (fun l => l.placed && (s.settings.lamp l.num).unit == a && (s.settings.lamp l.num).output == k + 1) with
          | some l => l.current
          | none => 0))
    (s.light.lamps.any (fun l => l.placed && (s.settings.lamp l.num).unit == a && l.safety.isSome))) ∧
  t.light.lamps = s.light.lamps.map (fun l => if l.placed = true ∧ (s.settings.lamp l.num).unit = a then { l with sent := some l.current } else l) ∧
  ∀ c e, (s.light.unit a).map LightUnit.refresh = some (.queued c e) → (t.light.unit a).map LightUnit.refresh = some (.queued c none)

/-- R173: an address whose presence is ABSENT. -/
def Loop.absentAt (u : Loop) (a : Nat) : Prop := 1 ≤ a ∧ a ≤ 31 ∧ (u.row a).map UnitRow.present = some false

/-- R173: `a` is the next address after the sweep position, in ascending order and wrapping from 31 to 1, whose presence is ABSENT. -/
def Loop.sweepsNext (u : Loop) (a : Nat) : Prop :=
  u.absentAt a ∧ ∀ b, u.absentAt b → (a + 30 - u.sweepPosition) % 31 ≤ (b + 30 - u.sweepPosition) % 31

/-- R183: the flow notice that arises when `n` requests are held, made pending in `v`, or cancelling the opposite one that `u` holds pending
unsent. One that is being sent is not unsent (log entry 29). -/
def PortUnit.raised (x : FlowNotice) (n : Nat) (u v : PortUnit) : Prop :=
  (u.flow = none → v.flow = some ⟨x, n, u.dropped⟩) ∧
  (∀ g, u.flow = some g → u.sending = some (.flow g) → v.flow = some ⟨x, n, u.dropped⟩) ∧
  (∀ g, u.flow = some g → g.notice ≠ x → (∀ h, u.sending = some (.flow h) → h ≠ g) → v.flow = none)

/-- R183: held-off and the pending flow notice of `v`, after a change of the intake of `u` that leaves `n` requests held. -/
def PortUnit.warned (n : Nat) (u v : PortUnit) : Prop :=
  (n = 3 → u.heldOff = false → v.heldOff = true ∧ PortUnit.raised .holdOff n u v) ∧
  (n = 1 → u.heldOff = true → v.heldOff = false ∧ PortUnit.raised .resume n u v) ∧
  (¬(n = 3 ∧ u.heldOff = false) → ¬(n = 1 ∧ u.heldOff = true) → v.heldOff = u.heldOff ∧ v.flow = u.flow)

/-- R23: the CHANNELS section has one record for each number, and one for each channel record. -/
def State.channelsSettled (s : State) : Prop :=
  (s.settings.channels.channels.map (·.num)).Nodup ∧ ∀ c ∈ s.scanner.channels, c.num ∈ s.settings.channels.channels.map (·.num)

/-- The channel records have one record for each number (R23), and so have the lamp channels (R101). -/
def State.numbered (s : State) : Prop := (s.scanner.channels.map (·.num)).Nodup ∧ (s.light.lamps.map (·.num)).Nodup

end Sys2Proof.Machine
end

