-- ==== Sys2Proof/Certificates/Slice0/Obligations.lean ====
section
/-! DEFINITION. The statements for the provers. `awake` says that RESET_N is not asserted and that the event before has come to its end; where a statement's next state is `transmit` of a record, every field not written in that record is unchanged and only the frames named are sent. -/

open Sys2Proof Sys2Proof.Machine

/-! ## The step -/

/-- The command at the front of the queue is carried out on the queue's rest. On an empty queue 0.1 ms pass by the model's clock, and what has
become due begins (the model's choice, log entry 5); while RESET_N is asserted nothing begins (log entry 3). -/
def Obligations.StepRunsFrontCommand : Prop :=
  (∀ (c : Instr) (q : List Instr) (s : State), s.pending = c :: q → step s = exec c (s.withPending q)) ∧
  (∀ s : State, s.pending = [] →
    (s.resetHeld = true → step s = .next { s with clock := { s.clock with now := s.clock.now + 1 } }) ∧
    (s.resetHeld = false → step s = .next (settle { s with clock := { s.clock with now := s.clock.now + 1 } })))

/-- R180, R182: a request is taken by its owner only when it is with its owner. Its own command first brings it there in its turn: a request that
waits next in the intake, behind answered ones alone, is passed on, and one that does not stand in the intake is received first, its command
standing for its frame (the model's choice, log entry 6), and passed on where every request before it has been answered. Nothing but its own
Port Unit changes by this; behind another request with its owner it is not passed on. The flow notice of a request so received is that of
R183 (a flow notice being sent is not unsent, and what it carries is fixed when it is made pending: log entry 29). -/
def Obligations.RequestTakenInTurn : Prop :=
  ∀ (c : Instr) (p : Port) (tag : Tag) (k : RequestKind) (s : State), c.request = some (p, tag, k) → s.resetHeld = false →
    ((s.bring p tag k).owns p tag k = true → exec c s = exec c (s.bring p tag k)) ∧
    ((s.bring p tag k).owns p tag k = false → exec c s = .next (settle (s.bring p tag k))) ∧
    s.bring p tag k = { s with ports := (s.bring p tag k).ports } ∧
    (∀ q, q ≠ p → (s.bring p tag k).port q = s.port q) ∧
    (s.owns p tag k = true → s.bring p tag k = s) ∧
    ((s.port p).intake.all (fun x => x.step == .replyQueued) = true → (s.port p).intake.length < 4 →
      (p = .front → s.settings.ports.frontFitted = true) →
        ((s.bring p tag k).port p).intake =
          (s.port p).intake ++ [{ tag := tag, kind := .request k, step := .withOwner, answer := none }] ∧
        ((s.bring p tag k).port p).queue = (s.port p).queue ∧ ((s.bring p tag k).port p).refusals = (s.port p).refusals ∧
        PortUnit.warned ((s.port p).intake.length + 1) (s.port p) ((s.bring p tag k).port p)) ∧
    (∀ a b e, (s.port p).intake = a ++ e :: b → a.all (fun x => x.step == .replyQueued) = true →
      b.all (fun x => x.step == .waiting) = true →
      (e.step = .waiting → e.answer = none → e.tag = tag → e.kind = .request k →
        s.bring p tag k = s.mapPort p (fun u => { u with intake := a ++ { e with step := .withOwner } :: b })) ∧
      (e.step = .withOwner → (e.tag ≠ tag ∨ e.kind ≠ .request k) → (s.bring p tag k).owns p tag k = false))

/-- Every command has a next state, whatever the state, and leaves the queue of waiting commands alone. -/
def Obligations.EveryCommandGoesOn : Prop := ∀ (c : Instr) (s : State), ∃ t, exec c s = .next t ∧ t.pending = s.pending

/-! ## Invariants of every step -/

/-- Every event comes to its end: after a step nothing is left to start, on the loop, on the Scanner's path or in the transmitters,
unless RESET_N is asserted. -/
def Obligations.EveryStepEndsItsEvent : Prop :=
  ∀ s t : State, (s.resetHeld = true ∨ s.idle) → step s = .next t → (t.resetHeld = true ∨ t.idle)

/-- R142, R143, R145, R150: every step keeps the fault list within its bounds and the trouble relay as R150 judges it. -/
def Obligations.FaultListStaysSound : Prop := ∀ s t : State, s.sup.sound → step s = .next t → t.sup.sound

/-- R72, R99: every step keeps the three outputs of the curtain as its state decides them, and a curtain not yet resolved is held as DROPPING
(that the held state is DROPPING is the model's choice, log entry 12). -/
def Obligations.CurtainOutputsFollowState : Prop := ∀ s t : State, s.curtain.sound → step s = .next t → t.curtain.sound

/-- R11: no step leaves the phase at SHOW with the curtain anywhere but UP, unless RESET_N is asserted. While it is asserted the phase is left
standing and the curtain is held as DROPPING (the model's choices, log entries 3 and 12). -/
def Obligations.ShowKeepsCurtainUp : Prop :=
  ∀ s t : State, s.curtain.sound → (s.resetHeld = false → s.showSafe) → step s = .next t → (t.resetHeld = false → t.showSafe)

/-- R13, R59: no step leaves an entry at GENERAL with the phase other than EVACUATION or the evacuation relay off, unless RESET_N is asserted. An
assertion switches the relay off (R46) and leaves the alarm list standing until the release of the line (the model's choice, log entry 3). -/
def Obligations.GeneralAlarmHoldsEvacuation : Prop :=
  ∀ s t : State, (s.resetHeld = false → s.generalSafe) → step s = .next t → (t.resetHeld = false → t.generalSafe)

/-- R182, R184: every step keeps at most 4 requests in each intake, at most 12 notices in each output queue, no more replies there than requests
that stand at REPLY QUEUED, and at most 24 tags in each refusal list; so no output queue holds more than its 16 frames. -/
def Obligations.PortQueuesStayBounded : Prop :=
  ∀ s t : State, s.ports.bounded → step s = .next t → t.ports.bounded ∧ ∀ p, (t.port p).queue.length ≤ 16

/-- The state after reset satisfies all of these (the reset state and the curtain before its resolution are the model's, log entries
1 and 12). -/
def Obligations.ResetStateIsSafe : Prop :=
  State.reset.awake ∧ State.reset.sup.sound ∧ State.reset.curtain.sound ∧ State.reset.showSafe ∧ State.reset.generalSafe ∧
    State.reset.ports.bounded ∧ State.reset.numbered

/-! ## Resets and start-up -/

/-- R2, R24, R46, R99, R103, R141, R155, R157, R189, R190, R195: at power-on, and at the end of an assertion of RESET_N, every block's records are
built from the settings as loaded, the fault list holds nothing but what the load and the isolations raise, the Port Units hold nothing but
notices, and the start-up survey's first probe is on the loop. That a curtain not yet resolved is held as DROPPING, and that power-on sets
the model's clock to 0, are the model's choices (log entries 12 and 5). -/
def Obligations.StartUpRebuildsEveryBlock : Prop :=
  ∀ (s : State) (c : Instr), c = .powerOn ∨ (c = .resetNReleased ∧ s.resetHeld = true) →
    ∃ t, exec c s = .next t ∧ t.pending = s.pending ∧ t.resetHeld = false ∧ t.startStep = .survey ∧ t.uptime = 0 ∧
      t.settings = loadSettings (stopStore s.store) ∧ t.store = loadStore (stopStore s.store) ∧ t.perf = PerfRecord.reset ∧
      t.scanner = Scanner.rebuilt t.settings.channels ∧ t.alarm = AlarmUnit.reset ∧
      t.curtain = { Curtain.unresolved with lastInterval := if c = .powerOn then none else s.curtain.lastInterval } ∧
      t.lines = (if c = .powerOn then { s.lines with lastStepAt := none } else s.lines) ∧
      t.clock = (if c = .powerOn then ⟨0, 0, 0, 0⟩ else s.clock) ∧
      t.light = Light.rebuilt t.settings.lights ∧ t.calls = Calls.reset ∧
      (∀ e ∈ t.sup.entries, e.kind = .sectionLost ∨ e.kind = .isolated) ∧
      t.loop = { Loop.rebuilt t.settings.loop with
        survey := some { cause := .startUp, next := 1, attempts := 0, retrains := 0 }, transaction := some (.probe 1 .survey)
        windowAt := t.clock.now + t.settings.loop.replyWindow * 10 } ∧
      ∀ p, (t.port p).intake = [] ∧ (t.port p).refusals = [] ∧ (t.port p).flow = none ∧ (t.port p).heldOff = false ∧
        (t.port p).reader = .hunting ∧ (t.port p).frameErrors = 0 ∧ (t.port p).fullRefusals = 0 ∧
        ∀ f ∈ (t.port p).queue, f.isNotice = true

/-- R155, R195: a section whose stored contents are blank or fail their check runs on its built-in defaults, and "section lost" stands in
the fault list as an ACTIVE CRITICAL entry. -/
def Obligations.LostSectionIsReported : Prop :=
  ∀ (s : State) (n : SectionName), loadRow ((stopStore s.store).row n) = none →
    ∃ t, exec .powerOn s = .next t ∧ t.settings.value n = Settings.default.value n ∧
      (∃ e ∈ t.sup.entries, e.pair = (.store n, .sectionLost) ∧ e.state = .active ∧ e.severity = .critical) ∧ t.sup.relay = false

/-- R24, R46, R64, R99, R155: an assertion of RESET_N switches the outputs safe at the reset itself. That no command but power-on and the release
of the line changes them while it is asserted, and that no drop is then timed, are the model's reading and its choice (log entries 3 and
12): of that time R99 alone speaks. -/
def Obligations.ResetLineHoldsSafe : Prop :=
  (∀ s : State, s.resetHeld = false → ∃ t, exec .resetNAsserted s = .next t ∧ t.resetHeld = true ∧ t.heldSafe) ∧
  (∀ (c : Instr) (s : State), s.resetHeld = true → s.heldSafe → c ≠ .powerOn → c ≠ .resetNReleased →
      ∃ t, exec c s = .next t ∧ t.resetHeld = true ∧ t.heldSafe)

/-- R158, R172, R195, R99: the third reply window that passes unanswered at address 31 ends the start-up survey; the loop runs, scanning has
begun, the curtain is resolved and uptime counts (log entry 21: the last steps of start-up are one event). -/
def Obligations.SurveyEndCompletesStartUp : Prop :=
  ∀ (s : State) (v : Survey), s.awake → s.loop.transaction = some (.probe 31 .survey) → s.loop.survey = some v → v.cause = .startUp →
    v.next = 31 → v.attempts = 2 →
      ∃ t, exec .replyWindowExpiry s = .next t ∧ t.startStep = .done ∧ t.loop.state = .running ∧ t.loop.survey = none ∧
        t.scanner.scanning = true ∧ t.curtain.resolved = true ∧ t.uptime = s.uptime

/-! ## The performance record -/

/-- R3 to R14: an accepted PHASE request makes its transition: the record is the one that the rule of the pair gives, both clearances are
absent, and the reply is DONE; a transition out of EVACUATION leaves no SAFETY claim on any lamp channel (R105). -/
def Obligations.PhaseRequestMovesPhase : Prop :=
  ∀ (s : State) (p : Port) (tag : Tag) (target : Phase) (countdown length : Option Nat) (override : Bool),
    s.resetHeld = false → s.owns p tag .phase = true → judgePhase p target countdown length override s = none →
      ∃ t, exec (.phase p tag target countdown length override) s = .next t ∧
        t.perf = s.perf.after (phaseEffects s.perf.phase target (causeOf p) countdown length s.settings s.perf) s.uptime ∧
        t.perf.phase = target ∧ t.perf.enteredAt = s.uptime ∧ t.perf.stageClearance = none ∧ t.perf.houseClearance = none ∧
        t.answered p tag (.done .empty) ∧ t.settings = s.settings ∧ t.uptime = s.uptime ∧ t.lines = s.lines ∧
        (s.numbered → s.perf.phase = .evacuation → ∀ l ∈ t.light.lamps, l.safety = none)

/-- R3: a PHASE request that a test refuses changes nothing; the pairs outside the table of transitions are refused BAD_TRANSITION. -/
def Obligations.PhaseRequestRefused : Prop :=
  ∀ (s : State) (p : Port) (tag : Tag) (target : Phase) (countdown length : Option Nat) (override : Bool), s.awake →
    (∀ r, s.owns p tag .phase = true → judgePhase p target countdown length override s = some r →
      exec (.phase p tag target countdown length override) s = .next (transmit (reply p tag (.refused r) s))) ∧
    ((s.perf.phase, target) ∉ [(Phase.dark, Phase.prepare), (.prepare, .dark), (.prepare, .houseOpen), (.houseOpen, .inShow),
      (.inShow, .interval), (.interval, .inShow), (.inShow, .showStop), (.showStop, .inShow), (.inShow, .showOut), (.showStop, .showOut),
      (.interval, .showOut), (.showOut, .prepare), (.showOut, .dark), (.evacuation, .prepare), (.evacuation, .dark)] →
      judgePhase p target countdown length override s = some .badTransition)

/-- R15, R16, R17: GIVE CLEARANCE sets the clearance of the requesting port to the current uptime, in the phases of that port alone; WITHDRAW
CLEARANCE removes it; a clearance lapses when uptime reaches its given at plus the clearance life, and not before (a lapse told before its
time changes nothing: the model's choice, log entry 4). That the notice stands before the reply (log entry 28), and that it carries the clearance,
its event and the uptime (log entry 36), are the model's choices. -/
def Obligations.ClearanceRequests : Prop :=
  (∀ (s : State) (p : Port) (tag : Tag), s.awake → s.owns p tag .giveClearance = true →
      (mayGive p s.perf.phase = true → exec (.giveClearance p tag) s = .next (transmit (reply p tag (.done .empty)
        (notify .clearance (.clearance (clearanceOf p) (if (s.perf.clearance (clearanceOf p)).isSome then .refreshed else .given) s.uptime)
          { s with perf := s.perf.setClearance (clearanceOf p) (some s.uptime) })))) ∧
      (mayGive p s.perf.phase = false → exec (.giveClearance p tag) s = .next (transmit (reply p tag (.refused .wrongPhase) s)))) ∧
  (∀ (s : State) (p : Port) (tag : Tag), s.awake → s.owns p tag .withdrawClearance = true →
      ((s.perf.clearance (clearanceOf p)).isSome = true → exec (.withdrawClearance p tag) s = .next (transmit (reply p tag (.done .empty)
        (notify .clearance (.clearance (clearanceOf p) .withdrawn s.uptime) { s with perf := s.perf.setClearance (clearanceOf p) none })))) ∧
      (s.perf.clearance (clearanceOf p) = none →
        exec (.withdrawClearance p tag) s = .next (transmit (reply p tag (.refused .nothingToWithdraw) s)))) ∧
  (∀ (s : State) (w : ClearanceName) (given : Nat), s.awake → s.perf.clearance w = some given →
      (given + s.settings.ports.clearanceLife ≤ s.uptime → exec (.clearanceLapse w) s = .next (transmit
        (notify .clearance (.clearance w .lapsed s.uptime) { s with perf := s.perf.setClearance w none }))) ∧
      (s.uptime < given + s.settings.ports.clearanceLife → exec (.clearanceLapse w) s = .next s))

/-- R19, R20: an accepted SET COUNTDOWN starts the house countdown at the value, or clears it, and changes nothing else of the record; an
accepted EXTEND INTERVAL adds its seconds to the interval countdown. -/
def Obligations.CountdownRequests : Prop :=
  (∀ (s : State) (p : Port) (tag : Tag) (value : Nat), s.resetHeld = false → s.owns p tag .setCountdown = true →
      s.perf.phase = .prepare ∨ s.perf.phase = .houseOpen →
      (value ≤ 7200 → ∃ t, exec (.setCountdown p tag value) s = .next t ∧
        t.perf = { s.perf with houseCountdown := some value } ∧ t.answered p tag (.done .empty) ∧ t.settings = s.settings ∧
        t.sup = s.sup ∧ t.uptime = s.uptime) ∧
      (∃ t, exec (.setCountdownClear p tag) s = .next t ∧ t.perf = { s.perf with houseCountdown := none } ∧
        t.answered p tag (.done .empty) ∧ t.settings = s.settings ∧ t.sup = s.sup ∧ t.uptime = s.uptime)) ∧
  (∀ (s : State) (p : Port) (tag : Tag) (seconds left : Nat), s.resetHeld = false → s.owns p tag .extendInterval = true →
      s.perf.phase = .interval → s.perf.intervalCountdown = some left → seconds ≤ 900 → left + seconds ≤ 3600 →
        ∃ t, exec (.extendInterval p tag seconds) s = .next t ∧
          t.perf = { s.perf with intervalCountdown := some (left + seconds) } ∧ t.answered p tag (.done .empty) ∧
          t.settings = s.settings ∧ t.sup = s.sup)

/-- R21: an advance of uptime takes one second from each running countdown that has not reached 0; the decrement to 0 sends the countdown's
notice in that event, ahead of all else the event sends, and a countdown at 0 stays there and sends no more. COUNTDOWN_REACHES_ZERO stands
for the advance that brings its countdown from 1 to 0, and changes nothing at any other value (the model's choice, log entry 9). That the notice
carries the seconds is the model's choice (log entry 36). -/
def Obligations.UptimeAdvances : Prop :=
  ∀ s : State, s.resetHeld = false → s.startStep = .done → s.uptime < 4294967295 →
    (∃ t, exec .uptimeAdvance s = .next t ∧ t.uptime = s.uptime + 1 ∧
      t.perf = { s.perf with
        houseCountdown := s.perf.houseCountdown.map (· - 1), intervalCountdown := s.perf.intervalCountdown.map (· - 1) } ∧
      t.settings = s.settings ∧ t.sup = s.sup ∧ t.lines = s.lines ∧
      (∀ p, s.portOpen p = true → (s.settings.ports.subs p).get .countdown = true → (s.port p).noticeCount < 12 →
        (s.perf.houseCountdown = some 1 →
          ∃ l, (t.port p).queue = (s.port p).queue ++ .notice (s.port p).dropped (.countdown .house .curtainUpDue 0) :: l) ∧
        (s.perf.intervalCountdown = some 1 → (s.perf.houseCountdown = none ∨ s.perf.houseCountdown = some 0) →
          ∃ l, (t.port p).queue = (s.port p).queue ++ .notice (s.port p).dropped (.countdown .interval .intervalEndDue 0) :: l)) ∧
      (s.idle → (s.perf.houseCountdown = none ∨ s.perf.houseCountdown = some 0) →
        (s.perf.intervalCountdown = none ∨ s.perf.intervalCountdown = some 0) → t.ports = s.ports ∧ t.calls = s.calls) ∧
      (∀ w, s.perf.countdown w = some 1 → exec (.countdownReachesZero w) s = .next t)) ∧
    (∀ w, s.idle → s.perf.countdown w ≠ some 1 → exec (.countdownReachesZero w) s = .next s)

/-- R22, R86: PERFORMANCE STATUS is answered with every field of the record, the seconds left of each clearance, the Front fitted setting, the
interval length and the clearance life, and changes nothing else; CURTAIN STATUS with the curtain record, the lines, and the time left in
each running window, that of the motion watch by the model's clock (log entry 5). Neither record is a list, so the first item named changes
nothing (log entry 8). -/
def Obligations.PerformanceAndCurtainStatus : Prop :=
  (∀ (s : State) (p : Port) (tag : Tag) (first : Nat), s.awake → s.owns p tag .performanceStatus = true →
    exec (.performanceStatus p tag first) s = .next (transmit (reply p tag (.done (.performance
      { record := s.perf
        displayRequired := s.settings.performance.displayRequired
        stageLeft := s.perf.stageClearance.map (fun t => t + s.settings.ports.clearanceLife - s.uptime)
        houseLeft := s.perf.houseClearance.map (fun t => t + s.settings.ports.clearanceLife - s.uptime)
        frontFitted := s.settings.ports.frontFitted
        intervalLength := s.settings.ports.intervalLength
        clearanceLife := s.settings.ports.clearanceLife })) s))) ∧
  (∀ (s : State) (p : Port) (tag : Tag) (first : Nat), s.awake → s.owns p tag .curtainStatus = true →
      exec (.curtainStatus p tag first) s = .next (transmit (reply p tag (.done (.curtain
        { record := s.curtain
          lines := s.lines
          motionLeft := s.curtain.motionWatch.map (fun t => t - s.clock.now)
          timerLeft := match s.curtain.timer with
            | .running t | .grace t => some (t - s.uptime)
            | .idle => none
          dwellLeft := match s.curtain.display with
            | some (.dwell t) => some (t - s.uptime)
            | _ => none
          dropLeft := s.curtain.drop.map (fun d => d.overdueAt - s.uptime) })) s)))

/-- R42: READ CHANNEL of a channel from 1 to 16, made by Stage in any phase, is answered DONE with every field of the channel's record and of its
settings, by which flag it is isolated, the time left in the step of a cut and the visits that a recovery check still needs, all as they are
held; a number out of range is refused INVALID, and Front NOT_PERMITTED. The request changes nothing. -/
def Obligations.ReadChannel : Prop :=
  ∀ (s : State) (tag : Tag) (n : Nat), s.awake →
      (∀ c, s.owns .stage tag .readChannel = true → 1 ≤ n → n ≤ 16 → s.scanner.record n = some c →
        exec (.readChannel .stage tag n) s = .next (transmit (reply .stage tag (.done (.channel
        { settings := s.settings.channel c.num
          record := c
          ownIsolated := (s.settings.channel c.num).isolated
          zoneIsolated := s.settings.zoneIsolated (s.settings.channel c.num).zone
          secondsLeft := c.cut.bind (fun k => k.endsAt.map (fun t => t - s.uptime))
          visitsNeeded := c.cut.bind (fun k =>
            if k.step = .recoveryCheck then some ((s.settings.channel c.num).confirm - k.visits) else none) })) s))) ∧
      (s.owns .stage tag .readChannel = true → n = 0 ∨ 16 < n →
        exec (.readChannel .stage tag n) s = .next (transmit (reply .stage tag (.refused .invalid) s))) ∧
      (s.owns .front tag .readChannel = true →
        exec (.readChannel .front tag n) s = .next (transmit (reply .front tag (.refused .notPermitted) s)))

/-- R187: IDENTIFY is answered DONE with the names, the revision, the strapped rate and the asking port, on either port, and changes nothing. -/
def Obligations.Identify : Prop :=
  ∀ (s : State) (p : Port) (tag : Tag), s.awake → s.owns p tag .identify = true →
    exec (.identify p tag) s = .next (transmit (reply p tag (.done (.identity
      { vendor := "Hovabel", family := "Razsel", part := "RZS-840", revision := 1, strapFast := s.lines.strapFast, port := p })) s))

/-- R70, R121, R140, R153, R176, R186, R192: the long status requests are answered with what their blocks hold and change nothing but the counter of
free values, which chooses how many items the reply carries (log entry 8; that the number not carried leaves out the items before the first one
named is the model's choice, log entry 36); "read and clear" then sets the asking port's three counts to 0. PORT STATUS with another selector, and
GET CONFIG of no section (log entry 25), are refused INVALID. -/
def Obligations.LongStatusRequests : Prop :=
  ∀ (s : State) (p : Port) (tag : Tag) (first : Nat), s.awake →
    let u := { s with freeCount := s.freeCount + 1 }
    (s.owns p tag .alarmList = true →
      exec (.alarmList p tag first) s = .next (transmit (reply p tag (.done (.alarmList (alarmListReply first s))) u))) ∧
    (s.owns p tag .lightStatus = true →
      exec (.lightStatus p tag first) s = .next (transmit (reply p tag (.done (.lights (lightReply first s))) u))) ∧
    (s.owns p tag .callStatus = true →
      exec (.callStatus p tag first) s = .next (transmit (reply p tag (.done (.calls (callsReply first s))) u))) ∧
    (s.owns p tag .faultList = true →
      exec (.faultList p tag first) s = .next (transmit (reply p tag (.done (.faults (faultsReply first s))) u))) ∧
    (s.owns p tag .unitTable = true →
      exec (.unitTable p tag first) s = .next (transmit (reply p tag (.done (.units (unitsReply first s))) u))) ∧
    (s.owns p tag .portStatus = true →
      exec (.portStatus p tag true first) s = .next (transmit (reply p tag (.done (.ports (portsReply first s))) u)) ∧
      exec (.portStatus p tag false first) s = .next (transmit (reply p tag (.refused .invalid) s)) ∧
      exec (.portStatusReadAndClear p tag first) s = .next (transmit ((reply p tag (.done (.ports (portsReply first s))) u).mapPort p
        (fun x => { x with frameErrors := 0, dropped := 0, fullRefusals := 0 })))) ∧
    (s.owns p tag .getConfig = true →
      (∀ n, exec (.getConfig p tag (some n) first) s = .next (transmit (reply p tag (.done (.config (configReply n first s))) u))) ∧
      exec (.getConfig p tag none first) s = .next (transmit (reply p tag (.refused .invalid) s)))

/-! ## The Scanner -/

/-- R26 to R29, R32, R34, R49: every visit records the reading, the candidate and the run. One that confirms nothing, of a channel not in a recovery
check, does no more. A band other than ALARM that is confirmed becomes the state: OPEN or SHORT raises its wiring fault, after the other has been
cleared, NORMAL or PREALARM clears the one held, and an alarm reported before is reported out, which takes the channel from its zone's entry and
leaves the entry where it stands. A confirmed ALARM that is to be checked first begins a verification and hands the Alarm Unit nothing. The last
visit of a recovery check makes the cut absent (an ALARM not reported before may begin a verification then), and counts the channel in alarm in
every claim that includes it if all its visits read ALARM, and clear if not; a claim with none outstanding leaves the list. Where an alarm reset
that ends in that visit has emptied the alarm list, the claims still held may have become set aside (R56), and nothing else in them changes.
Where channels of a zone are spoken of, the CHANNELS section has one record for each number and one for each channel record (R23). -/
def Obligations.VisitTakesReading : Prop :=
  ∀ (s : State) (n : Nat) (c d : ChannelRecord) (reading : Byte) (v : ChannelSettings) (b : Band), s.resetHeld = false →
    s.scanner.path = some n → s.scanner.record n = some c → v = s.settings.channel n → b = bandOf v reading →
    d = { c with
      lastReading := some reading, candidate := some b, run := if c.candidate = some b then min v.confirm (c.run + 1) else 1 } →
    (c.cut.all (fun k => k.step == .window) = true → c.confirms b v.confirm = false →
      ∃ t, exec (.visit reading) s = .next t ∧ t.scanner.record n = some d ∧
        (∀ m, m ≠ n → t.scanner.record m = s.scanner.record m) ∧ t.sup = s.sup ∧ t.perf = s.perf ∧ t.settings = s.settings) ∧
    (c.cut = none → c.confirms b v.confirm = true → b ≠ .alarm → s.settings.isolatedInEffect n = false → s.awake → s.startStep = .done →
      (if c.firstPending then c.state = .normal else c.state ≠ bandState b) →
      ∃ t, exec (.visit reading) s = .next t ∧
        t.scanner.record n = some { d with
          state := (match b with | .openBand => .openState | .short => .short | .prealarm => .prealarm | .normal | .alarm => .normal)
          firstPending := false, alarmReported := false
          loopFault := (match b with | .openBand => some .openLoop | .short => some .shortLoop | .normal | .prealarm | .alarm => none) } ∧
        (∀ m, m ≠ n → t.scanner.record m = s.scanner.record m) ∧
        t.sup = (match b with
          | .openBand => raiseFault (.channel n) .loopOpen
              (if c.loopFault = some WiringFault.shortLoop then clearFault (.channel n) .loopShort s else s)
          | .short => raiseFault (.channel n) .loopShort
              (if c.loopFault = some WiringFault.openLoop then clearFault (.channel n) .loopOpen s else s)
          | .normal | .prealarm | .alarm => (match c.loopFault with
            | some .openLoop => clearFault (.channel n) .loopOpen s
            | some .shortLoop => clearFault (.channel n) .loopShort s
            | none => s)).sup ∧
        t.alarm.entries = s.alarm.entries.map (fun e =>
          if c.alarmReported = true ∧ e.zone = v.zone then { e with channels := e.channels.filter (fun m => m != n) } else e) ∧
        t.alarm.relay = s.alarm.relay ∧ t.perf = s.perf ∧ t.settings = s.settings) ∧
    (s.channelsSettled → c.cut = none → c.confirms b v.confirm = true → b = .alarm → c.state ≠ .alarm → v.type = .detectorLoop →
      s.settings.isolatedInEffect n = false → (s.settings.zone v.zone).verify = true → s.alarm.entry v.zone = none →
      (∀ x ∈ s.scanner.channels, (s.settings.channel x.num).zone = v.zone → x.alarmReported = false ∧ x.inCut .verification = false) →
      s.awake →
      ∃ t, exec (.visit reading) s = .next t ∧
        t.scanner.record n = some { d with
          state := .verifying, firstPending := false, windowBand := none, supply := false
          cut := some ⟨.verification, .off, some (s.uptime + s.settings.channels.offTime), 0⟩ } ∧
        t.alarm.entries = s.alarm.entries ∧ t.alarm.relay = s.alarm.relay ∧ t.sup = s.sup ∧ t.perf = s.perf) ∧
    (∀ ends visits, c.cut = some ⟨.loopReset, .recoveryCheck, ends, visits⟩ → v.confirm ≤ visits + 1 →
      ∃ t, exec (.visit reading) s = .next t ∧
        (b ≠ .alarm ∨ (c.alarmReported = true ∧ s.channelsSettled) ∨ (s.settings.zone v.zone).verify = false →
          (t.scanner.record n).map ChannelRecord.cut = some none) ∧
        (c.confirms b v.confirm = false → t.scanner.record n = some { d with cut := none }) ∧
        (let counted := (s.scanner.claims.map (fun k =>
            if n ∈ k.channels then { k with
              outstanding := removeNum n k.outstanding
              inAlarm := if c.confirms b v.confirm = true ∧ b = .alarm then insertNum n k.inAlarm else removeNum n k.inAlarm }
            else k)).filter (fun k => !k.outstanding.isEmpty);
          (t.alarm.entries ≠ [] → t.scanner.claims = counted) ∧
          t.scanner.claims.map (fun k => { k with setAside := false }) = counted.map (fun k => { k with setAside := false })) ∧
        t.settings = s.settings)

/-- R13, R28, R47, R51, R58, R59, R194: a channel confirmed in ALARM while the alarm list is empty, with no verification asked, makes an entry of
its zone. In a house not occupied, in a zone not staged, or from a call point or a flow switch, the entry is GENERAL; the phase is EVACUATION and
the evacuation relay is on. Otherwise it stands at STAFF_ALERT with its ack deadline, the phase and the relay are left, and the staff call is placed
under the next internal tag (the numbering is the model's choice, log entry 16); it waits while the call line is held by another order. A
verification running in the zone would be abandoned with its own alarm (R37), which joins the entry and makes it GENERAL. Either entry aborts a
store in progress, whose section is left BLANK (R194). -/
def Obligations.ConfirmedAlarmBringsEvacuation : Prop :=
  ∀ (s : State) (n : Nat) (c : ChannelRecord) (reading : Byte) (v : ChannelSettings) (z : ZoneSettings), s.resetHeld = false →
    let alone := ∀ x ∈ s.scanner.channels, (s.settings.channel x.num).zone = v.zone → x.inCut .verification = false
    s.startStep = .done → s.scanner.path = some n → s.scanner.record n = some c → c.cut = none → c.state = .normal → c.alarmReported = false →
    v = s.settings.channel n → z = s.settings.zone v.zone → c.confirms .alarm v.confirm = true → bandOf v reading = .alarm →
    s.settings.isolatedInEffect n = false → z.verify = false → s.alarm.entries = [] →
      ∃ t, exec (.visit reading) s = .next t ∧ t.store.operation = none ∧
        (∀ op, s.store.operation = some op → ∀ r ∈ t.store.rows, r.name = op.name → r.stored = .blank) ∧
        (s.perf.phase ∈ [Phase.dark, .prepare, .evacuation] ∨ z.staged = false ∨ v.type = .callPoint ∨ v.type = .flowSwitch →
          t.perf.phase = .evacuation ∧ t.alarm.relay = true ∧
          ∃ e, t.alarm.entries = [e] ∧ e.zone = v.zone ∧ e.stage = .general s.uptime ∧ e.opening = some n ∧ n ∈ e.channels ∧
            (alone → e.channels = [n]) ∧ e.raisedAt = s.uptime ∧ e.acked = none) ∧
        (s.perf.phase ∉ [Phase.dark, .prepare, .evacuation] → z.staged = true → v.type ≠ .callPoint → v.type ≠ .flowSwitch → alone → s.awake →
          t.perf.phase = s.perf.phase ∧ t.alarm.relay = s.alarm.relay ∧
          ∃ e, t.alarm.entries = [e] ∧ e.zone = v.zone ∧ e.stage = .staffAlert (s.uptime + s.settings.zones.ackWindow) ∧ e.opening = some n ∧
            e.channels = [n] ∧ e.raisedAt = s.uptime ∧ e.acked = none ∧
            (s.lineHeld → e.staffOrder = some s.nextInternalTag ∧
              ∃ o ∈ t.calls.queue, o.tag = s.nextInternalTag ∧ o.origin = .alarm ∧ o.cls = .staff ∧ o.kind = .staffCode z.staffMessage ∧
                o.target = z.staffTarget ∧ o.repeats = .untilReleased ∧ o.anchor = .now))

/-- R31, R34, R36: at the end of its off time a cut channel's supply comes on and its recovery time begins; at the end of blanking a loop
reset goes on to its recovery check and a verification to its window; a window that ends with the channel still VERIFYING ends the
verification with the band last confirmed in it, NORMAL or PREALARM, or with none, counts it unconfirmed and hands the Alarm Unit nothing. -/
def Obligations.CutGoesOn : Prop :=
  (∀ (s : State) (n : Nat) (c : ChannelRecord) (p : CutPurpose) (ends visits : Nat), s.resetHeld = false →
      s.scanner.record n = some c → ends ≤ s.uptime →
      (c.cut = some ⟨p, .off, some ends, visits⟩ → ∃ t, exec (.offTimeEnd n) s = .next t ∧
        t.scanner.record n = some { c with supply := true, cut := some ⟨p, .blanking, some (s.uptime + s.settings.channels.recoveryTime), visits⟩ } ∧
        t.sup = s.sup ∧ t.alarm.entries.map AlarmEntry.stage = s.alarm.entries.map AlarmEntry.stage ∧ t.perf = s.perf) ∧
      (c.cut = some ⟨.loopReset, .blanking, some ends, visits⟩ → ∃ t, exec (.blankingEnd n) s = .next t ∧
        t.scanner.record n = some { c with
          candidate := none, run := 0, state := .normal, firstPending := true, cut := some ⟨.loopReset, .recoveryCheck, none, 0⟩ } ∧
        t.sup = s.sup ∧ t.perf = s.perf) ∧
      (c.cut = some ⟨.verification, .blanking, some ends, visits⟩ → ∃ t, exec (.blankingEnd n) s = .next t ∧
        t.scanner.record n = some { c with
          candidate := none, run := 0, cut := some ⟨.verification, .window, some (s.uptime + s.settings.channels.verificationWindow), 0⟩ } ∧
        t.sup = s.sup ∧ t.perf = s.perf)) ∧
  (∀ (s : State) (n : Nat) (c : ChannelRecord) (ends visits : Nat), s.resetHeld = false → s.scanner.record n = some c →
      c.cut = some ⟨.verification, .window, some ends, visits⟩ → ends ≤ s.uptime →
      c.windowBand = none ∨ c.windowBand = some .normal ∨ c.windowBand = some .prealarm →
        ∃ t, exec (.verificationWindowEnd n) s = .next t ∧
          (t.scanner.record n).map (fun x => { x with loopFault := none }) = some { c with
            cut := none, unconfirmed := min 255 (c.unconfirmed + 1), loopFault := none
            state := if c.windowBand = some .prealarm then .prealarm else .normal, firstPending := c.windowBand.isNone } ∧
          t.alarm.entries.map AlarmEntry.stage = s.alarm.entries.map AlarmEntry.stage ∧ t.perf = s.perf)

/-- R39, R40: an accepted ISOLATE sets the isolation of the channel or zone in the working settings and an accepted RESTORE clears it;
both are answered DONE and leave every other section and the alarm list alone. -/
def Obligations.IsolateAndRestore : Prop :=
  ∀ (s : State) (tag : Tag) (what : IsolationTarget), s.resetHeld = false → targetInRange what = true →
    (s.owns .stage tag .isolate = true → zoneInAlarm (targetZone s.settings what) s = false → targetIsolated s.settings what = false →
      ∃ t, exec (.isolate .stage tag what) s = .next t ∧ t.answered .stage tag (.done .empty) ∧
        t.settings = { s.settings with channels := s.settings.channels.setIsolation true what } ∧
        t.alarm.entries.map AlarmEntry.stage = s.alarm.entries.map AlarmEntry.stage ∧ t.perf = s.perf) ∧
    (s.owns .stage tag .restore = true → targetIsolated s.settings what = true →
      ∃ t, exec (.restore .stage tag what) s = .next t ∧ t.answered .stage tag (.done .empty) ∧
        t.settings = { s.settings with channels := s.settings.channels.setIsolation false what } ∧
        t.alarm.entries.map AlarmEntry.stage = s.alarm.entries.map AlarmEntry.stage ∧ t.perf = s.perf)

/-! ## The alarm list -/

/-- R52, R63: an acknowledgement of the presented entry is recorded with its port; one at STAFF_ALERT moves to INVESTIGATING. -/
def Obligations.AcknowledgeEntry : Prop :=
  ∀ (s : State) (p : Port) (tag : Tag) (e : AlarmEntry), s.resetHeld = false → s.owns p tag .acknowledge = true →
    s.alarm.presented = some e → e.zone ≤ 12 →
      ∃ t, exec (.acknowledge p tag e.zone) s = .next t ∧ t.answered p tag (.done .empty) ∧
        (∃ x ∈ t.alarm.entries, x.zone = e.zone ∧ x.acked = some p ∧ x.stage = match e.stage with
          | .staffAlert _ => .investigating (s.uptime + s.settings.zones.investigationWindow)
          | st => st) ∧
        t.alarm.relay = s.alarm.relay ∧ t.perf = s.perf ∧ t.settings = s.settings

/-- R55: CANCEL of an entry at INVESTIGATING whose loops are to be reset moves it to STANDING_DOWN; any other stage is answered without
a change. -/
def Obligations.CancelEntry : Prop :=
  ∀ (s : State) (p : Port) (tag : Tag) (z : Nat) (e : AlarmEntry), 1 ≤ z → z ≤ 12 → s.alarm.entry z = some e →
    s.owns p tag .cancel = true →
    (s.resetHeld = false → ∀ d, e.stage = .investigating d → usedOf s.settings (standDownChannels s.settings e) ≠ [] →
      s.scanner.results = [] →
      ∃ t, exec (.cancel p tag z) s = .next t ∧ t.answered p tag (.done .empty) ∧
        (∃ x ∈ t.alarm.entries, x.zone = z ∧ x.stage = .standingDown) ∧ t.alarm.relay = s.alarm.relay ∧ t.perf = s.perf) ∧
    (s.awake → ∀ d, e.stage = .staffAlert d → exec (.cancel p tag z) s = .next (transmit (reply p tag (.refused .notAcknowledged) s))) ∧
    (s.awake → ∀ d, e.stage = .general d → exec (.cancel p tag z) s = .next (transmit (reply p tag (.refused .tooLate) s))) ∧
    (s.awake → e.stage = .standingDown → exec (.cancel p tag z) s = .next (transmit (reply p tag (.done .empty) s)))

/-- R64, R65: SILENCE of sounding sounders silences them, switching both sounder lines off, and leaves the evacuation relay, the entries, their
acknowledgements and the release timer as they are. -/
def Obligations.SilenceSounders : Prop :=
  ∀ (s : State) (p : Port) (tag : Tag), s.resetHeld = false → s.owns p tag .silence = true → s.anyGeneral = true →
    s.alarm.sounder = .sounding →
    ∃ t, exec (.silence p tag) s = .next t ∧ t.answered p tag (.done .empty) ∧ t.alarm.sounder = .silenced ∧
      t.alarm.sounderStage = false ∧ t.alarm.sounderFront = false ∧
      t.alarm.relay = s.alarm.relay ∧ t.alarm.entries.map (fun e => (e.zone, e.stage, e.acked)) =
        s.alarm.entries.map (fun e => (e.zone, e.stage, e.acked)) ∧
      t.curtain.timer = s.curtain.timer ∧ t.perf = s.perf ∧ t.settings = s.settings ∧ t.sup = s.sup

/-- R66, R105, R109: EVACUATE leaves a list with an entry and every entry at GENERAL, the phase at EVACUATION and the evacuation relay on; where
that is an entry to EVACUATION, every HOUSE and WORKING channel is given a SAFETY claim of 100 with the panic fade, and no other. -/
def Obligations.EvacuateHouse : Prop :=
  ∀ (s : State) (p : Port) (tag : Tag), s.resetHeld = false → s.owns p tag .evacuate = true → s.generalSafe →
    ∃ t, exec (.evacuate p tag) s = .next t ∧ t.answered p tag (.done .empty) ∧ t.alarm.entries ≠ [] ∧
      (∀ e ∈ t.alarm.entries, e.isGeneral = true) ∧ t.perf.phase = .evacuation ∧ t.alarm.relay = true ∧ t.settings = s.settings ∧
      (s.numbered → s.perf.phase ≠ .evacuation → t.light.lamps.map (fun l => (l.num, l.safety)) = s.light.lamps.map (fun l =>
        (l.num, if (s.settings.lamp l.num).role = .house ∨ (s.settings.lamp l.num).role = .working
          then some ⟨100, s.settings.lights.panicFade⟩ else l.safety)))

/-- R67: RESET ALARMS of an acknowledged list with loops to be reset is accepted and the reset runs, its loops cut; on an empty list it
is answered DONE with no change. The CHANNELS section holds one record for each number (R23). -/
def Obligations.ResetAlarmsBegins : Prop :=
  ∀ (s : State) (tag : Tag), s.awake → s.owns .stage tag .resetAlarms = true → s.alarm.resetting = none →
    s.alarm.entries.all (·.acked.isSome) = true → (s.settings.channels.channels.map (·.num)).Nodup →
    (s.alarm.entries ≠ [] → resetChannels s ≠ [] → s.scanner.results = [] →
      (∀ n, n ∈ resetChannels s → (s.scanner.record n).isSome = true) →
      ∃ t, exec (.resetAlarms .stage tag) s = .next t ∧ t.answered .stage tag .accepted ∧
        t.alarm.resetting = some ⟨resetChannels s, false⟩ ∧
        t.alarm.entries.map AlarmEntry.stage = s.alarm.entries.map AlarmEntry.stage ∧ t.alarm.relay = s.alarm.relay ∧
        (∀ n, n ∈ resetChannels s → (t.scanner.record n).map ChannelRecord.supply = some false) ∧ t.perf = s.perf) ∧
    (s.alarm.entries = [] → exec (.resetAlarms .stage tag) s = .next (transmit (reply .stage tag (.done .empty) s)))

/-- R53, R54: a staff window that expires brings its entry to GENERAL, and with it EVACUATION and the evacuation relay. -/
def Obligations.WindowExpiryBringsGeneral : Prop :=
  ∀ (s : State) (z : Nat) (e : AlarmEntry) (d : Nat), s.resetHeld = false → s.alarm.entry z = some e → d ≤ s.uptime →
    (e.stage = .staffAlert d → ∃ t, exec (.ackWindowExpiry z) s = .next t ∧ t.perf.phase = .evacuation ∧ t.alarm.relay = true ∧
      ∃ x ∈ t.alarm.entries, x.zone = z ∧ x.stage = .general s.uptime ∧ x.acked = none) ∧
    (e.stage = .investigating d → ∃ t, exec (.investigationWindowExpiry z) s = .next t ∧ t.perf.phase = .evacuation ∧
      t.alarm.relay = true ∧ ∃ x ∈ t.alarm.entries, x.zone = z ∧ x.stage = .general s.uptime ∧ x.acked = none)

/-! ## The curtain -/

/-- R80 to R82: an accepted CURTAIN LOWER or CURTAIN RAISE starts the powered motion, with the drive of its direction alone on and the stall
window running by the model's clock (log entry 5). -/
def Obligations.PoweredMotionBegins : Prop :=
  ∀ (s : State) (tag : Tag), s.resetHeld = false →
    (s.owns .stage tag .curtainLower = true → gateLower s = none → ∃ t, exec (.curtainLower .stage tag) s = .next t ∧
      t.answered .stage tag .accepted ∧
      t.curtain.state = .lowering ∧ t.curtain.hold = true ∧ t.curtain.driveDown = true ∧ t.curtain.driveUp = false ∧
      t.curtain.motionWatch = some (s.clock.now + s.settings.curtain.stallWindow * 1000) ∧ t.curtain.position = s.curtain.position ∧ t.perf = s.perf ∧
      t.sup = s.sup ∧ t.settings = s.settings) ∧
    (s.owns .stage tag .curtainRaise = true → gateRaise s = none → ∃ t, exec (.curtainRaise .stage tag) s = .next t ∧
      t.answered .stage tag .accepted ∧
      t.curtain.state = .raising ∧ t.curtain.hold = true ∧ t.curtain.driveDown = false ∧ t.curtain.driveUp = true ∧
      t.curtain.motionWatch = some (s.clock.now + s.settings.curtain.stallWindow * 1000) ∧ t.curtain.position = s.curtain.position ∧ t.perf = s.perf ∧
      t.sup = s.sup ∧ t.settings = s.settings)

/-- R83: CURTAIN STOP from either port halts a powered motion, is refused CURTAIN_COMMITTED in DROPPING and NOTHING_MOVING in any other
state; with EMERG_RELEASE asserted and the curtain off its bottom limit the halted curtain drops at once (R93). -/
def Obligations.CurtainStop : Prop :=
  ∀ (s : State) (p : Port) (tag : Tag), s.owns p tag .curtainStop = true →
    (s.resetHeld = false → s.curtain.state = .lowering ∨ s.curtain.state = .raising →
      ∃ t, exec (.curtainStop p tag) s = .next t ∧ t.answered p tag (.done .empty) ∧
        t.curtain.state = (if s.lines.emergRelease ∧ s.lines.limitBottom = false then .dropping else .halted) ∧
        t.curtain.driveDown = false ∧ t.curtain.driveUp = false ∧ t.lines = s.lines ∧ t.settings = s.settings) ∧
    (s.awake → s.curtain.state = .dropping →
      exec (.curtainStop p tag) s = .next (transmit (reply p tag (.refused .curtainCommitted) s))) ∧
    (s.awake → s.curtain.state = .up ∨ s.curtain.state = .down ∨ s.curtain.state = .halted ∨ s.curtain.state = .faultLocked →
      exec (.curtainStop p tag) s = .next (transmit (reply p tag (.refused .nothingMoving) s)))

/-- R84, R87, R90, R91, R93: a drop test, the expiry of the hold-off on a clear line, the end of the grace and an asserted EMERG_RELEASE drop
the curtain, with CURTAIN_HOLD released, both drives off, no display drop left and a drop of that cause recorded. -/
def Obligations.DropBegins : Prop :=
  ∀ (s : State) (tag : Tag) (c : Instr) (cause : DropCause), s.resetHeld = false → s.lines.limitBottom = false →
    s.curtain.state ≠ .dropping →
    (c = .curtainDropTest .stage tag ∧ s.owns .stage tag .curtainDropTest = true ∧ cause = .test ∧ gateDropTest s = none) ∨
    (c = .releaseExpiry ∧ cause = .release ∧ s.lines.obstructed = false ∧ ∃ e, s.curtain.timer = .running e ∧ e ≤ s.uptime) ∨
    (c = .graceEnd ∧ cause = .graceEnd ∧ ∃ e, s.curtain.timer = .grace e ∧ e ≤ s.uptime) ∨
    (c = .emergReleaseAsserted ∧ cause = .emergency ∧ s.curtain.state ≠ .down ∧ s.lines.emergRelease = false) →
      ∃ t, exec c s = .next t ∧ t.curtain.state = .dropping ∧ t.curtain.hold = false ∧ t.curtain.driveDown = false ∧
        t.curtain.driveUp = false ∧ t.curtain.display = none ∧ t.curtain.timer = .idle ∧
        (∃ d, t.curtain.drop = some d ∧ d.cause = cause ∧ d.startedAt = s.uptime ∧
          d.overdueAt = s.uptime + s.settings.curtain.dropLimit) ∧
        (s.curtain.state = .up → t.perf.phase ≠ .inShow)

/-- R87: while the curtain drops it is watched. A drop still under way at its limit, and not taken as overdue before, raises "drop overdue" with
its notice; a step shorter than the minimum drop interval sets overspeed seen, and the first such step of a drop raises "drop overspeed".
Neither changes the state. That the notice carries its event alone is the model's choice (log entry 36). -/
def Obligations.DropIsWatched : Prop :=
  ∀ (s : State) (d : Drop), s.awake → s.curtain.state = .dropping → s.curtain.drop = some d →
    (d.overdueAt ≤ s.uptime → d.overdueTaken = false →
      exec .dropOverdue s = .next (transmit (notify .curtain .dropOverdue (raiseFault .curtain .dropOverdue
        { s with curtain := { s.curtain with
            drop := some { d with overdueTaken := true }, faultsHeld := insertKind .dropOverdue s.curtain.faultsHeld } })))) ∧
    (∀ (line : EncoderLine) (interval : Nat), ∃ t, exec (.encoderStep line interval) s = .next t ∧ t.curtain.state = .dropping ∧
      t.curtain.drop = some { d with
        shortest := some (match d.shortest with
          | none => min interval 255
          | some j => min (min interval 255) j)
        overspeed := d.overspeed || decide (min interval 255 < s.settings.curtain.minDropInterval) } ∧
      (if min interval 255 < s.settings.curtain.minDropInterval ∧ d.overspeed = false
        then FaultKind.dropOverspeed ∈ t.curtain.faultsHeld ∧ t.sup = (raiseFault .curtain .dropOverspeed s).sup
        else t.curtain.faultsHeld = s.curtain.faultsHeld ∧ t.sup = s.sup) ∧
      t.curtain.lastInterval = some (min interval 255) ∧ t.perf = s.perf ∧ t.settings = s.settings)

/-- R74, R75, R78: a limit reached alone sets the position; the bottom limit brings a lowering, halted or dropping curtain to DOWN, the top
limit a raising or halted one to UP; with the other limit active, whichever came first, the curtain is locked. A curtain at DOWN or UP that
leaves its limit by itself is HALTED; from UP "creep" is raised. EMERG_RELEASE is not asserted and, where a limit is left, no general alarm
calls for the drop. -/
def Obligations.LimitChanges : Prop :=
  (∀ s : State, s.resetHeld = false → s.curtain.resolved = true → s.lines.emergRelease = false →
      (s.lines.limitBottom = false → s.lines.limitTop = false →
        s.curtain.state = .lowering ∨ s.curtain.state = .halted ∨ s.curtain.state = .dropping →
        ∃ t, exec .limitBottomActive s = .next t ∧ t.lines = { s.lines with limitBottom := true } ∧ t.curtain.state = .down ∧
          t.curtain.position = some 0 ∧ t.curtain.hold = true ∧ t.curtain.driveDown = false ∧ t.curtain.timer = .idle) ∧
      (s.lines.limitTop = false → s.lines.limitBottom = false → s.curtain.state = .raising ∨ s.curtain.state = .halted → s.calm →
        ∃ t, exec .limitTopActive s = .next t ∧ t.lines = { s.lines with limitTop := true } ∧ t.curtain.state = .up ∧
          t.curtain.position = some s.settings.curtain.travel ∧ t.curtain.hold = true ∧ t.curtain.driveUp = false) ∧
      (s.lines.limitTop = false → s.lines.limitBottom = true →
        ∃ t, exec .limitTopActive s = .next t ∧ t.curtain.state = .faultLocked ∧ t.curtain.position = none ∧
          FaultKind.limitConflict ∈ t.curtain.faultsHeld) ∧
      (s.lines.limitTop = true → s.lines.limitBottom = false →
        ∃ t, exec .limitBottomActive s = .next t ∧ t.curtain.state = .faultLocked ∧ t.curtain.position = none ∧
          FaultKind.limitConflict ∈ t.curtain.faultsHeld)) ∧
  (∀ s : State, s.resetHeld = false → s.curtain.resolved = true → s.lines.emergRelease = false → s.triggerEntries = [] →
      (s.lines.limitBottom = true → s.curtain.state = .down → ∃ t, exec .limitBottomLost s = .next t ∧
        t.lines = { s.lines with limitBottom := false } ∧ t.curtain.state = .halted ∧ t.curtain.hold = true) ∧
      (s.lines.limitTop = true → s.curtain.state = .up → ∃ t, exec .limitTopLost s = .next t ∧
        t.lines = { s.lines with limitTop := false } ∧ t.curtain.state = .halted ∧ t.curtain.hold = true ∧
        FaultKind.creep ∈ t.curtain.faultsHeld ∧ t.perf.phase ≠ .inShow))

/-- R76: a step moves a known position by one, held within 0 and the travel, and records its interval; it starts a running stall window afresh
(R77). Outside a drop it does nothing else. The interval is the one the command carries, at the first step too (the model's choice, log
entry 34); it tells the model's clock how long ago the step before was (log entry 5). A POLL that this makes due is begun, if the loop is free
to take it (R164, R165); the lights, and the loop but for that, are as they were. -/
def Obligations.EncoderStepCounts : Prop :=
  ∀ (s : State) (line : EncoderLine) (interval : Nat), s.awake → s.curtain.state ≠ .dropping →
    let now := match s.lines.lastStepAt with
      | some t => max s.clock.now (t + interval)
      | none => s.clock.now
    let u := { s with
      clock := { s.clock with now := now }
      lines := (match line with
        | .encA => { s.lines with encA := !s.lines.encA, lastStepAt := some now }
        | .encB => { s.lines with encB := !s.lines.encB, lastStepAt := some now })
      curtain := { s.curtain with
        position := s.curtain.position.map (fun p =>
          min s.settings.curtain.travel
            (if (match line with | .encA => s.lines.encA == s.lines.encB | .encB => s.lines.encA != s.lines.encB) then p + 1 else p - 1))
        lastInterval := some (min interval 255)
        motionWatch := (match s.curtain.state with
          | .lowering | .raising => some (now + s.settings.curtain.stallWindow * 1000)
          | _ => none) } }
    exec (.encoderStep line interval) s = .next (match s.loop.duePoll now with
      | some a => if s.loop.transaction = none ∧ s.loop.state = .running then startPoll a u else u
      | none => u)

/-- R77, R85: a stall window that passes without a step locks the curtain; CURTAIN CLEAR FAULT returns a locked curtain to the state
that its limits give. EMERG_RELEASE is not asserted. -/
def Obligations.StallLocksAndClearReturns : Prop :=
  ∀ (s : State) (tag : Tag), s.resetHeld = false → s.lines.emergRelease = false →
    (s.curtain.motionWatch.isSome = true → s.curtain.state = .lowering ∨ s.curtain.state = .raising →
      ∃ t, exec .motionWatchEnd s = .next t ∧ t.curtain.state = .faultLocked ∧ t.curtain.driveDown = false ∧ t.curtain.driveUp = false ∧
        t.curtain.hold = true ∧ FaultKind.curtainStall ∈ t.curtain.faultsHeld ∧ t.curtain.display = none) ∧
    (s.owns .stage tag .curtainClearFault = true → gateClear s = none → s.calm → ∃ t, exec (.curtainClearFault .stage tag) s = .next t ∧
      t.answered .stage tag (.done .empty) ∧
      t.curtain.state = (if s.lines.limitTop then .up else if s.lines.limitBottom then .down else .halted) ∧
      FaultKind.curtainStall ∉ t.curtain.faultsHeld ∧ FaultKind.limitConflict ∉ t.curtain.faultsHeld ∧ t.lines = s.lines)

/-- R79, R91, R93: the beams as they stand; a lowering curtain whose line becomes obstructed is HALTED, and while the line stays as it was nothing
else happens. A line that becomes clear in GRACE ends the grace: the curtain enters DROPPING with cause RELEASE at once, the timer becomes
IDLE, and no fault is raised. EMERG_RELEASE becoming released changes nothing but the line (R93). -/
def Obligations.SettingLine : Prop :=
  ∀ (s : State) (us ds : Bool),
    (s.resetHeld = false → s.lines.obstructed = false → (us || ds) = true → s.curtain.state = .lowering → s.lines.emergRelease = false →
      ∃ t, exec (.settingLineChange us ds) s = .next t ∧ t.lines = { s.lines with beamUs := us, beamDs := ds } ∧
        t.curtain.state = .halted ∧ t.curtain.driveDown = false) ∧
    (∀ e, s.resetHeld = false → s.curtain.timer = .grace e → s.lines.obstructed = true → us = false → ds = false → s.lines.limitBottom = false →
      s.curtain.state ≠ .dropping →
      ∃ t, exec (.settingLineChange us ds) s = .next t ∧ t.lines = { s.lines with beamUs := false, beamDs := false } ∧
        t.curtain.state = .dropping ∧ t.curtain.hold = false ∧ t.curtain.driveDown = false ∧ t.curtain.driveUp = false ∧
        t.curtain.timer = .idle ∧ t.curtain.display = none ∧
        (∃ d, t.curtain.drop = some d ∧ d.cause = .release ∧ d.startedAt = s.uptime ∧ d.overdueAt = s.uptime + s.settings.curtain.dropLimit) ∧
        t.curtain.faultsHeld = s.curtain.faultsHeld ∧ t.sup = s.sup) ∧
    (s.awake → s.lines.obstructed = (us || ds) →
      exec (.settingLineChange us ds) s = .next { s with lines := { s.lines with beamUs := us, beamDs := ds } }) ∧
    (s.awake → exec .emergReleaseReleased s = .next { s with lines := { s.lines with emergRelease := false } })

/-- R89, R90: CURTAIN HOLD of a running hold-off starts it afresh while holds are left; otherwise, and from Front, it is refused. That the notice
stands before the reply is the model's choice (log entry 28). A hold-off that has been reloaded does not expire before its new end (an
expiry told before its time changes nothing: the model's choice, log entry 4). An expiry taken first drops the curtain or begins the grace, and
a HOLD after it is TOO_LATE. -/
def Obligations.CurtainHold : Prop :=
  ∀ (s : State) (tag : Tag), s.awake →
    (∀ e, s.owns .stage tag .curtainHold = true → s.curtain.timer = .running e → s.curtain.holdsUsed < s.settings.curtain.maxHolds →
      exec (.curtainHold .stage tag) s = .next (transmit (reply .stage tag (.done .empty)
        (notify .curtain (.releaseHeld (s.curtain.holdsUsed + 1) s.settings.curtain.holdOff)
          { s with curtain := { s.curtain with
              holdsUsed := s.curtain.holdsUsed + 1, timer := .running (s.uptime + s.settings.curtain.holdOff) } })))) ∧
    (∀ e, s.owns .stage tag .curtainHold = true → s.curtain.timer = .running e → s.settings.curtain.maxHolds ≤ s.curtain.holdsUsed →
      exec (.curtainHold .stage tag) s = .next (transmit (reply .stage tag (.refused .holdLimit) s))) ∧
    (s.owns .stage tag .curtainHold = true → (s.curtain.timer = .idle ∨ ∃ e, s.curtain.timer = .grace e) →
      exec (.curtainHold .stage tag) s = .next (transmit (reply .stage tag (.refused .tooLate) s))) ∧
    (s.owns .front tag .curtainHold = true →
      exec (.curtainHold .front tag) s = .next (transmit (reply .front tag (.refused .notPermitted) s))) ∧
    (∀ e, s.curtain.timer = .running e → s.uptime < e → exec .releaseExpiry s = .next s) ∧
    (∀ e, s.curtain.timer = .running e → e ≤ s.uptime → s.lines.limitBottom = false → s.curtain.state ≠ .dropping →
      ∃ t, exec .releaseExpiry s = .next t ∧
      ((t.curtain.state = .dropping ∧ t.curtain.timer = .idle) ∨ ∃ g, t.curtain.timer = .grace g))

/-- R95, R97: an accepted CURTAIN DISPLAY announces: its announcement order stands in the queue under the next internal tag (the numbering is the
model's choice, log entry 16), and waits while the call line is held by another order; the dwell that ends with no general alarm raises the
curtain. -/
def Obligations.DisplayDropGoesOn : Prop :=
  ∀ (s : State) (tag : Tag),
    (s.awake → s.owns .stage tag .curtainDisplay = true → gateDisplay s = none → s.lineHeld → ∃ t, exec (.curtainDisplay .stage tag) s = .next t ∧
      t.answered .stage tag .accepted ∧ t.curtain.display = some .announcing ∧ t.curtain.announcement = some s.nextInternalTag ∧
      t.curtain.state = s.curtain.state ∧ t.perf = s.perf ∧
      ∃ o ∈ t.calls.queue, o.tag = s.nextInternalTag ∧ o.origin = .curtain ∧ o.cls = .showing ∧ o.kind = .message s.settings.curtain.displayMessage ∧
        o.target = s.settings.curtain.displayTarget) ∧
    (∀ e, s.resetHeld = false → s.curtain.display = some (.dwell e) → e ≤ s.uptime → s.anyGeneral = false → s.curtain.state = .down →
      ∃ t, exec .dwellEnd s = .next t ∧ t.curtain.state = .raising ∧ t.curtain.display = some .raising ∧ t.curtain.driveUp = true ∧
        t.perf = s.perf)

/-! ## The lights -/

/-- R107, R108: MANUAL LEVEL sets a MANUAL claim on each channel listed and RELEASE removes it; GO PRESET sets the CUE claim of each channel
the preset lists; no other SAFETY, MANUAL or CUE claim of any channel changes, and no CURTAIN claim where no display announcement is waited for. -/
def Obligations.ManualAndPreset : Prop :=
  (∀ (s : State) (p : Port) (tag : Tag) (ns : List Nat) (level fade : Nat), s.resetHeld = false → s.numbered →
      (s.owns p tag .manualLevel = true → gateManual p ns (decide (level ≤ 100)) fade s = none →
        ∃ t, exec (.manualLevel p tag ns level fade) s = .next t ∧
        t.answered p tag (.done .empty) ∧
        t.light.lamps.map (fun l => (l.num, l.safety, l.manual, l.cue)) = s.light.lamps.map (fun l =>
          (l.num, l.safety, if l.num ∈ ns then some ⟨level, fade⟩ else l.manual, l.cue)) ∧
        (s.calm → t.light.lamps.map (·.curtain) = s.light.lamps.map (·.curtain)) ∧ t.perf = s.perf ∧ t.sup = s.sup ∧ t.settings = s.settings) ∧
      (s.owns p tag .manualLevel = true → gateManual p ns true fade s = none →
        ∃ t, exec (.manualLevelRelease p tag ns fade) s = .next t ∧
        t.answered p tag (.done .empty) ∧
        t.light.lamps.map (fun l => (l.num, l.safety, l.manual, l.cue)) = s.light.lamps.map (fun l =>
          (l.num, l.safety, if l.num ∈ ns then none else l.manual, l.cue)) ∧
        (s.calm → t.light.lamps.map (·.curtain) = s.light.lamps.map (·.curtain)) ∧ t.perf = s.perf ∧ t.sup = s.sup ∧ t.settings = s.settings)) ∧
  (∀ (s : State) (tag : Tag) (n : Nat) (v : Preset), s.resetHeld = false → s.numbered → s.owns .stage tag .goPreset = true →
      s.settings.preset n = some v →
      s.perf.phase ≠ .evacuation → ∃ t, exec (.goPreset .stage tag n) s = .next t ∧ t.answered .stage tag (.done .empty) ∧
        t.light.lamps.map (fun l => (l.num, l.safety, l.manual, l.cue)) = s.light.lamps.map (fun l =>
          (l.num, l.safety, l.manual, match v.levels.find? (fun q => q.1 == l.num) with
            | some q => some ⟨q.2, v.fade⟩
            | none => l.cue)) ∧
        (s.calm → t.light.lamps.map (·.curtain) = s.light.lamps.map (·.curtain)) ∧ t.perf = s.perf ∧ t.sup = s.sup ∧ t.settings = s.settings)

/-- R106, R111: an advance of the fade engine takes every fade 50 ms on, with its level the from level plus the difference times elapsed over
duration, fractions dropped toward the from level; on the advance at which the elapsed time reaches the duration the current level becomes
the to level and the fade becomes absent. FADE_END stands for that advance, and changes nothing at any other time (the model's choice, log
entry 10). The flash clock's other half shows on every FLASH channel. Targets and claims are left. No display announcement is waited for. -/
def Obligations.LampsMoveInTime : Prop :=
  ∀ s : State, s.resetHeld = false → s.startStep = .done → s.numbered → s.calm →
    (∃ t, exec .fadeAdvance s = .next t ∧ t.light.lit = s.light.lit ∧
      t.light.lamps.map (fun l => (l.num, l.target, l.current, l.fade)) = s.light.lamps.map (fun l =>
        match l.fade with
        | none => (l.num, l.target, l.current, none)
        | some d =>
          if d.duration ≤ d.elapsed + 50 then (l.num, l.target, d.goal, none)
          else (l.num, l.target,
            (if d.start ≤ d.goal then d.start + (d.goal - d.start) * (d.elapsed + 50) / d.duration
             else d.start - (d.start - d.goal) * (d.elapsed + 50) / d.duration), some { d with elapsed := d.elapsed + 50 })) ∧
      t.light.lamps.map (fun l => (l.safety, l.curtain, l.manual, l.cue)) = s.light.lamps.map (fun l => (l.safety, l.curtain, l.manual, l.cue)) ∧
      (∀ n l d, s.light.lamp n = some l → l.fade = some d → d.duration ≤ d.elapsed + 50 → exec (.fadeEnd n) s = .next t)) ∧
    (∀ n, s.idle → (∀ l d, s.light.lamp n = some l → l.fade = some d → d.elapsed + 50 < d.duration) → exec (.fadeEnd n) s = .next s) ∧
    (∃ t, exec .flashClockHalf s = .next t ∧ t.light.lit = !s.light.lit ∧
      t.light.lamps.map (fun l => (l.num, l.target, l.current, l.fade, l.safety, l.curtain, l.manual, l.cue)) = s.light.lamps.map (fun l =>
        (l.num, l.target, if l.target = .flash then (if s.light.lit then 0 else 100) else l.current, l.fade, l.safety, l.curtain, l.manual,
          l.cue)))

/-! ## The calls -/

/-- R126, R136: an accepted PLACE CALL is answered DONE before anything else the event sends, the order's own end among it; where the line is held
by another order it joins the queue as an order of its port with the fields of the request, and waits. WITHDRAW CALL is refused
NO_SUCH_ORDER when the port has no order of that tag; otherwise it is answered with the number it reached, a SOUNDING order already withdrawn
among them (the model's choice, log entry 33), and no order of the port with that tag is left but one that sounds. -/
def Obligations.PlaceAndWithdrawCall : Prop :=
  (∀ (s : State) (p : Port) (tag : Tag) (cls : CallClass) (kind : CallKind) (target : Target) (reps : Repeats) (anchor : Anchor)
    (off : Option Nat), s.resetHeld = false → s.owns p tag .placeCall = true → gatePlaceCall cls kind target reps anchor off s = none →
      (∃ t, exec (.placeCall p tag cls kind target reps anchor off) s = .next t ∧
        (∃ l, (t.port p).queue = (s.port p).queue ++ .reply tag (.done .empty) :: l) ∧
        (s.idle → s.lineHeld →
          (∃ o ∈ t.calls.queue, o.tag = tag.toNat ∧ o.origin = (match p with | .stage => .stage | .front => .front) ∧ o.cls = cls ∧
            o.kind = kind ∧ o.target = target ∧ o.repeats = reps ∧ o.anchor = anchor ∧ o.offset = off ∧ o.done = 0) ∧
          t.calls.queue.length = s.calls.queue.length + 1 ∧ t.perf = s.perf ∧ t.sup = s.sup ∧ t.loop = s.loop ∧ t.light = s.light))) ∧
  (∀ (s : State) (p : Port) (tag : Tag) (named : Nat), s.awake → s.owns p tag .withdrawCall = true →
    (portOrders p named s.calls = [] →
      exec (.withdrawCall p tag named) s = .next (transmit (reply p tag (.refused .noSuchOrder) s))) ∧
    (portOrders p named s.calls ≠ [] → (s.calls.queue.map Order.id).Nodup →
      ∃ t, exec (.withdrawCall p tag named) s = .next t ∧
        t.answered p tag (.done (.withdrawn (portOrders p named s.calls).length)) ∧
        (∀ o ∈ t.calls.queue, o.origin = (match p with | .stage => .stage | .front => .front) → o.tag = named →
          ∃ x ∈ s.calls.queue, x.id = o.id ∧ x.isSounding = true) ∧ t.perf = s.perf ∧ t.sup = s.sup))

/-- R132 to R134, R158, R162: when the CALL of the sounding order has been sent, the time limit of its repetition runs. At the limit of its last
repetition, or of any when it has been withdrawn, the order leaves the queue. At the limit of another the repetition is counted done, the area of
each unit still awaited is missing and, where the fault list has room, "call not reported" stands ACTIVE for it, and the order is DUE, or SOUNDING
again where it is granted the line in that event; it addresses units now. A broadcast that has been sent, a CALL or a CANCEL, leaves its lane. -/
def Obligations.SoundingOrder : Prop :=
  (∀ (s : State) (o : Order) (r : Repetition) (e : Nat), s.resetHeld = false → s.calls.sounding = some o → s.calls.repetition = some r →
      r.limitAt = some e → e ≤ s.uptime →
      ((o.repeats = .times (o.done + 1) ∧ o.done < 255) ∨ o.withdrawn = true →
        ∃ t, exec .callTimeLimit s = .next t ∧ (∀ x ∈ t.calls.queue, x.id ≠ o.id) ∧ t.perf = s.perf ∧ t.settings = s.settings) ∧
      (o.repeats ≠ .times (o.done + 1) → o.done < 255 → o.withdrawn = false → (s.calls.queue.map Order.id).Nodup →
        expectedUnits o s.rowsNow ≠ [] →
        ∃ t, exec .callTimeLimit s = .next t ∧ t.perf = s.perf ∧ t.settings = s.settings ∧
          (∃ x ∈ t.calls.queue, x.id = o.id ∧ x.done = o.done + 1 ∧
            (∀ m, m ∈ x.missing ↔ m ∈ o.missing ∨ ∃ a ∈ r.awaited, m = areaOf r.expected a) ∧
            (x.state = .due o.since ∨ ∃ n, x.state = .sounding o.since n)) ∧
          (s.sup.entries.length + r.awaited.length ≤ 32 → ∀ a ∈ r.awaited, ∃ f ∈ t.sup.entries,
            f.pair = (.unit a, .callNotReported) ∧ f.state = .active))) ∧
  (∀ s : State, s.resetHeld = false → s.loop.transaction = some .broadcast → s.loop.roomOwed = false → s.loop.ordinary.length < 48 →
      ∃ t, exec .loopBroadcastSent s = .next t ∧ t.perf = s.perf ∧ t.sup = s.sup ∧ t.curtain = s.curtain ∧ t.alarm = s.alarm ∧
        t.calls.queue = s.calls.queue ∧
        t.loop.urgent.map (·.work) = (s.loop.urgent.filter (fun i => !i.sending)).map (·.work) ∧
        t.loop.ordinary.map (·.work) = (s.loop.ordinary.filter (fun i => !i.sending)).map (·.work) ∧
        (∀ o r k, s.calls.sounding = some o → s.calls.repetition = some r → o.serial = some k → s.loop.sendingSerial = some k →
          t.calls.repetition = some { r with limitAt := some (s.uptime + timeLimit o.kind) }) ∧
        (∀ i, (s.loop.urgent ++ s.loop.ordinary).find? (·.sending) = some i → (∀ b, i.work ≠ .call b) → t.calls = s.calls))

/-! ## The faults -/

/-- R147, R148, R150: ACKNOWLEDGE FAULT of a source and kind: INVALID for none or for a pair that R149 does not give, NOT_PRESENTED for no entry,
and for an entry what the table of R147 says of its state. With the selector "lost" the count is set to 0 and the relay judged, unless the list is
full. That the notice stands before the DONE (log entry 28), that the notice of a removed CLEARED entry says acknowledged yes (log entry 36), and
that "lost reset" carries no uptime (log entry 35) are the model's choices. -/
def Obligations.AcknowledgeFault : Prop :=
  (∀ (s : State) (p : Port) (tag : Tag) (src : FaultSource), s.awake → s.owns p tag .acknowledgeFault = true →
    exec (.acknowledgeFault p tag src none) s = .next (transmit (reply p tag (.refused .invalid) s)) ∧
    ∀ k, (allowedAt k src = false →
        exec (.acknowledgeFault p tag src (some k)) s = .next (transmit (reply p tag (.refused .invalid) s))) ∧
      (allowedAt k src = true → s.sup.find src k = none →
        exec (.acknowledgeFault p tag src (some k)) s = .next (transmit (reply p tag (.refused .notPresented) s))) ∧
      ∀ e, allowedAt k src = true → s.sup.find src k = some e → s.sup.sound →
        (e.state = .active → e.acked = true →
          exec (.acknowledgeFault p tag src (some k)) s = .next (transmit (reply p tag (.done .empty) s))) ∧
        (e.state = .active → e.acked = false →
          exec (.acknowledgeFault p tag src (some k)) s = .next (transmit (reply p tag (.done .empty)
            (notify e.severity.family (.fault .acknowledged { e with acked := true } false (some p) s.uptime s.sup.entries.length
                s.sup.lost s.sup.relay)
              { s with sup := { s.sup with
                  entries := s.sup.entries.map (fun x => if x.pair = e.pair then { e with acked := true } else x) } })))) ∧
        (e.state = .cleared →
          exec (.acknowledgeFault p tag src (some k)) s = .next (transmit (reply p tag (.done .empty)
            (notify e.severity.family (.fault .acknowledged { e with acked := true } true (some p) s.uptime
                (s.sup.entries.filter (fun x => decide (x.pair ≠ e.pair))).length s.sup.lost s.sup.relay)
              { s with sup := { s.sup with entries := s.sup.entries.filter (fun x => decide (x.pair ≠ e.pair)) } }))))) ∧
  (∀ (s : State) (p : Port) (tag : Tag), s.awake → s.owns p tag .acknowledgeFault = true →
    (s.sup.lost = 0 → exec (.acknowledgeFaultLost p tag) s = .next (transmit (reply p tag (.done .empty) s))) ∧
    (0 < s.sup.lost → s.sup.entries.length = 32 →
      exec (.acknowledgeFaultLost p tag) s = .next (transmit (reply p tag (.refused .full) s))) ∧
    (0 < s.sup.lost → s.sup.entries.length < 32 →
      exec (.acknowledgeFaultLost p tag) s = .next (transmit (reply p tag (.done .empty)
        (notify .faultMajor (.faultLostReset s.sup.entries.length 0 (!(s.sup.entries.any FaultEntry.troubles)))
          { s with sup := { s.sup with lost := 0, relay := !(s.sup.entries.any FaultEntry.troubles) } })))))

/-! ## The House Loop -/

/-- R158, R165, R167 to R169, R175: what a PRESENT unit's answer to its POLL does. A good, valid reply sets the miss count to 0 and the row's room,
or hands on the call progress; with GOOD clear ("bad data") the contents are set aside and "unit bad data" is raised; a garbled frame and
a missing one count a miss, and the garbled one a check error. The third consecutive miss makes the unit ABSENT: its channels are no longer
placed and their sent levels unknown (R118), its SET has left the lanes, its row leaves the reachable table (R123). The next poll is due one
poll period after this one began (the times are the model's clock's, log entries 5 and 18). The reply of a unit that a CONFIG has made ABSENT
meanwhile acts alike, but the unit gets no next poll (the model's reading, log entry 20). -/
def Obligations.PollAnswers : Prop :=
  (∀ (s : State) (a began : Nat) (kind : UnitKind) (x : UnitRow) (f : LoopFrame), s.resetHeld = false →
      s.loop.transaction = some (.poll a kind began) → s.loop.row a = some x → x.present = true →
      f.kind = .poll → f.address = a → f.reply = true → f.complete = true →
      (f.checkGood = true → ∀ r, kind = .lamp → f.body = .lampPoll r →
        ∃ t, exec (.loopReply f) s = .next t ∧ (t.loop.row a).map (fun y => (y.present, y.misses, y.room, y.nextPoll)) =
            some (true, 0, if f.good then r else x.room, some (began + s.settings.loop.pollPeriod * 10)) ∧
          (f.good = false → (t.loop.row a).map (·.faultsHeld.contains .unitBadData) = some true) ∧
          (f.good = true → (t.loop.row a).map (·.faultsHeld.contains .unitBadData) = some false) ∧
          t.perf = s.perf ∧ t.settings = s.settings) ∧
      (f.checkGood = true → ∀ n p, n ≤ 255 → kind = .call → f.body = .callPoll n p →
        ∃ t, exec (.loopReply f) s = .next t ∧ (t.loop.row a).map (fun y => (y.present, y.misses, y.lastSerial, y.progress)) =
            some (true, 0, if f.good then (n, p) else (x.lastSerial, x.progress)) ∧ t.settings = s.settings) ∧
      (f.checkGood = false → ∃ t, exec (.loopReply f) s = .next t ∧ t.settings = s.settings ∧
        (t.loop.row a).map (fun y => (y.present, y.misses, y.checkErrors)) =
          some (decide (x.misses + 1 < 3), if x.misses + 1 < 3 then x.misses + 1 else 0, min 255 (x.checkErrors + 1)))) ∧
  (∀ (s : State) (a began : Nat) (kind : UnitKind) (r : UnitRow), s.resetHeld = false → s.loop.transaction = some (.poll a kind began) →
      s.loop.row a = some r → r.present = true →
        ∃ t, exec .replyWindowExpiry s = .next t ∧ t.settings = s.settings ∧
          (t.loop.row a).map (fun x => (x.present, x.misses)) = some (if r.misses + 1 < 3 then (true, r.misses + 1) else (false, 0)) ∧
          (3 ≤ r.misses + 1 → (t.loop.row a).map (fun x => (x.room, x.nextPoll)) = some (.room, none) ∧
            (t.loop.row a).map (·.faultsHeld.contains .unitAbsent) = some true ∧
            ((s.settings.loopRow a).expected = .lamp → t.loop.holdsSet a = false ∧
              ∀ l ∈ t.light.lamps, (s.settings.lamp l.num).unit = a → l.placed = false ∧ l.sent = none) ∧
            ((s.settings.loopRow a).expected = .call → ∀ y ∈ t.calls.reachable, y.address ≠ a))) ∧
  (∀ (s : State) (a began : Nat) (kind : UnitKind) (x : UnitRow) (f : LoopFrame), s.resetHeld = false →
      s.loop.transaction = some (.poll a kind began) → s.loop.row a = some x → x.present = false → x.nextPoll = none →
      f.kind = .poll → f.address = a → f.reply = true → f.complete = true → f.checkGood = true →
      (∀ r, kind = .lamp → f.body = .lampPoll r → ∃ t, exec (.loopReply f) s = .next t ∧ t.settings = s.settings ∧
        (t.loop.row a).map (fun y => (y.present, y.misses, y.nextPoll, y.faultsHeld.contains .unitBadData)) =
          some (false, 0, none, !f.good)) ∧
      (∀ n p, n ≤ 255 → kind = .call → f.body = .callPoll n p → ∃ t, exec (.loopReply f) s = .next t ∧ t.settings = s.settings ∧
        (t.loop.row a).map (fun y => (y.present, y.misses, y.nextPoll, y.faultsHeld.contains .unitBadData, y.lastSerial, y.progress)) =
          some (false, 0, none, !f.good, if f.good then (n, p) else (x.lastSerial, x.progress))))

/-- R116, R157, R164 to R166, R172 to R174, R177: a free loop takes the next work, the first that the steps of R164 find: the oldest eligible item of
URGENT; a POLL whose time has come, the earliest first and among equal times the lowest address; a survey probe; the oldest eligible item of
ORDINARY. Of the survey probes the probe of an address newly expected goes first, then the survey's, then the due sweep probe, which is for
the next ABSENT address after the sweep position and sets it. That the first goes ahead of a running full survey's probe, and that a sweep
probe already due waits until that survey has ended, are the model's choices (log entry 35), and so is that the sweep probe's address is chosen
when the probe is taken (log entry 36). In STARTING nothing but the survey's probe is
taken. A SET goes out with the levels of that moment, held when it carries a SAFETY-class channel, and sets the sent levels. Here 0.1 ms pass
with no command (the model's choice, log entry 5). -/
def Obligations.LoopTakesWork : Prop :=
  ∀ s : State, s.pending = [] → s.resetHeld = false → s.loop.transaction = none → s.loop.roomOwed = false →
    (s.loop.rows.map UnitRow.address).Pairwise (· < ·) →
      ∃ t, step s = .next t ∧ t.perf = s.perf ∧ t.calls = s.calls ∧ t.settings = s.settings ∧
        (s.loop.state = .starting → t.loop.transaction = s.loop.survey.map (fun v => .probe v.next .survey)) ∧
        (s.loop.state = .running →
          (∀ i, s.loop.urgent.find? s.loop.eligible = some i → match i.work with
            | .set a _ => s.issued t a
            | .call _ | .cancel _ => t.loop.transaction = some .broadcast) ∧
          (s.loop.urgent.find? s.loop.eligible = none →
            ((∃ r ∈ s.loop.rows, ∃ x, r.nextPoll = some x ∧ x ≤ s.clock.now + 1) →
              ∃ r ∈ s.loop.rows, ∃ x, r.nextPoll = some x ∧ x ≤ s.clock.now + 1 ∧
                t.loop.transaction = some (.poll r.address (s.settings.loopRow r.address).expected (s.clock.now + 1)) ∧
                ∀ q ∈ s.loop.rows, ∀ y, q.nextPoll = some y → x < y ∨ (x = y ∧ r.address ≤ q.address)) ∧
            ((∀ r ∈ s.loop.rows, ∀ x, r.nextPoll = some x → s.clock.now + 1 < x) →
              (∀ a l, s.loop.reprobes = a :: l → t.loop.transaction = some (.probe a .reprobe) ∧ t.loop.reprobes = l) ∧
              (∀ v, s.loop.reprobes = [] → s.loop.survey = some v → t.loop.transaction = some (.probe v.next .survey)) ∧
              (∀ a, s.loop.reprobes = [] → s.loop.survey = none → s.loop.sweepDue = true → 1 ≤ s.loop.sweepPosition →
                s.loop.sweepPosition ≤ 31 → s.loop.sweepsNext a →
                  t.loop.transaction = some (.probe a .sweep) ∧ t.loop.sweepPosition = a ∧ t.loop.sweepDue = false) ∧
              (s.loop.reprobes = [] → s.loop.survey = none → (s.loop.sweepDue = false ∨ ∀ a, ¬ s.loop.absentAt a) →
                (∀ i, s.loop.ordinary.find? s.loop.eligible = some i → match i.work with
                  | .set a _ => s.issued t a
                  | .call _ | .cancel _ => t.loop.transaction = some .broadcast) ∧
                (s.loop.ordinary.find? s.loop.eligible = none → t.loop.transaction = none)))))

/-- R116, R117, R120, R166 to R170: what a PRESENT lamp unit's answers to a SET and to the READ of a held exchange do. TAKEN and TAKEN_FULL set
the room, and the SET leaves its lane: the unit record becomes CLEAN, or is requested again at the class changed since issue; a held SET goes
on to its READ with the item kept. REFUSED leaves the item and, in STREAMED mode, raises "promise broken". The levels read back are
compared with those sent: a verdict confirmed clears "level unconfirmed" and the retry mark, one unconfirmed raises it and spends the retry.
A SET or a READ that draws no reply, or a garbled one, counts a miss, and the garbled one a check error: the SET's item stays in its lane for
a new issue, and the READ is sent again. At the third consecutive miss the unit is ABSENT with no verdict: "unit absent" is raised, the
item has left the lanes, the READ is not sent again, and the unit's lamps are no longer placed. The event before has come to its
end, so no report of room is owed, and where an answer has been taken no display announcement is waited for. -/
def Obligations.SetAndReadAnswers : Prop :=
  (∀ (s : State) (a : Nat) (sent : List Nat) (r : UnitRow) (f : LoopFrame), s.awake → s.calm → s.loop.row a = some r →
    r.present = true → f.address = a → f.reply = true → f.complete = true → f.checkGood = true →
    (∀ held x, s.loop.transaction = some (.set a sent held) → f.kind = .set → f.body = .setAnswer x →
      ∃ t, exec (.loopReply f) s = .next t ∧ t.perf = s.perf ∧ t.settings = s.settings ∧
        (t.loop.row a).map (fun y => (y.present, y.misses, y.room)) = some (true, 0, match x with
          | .taken => .room
          | .takenFull | .refused => .full) ∧
        (x = .refused → t.loop.holdsSet a = s.loop.holdsSet a ∧
          ((s.settings.loopRow a).mode = .streamed → (t.loop.row a).map (·.faultsHeld.contains .promiseBroken) = some true)) ∧
        (x ≠ .refused → (t.loop.row a).map (·.faultsHeld.contains .promiseBroken) = some false ∧
          (held = true → t.loop.transaction = some (.read a sent) ∧ t.loop.urgent = s.loop.urgent ∧ t.loop.ordinary = s.loop.ordinary) ∧
          (held = false →
            (∀ c, (s.light.unit a).map LightUnit.refresh = some (.queued c none) →
              t.loop.holdsSet a = false ∧ (t.light.unit a).map LightUnit.refresh = some .clean) ∧
            (∀ c e, (s.light.unit a).map LightUnit.refresh = some (.queued c (some e)) →
              (t.light.unit a).map LightUnit.refresh = some (.dirty e) ∨ (t.light.unit a).map LightUnit.refresh = some (.queued e none))))) ∧
    (s.loop.transaction = some (.read a sent) → f.kind = .read → ∀ ls, f.body = .levels ls → ls.length = sent.length →
      ls.all (· ≤ 100) = true →
        ∃ t, exec (.loopReply f) s = .next t ∧ t.perf = s.perf ∧ t.settings = s.settings ∧
          (t.loop.row a).map (fun y => (y.present, y.misses, y.faultsHeld.contains .levelUnconfirmed)) =
            some (true, 0, !(f.good && ls == sent)) ∧
          (t.light.unit a).map LightUnit.retryUsed = (s.light.unit a).map (fun _ => !(f.good && ls == sent)))) ∧
  (∀ (s : State) (a errors : Nat) (sent : List Nat) (r : UnitRow) (c : Instr), s.awake → s.loop.row a = some r → r.present = true →
    (c = .replyWindowExpiry ∧ errors = r.checkErrors) ∨
      (∃ f : LoopFrame, c = .loopReply f ∧ f.checkGood = false ∧ errors = min 255 (r.checkErrors + 1)) →
    (∀ held, s.loop.transaction = some (.set a sent held) → r.misses + 1 < 3 →
      ∃ t, exec c s = .next t ∧
        (t.loop.row a).map (fun y => (y.present, y.misses, y.room, y.checkErrors)) = some (true, r.misses + 1, r.room, errors) ∧
        t.loop.urgent.map (·.work) = s.loop.urgent.map (·.work) ∧ t.loop.ordinary.map (·.work) = s.loop.ordinary.map (·.work) ∧
        t.perf = s.perf ∧ t.settings = s.settings) ∧
    (s.loop.transaction = some (.read a sent) → r.misses + 1 < 3 →
      ∃ t, exec c s = .next t ∧ t.loop.transaction = some (.read a sent) ∧
        (t.loop.row a).map (fun y => (y.present, y.misses, y.checkErrors)) = some (true, r.misses + 1, errors) ∧
        t.loop.urgent = s.loop.urgent ∧ t.loop.ordinary = s.loop.ordinary ∧ t.light = s.light ∧ t.perf = s.perf) ∧
    ((s.loop.transaction = some (.read a sent) ∨ ∃ held, s.loop.transaction = some (.set a sent held)) → 3 ≤ r.misses + 1 →
      (s.settings.loopRow a).expected = .lamp →
      ∃ t, exec c s = .next t ∧
        (t.loop.row a).map (fun y => (y.present, y.misses, y.room, y.nextPoll, y.checkErrors)) = some (false, 0, .room, none, errors) ∧
        (t.loop.row a).map (·.faultsHeld.contains .unitAbsent) = some true ∧
        (t.loop.row a).map (·.faultsHeld.contains .levelUnconfirmed) = some (r.faultsHeld.contains .levelUnconfirmed) ∧
        t.loop.holdsSet a = false ∧ t.loop.transaction ≠ some (.read a sent) ∧
        (∀ u, s.light.unit a = some u → t.light.unit a = some { u with present := false, refresh := .clean, retryUsed := false }) ∧
        ∀ l ∈ t.light.lamps, (s.settings.lamp l.num).unit = a → l.placed = false ∧ l.sent = none))

/-- R118, R119, R123, R158, R169, R171, R175: what a probe in RUNNING finds. At an address that is ABSENT, a unit of the expected kind, and for CALL
of the area in the CALLS section (an address with no area there matches no call unit: the model's choice, log entry 35), becomes PRESENT: a lamp
unit's record carries its outputs and its channels within them are placed; a call unit joins the reachable table with its area and acceptance. One
of another kind raises "unit kind mismatch", one where none is expected "unexpected unit". A probe without a reply finds nothing; a garbled one
counts a check error. At an address that is PRESENT, the expected unit found again has its row recorded afresh, and its presence is reported again
where a lamp unit's outputs differ; one of another kind or area has its kind recorded (the model's choice, log entry 36: R171 names nothing that is
recorded there) and is taken as absent, with "unit kind mismatch" in place of "unit absent"; and a probe that draws no valid reply is a miss, the
third consecutive one the loss of the unit. -/
def Obligations.ProbeFindsUnit : Prop :=
  (∀ (s : State) (a : Nat) (k : ProbeKind) (r : UnitRow), s.resetHeld = false → s.loop.state = .running →
    s.loop.transaction = some (.probe a k) → (k = .survey → ∀ v, s.loop.survey = some v → v.cause = .retrain) →
    s.loop.row a = some r → r.present = false →
    (∀ (f : LoopFrame) (kind : UnitKind) (outputs area : Nat), f.address = a → f.kind = .survey → f.reply = true → f.complete = true →
      f.checkGood = true → f.body = .identity kind outputs area →
      (kind = .lamp ∧ 1 ≤ outputs ∧ outputs ≤ 8 ∧ area = 0) ∨ (kind = .call ∧ outputs = 0 ∧ area ≤ 15) →
      ∃ t, exec (.loopReply f) s = .next t ∧ t.settings = s.settings ∧ (t.loop.row a).map UnitRow.found = some kind ∧
        (matchesExpected s.settings a kind area = true →
          (t.loop.row a).map (fun y => (y.present, y.misses, y.room, y.nextPoll)) = some (true, 0, .room, some s.clock.now) ∧
          (t.loop.row a).map (fun y => (y.outputs, y.area)) = some (if kind = .lamp then (some outputs, none) else (none, some area)) ∧
          (t.loop.row a).map (fun y => y.faultsHeld.contains .unitAbsent || y.faultsHeld.contains .unitKindMismatch) = some false ∧
          (kind = .lamp → (t.light.unit a).map (fun u => (u.present, u.outputs)) = some (true, outputs) ∧
            ∀ l ∈ t.light.lamps, (s.settings.lamp l.num).unit = a → l.placed = decide ((s.settings.lamp l.num).output ≤ outputs)) ∧
          (kind = .call → ∀ c, s.settings.callUnit a = some c → ⟨a, c.area, c.acceptsAll⟩ ∈ t.calls.reachable)) ∧
        ((s.settings.loopRow a).expected ≠ .none → matchesExpected s.settings a kind area = false →
          r.faultsHeld.contains .unitKindMismatch = false →
            (t.loop.row a).map (fun y => (y.present, y.faultsHeld.contains .unitKindMismatch, y.faultsHeld.contains .unitAbsent)) =
              some (false, true, false)) ∧
        ((s.settings.loopRow a).expected = .none →
          (t.loop.row a).map (fun y => (y.present, y.faultsHeld.contains .unexpectedUnit)) = some (false, true))) ∧
    (∃ t, exec .replyWindowExpiry s = .next t ∧ t.settings = s.settings ∧
      (t.loop.row a).map (fun y => (y.present, y.found, y.misses)) = some (false, .none, r.misses) ∧
      ((s.settings.loopRow a).expected = .none → (t.loop.row a).map (·.faultsHeld.contains .unexpectedUnit) = some false)) ∧
    (∀ f : LoopFrame, f.checkGood = false → ∃ t, exec (.loopReply f) s = .next t ∧
      (t.loop.row a).map (fun y => (y.present, y.checkErrors)) = some (false, min 255 (r.checkErrors + 1)))) ∧
  (∀ (s : State) (a : Nat) (k : ProbeKind) (r : UnitRow), s.resetHeld = false → s.loop.state = .running →
    s.loop.transaction = some (.probe a k) → (k = .survey → ∀ v, s.loop.survey = some v → v.cause = .retrain) →
    s.loop.row a = some r → r.present = true →
    (∀ (f : LoopFrame) (kind : UnitKind) (outputs area : Nat), f.address = a → f.kind = .survey → f.reply = true → f.complete = true →
      f.checkGood = true → f.body = .identity kind outputs area →
      (kind = .lamp ∧ 1 ≤ outputs ∧ outputs ≤ 8 ∧ area = 0) ∨ (kind = .call ∧ outputs = 0 ∧ area ≤ 15) →
      ∃ t, exec (.loopReply f) s = .next t ∧ t.settings = s.settings ∧ (t.loop.row a).map UnitRow.found = some kind ∧
        (t.loop.row a).map (·.faultsHeld.contains .unitBadData) = some (!f.good) ∧
        (matchesExpected s.settings a kind area = true →
          (t.loop.row a).map (fun y => (y.present, y.misses, y.room, y.nextPoll)) = some (true, 0, r.room, r.nextPoll) ∧
          (t.loop.row a).map (fun y => (y.outputs, y.area)) = some (if kind = .lamp then (some outputs, none) else (none, some area)) ∧
          (kind = .lamp → r.outputs ≠ some outputs → (t.light.unit a).map (fun u => (u.present, u.outputs)) = some (true, outputs) ∧
            ∀ l ∈ t.light.lamps, (s.settings.lamp l.num).unit = a → l.placed = decide ((s.settings.lamp l.num).output ≤ outputs)) ∧
          (kind = .lamp → r.outputs = some outputs → (t.light.unit a).map LightUnit.outputs = (s.light.unit a).map LightUnit.outputs)) ∧
        ((s.settings.loopRow a).expected ≠ .none → matchesExpected s.settings a kind area = false →
          (t.loop.row a).map (fun y => (y.present, y.misses, y.room, y.nextPoll)) = some (false, 0, .room, none) ∧
          (t.loop.row a).map (fun y => (y.faultsHeld.contains .unitKindMismatch, y.faultsHeld.contains .unitAbsent)) =
            some (true, r.faultsHeld.contains .unitAbsent) ∧
          ((s.settings.loopRow a).expected = .lamp → t.loop.holdsSet a = false ∧
            ∀ l ∈ t.light.lamps, (s.settings.lamp l.num).unit = a → l.placed = false ∧ l.sent = none) ∧
          ((s.settings.loopRow a).expected = .call → ∀ y ∈ t.calls.reachable, y.address ≠ a))) ∧
    (∀ (c : Instr) (found : UnitKind) (errors : Nat),
      (c = .replyWindowExpiry ∧ found = .none ∧ errors = r.checkErrors) ∨
        (∃ f : LoopFrame, c = .loopReply f ∧ f.checkGood = false ∧ found = r.found ∧ errors = min 255 (r.checkErrors + 1)) →
      ∃ t, exec c s = .next t ∧ t.settings = s.settings ∧
        (t.loop.row a).map (fun y => (y.found, y.checkErrors)) = some (found, errors) ∧
        (t.loop.row a).map (fun y => (y.present, y.misses)) = some (if r.misses + 1 < 3 then (true, r.misses + 1) else (false, 0)) ∧
        (3 ≤ r.misses + 1 → (t.loop.row a).map (fun y => (y.room, y.nextPoll)) = some (.room, none) ∧
          (t.loop.row a).map (·.faultsHeld.contains .unitAbsent) = some true)))

/-- R165, R173 to R175: at a unit's next poll time its POLL is taken by a free loop with no URGENT work and no POLL due before it, and waits while a
transaction is on the loop (the time is the model's clock's, log entries 5 and 18); a survey period that ends in RUNNING begins the next, with every
count of check errors at 0, and makes a sweep probe due where no survey runs and an address is ABSENT (one that waits is kept as the one due: the
model's choice, log entry 36), which a free loop with nothing else to take begins at once at the next such address after the sweep position; RETRAIN
LOOP is accepted, the loop is at FAST and a full survey runs from address 1 or goes on. -/
def Obligations.LoopScheduleGoesOn : Prop :=
  (∀ (s : State) (a x : Nat) (r : UnitRow), s.awake → s.loop.row a = some r → r.nextPoll = some x →
      (s.loop.transaction ≠ none → exec (.pollDue a) s = .next { s with clock := { s.clock with now := max s.clock.now x } }) ∧
      (s.loop.transaction = none → s.loop.state = .running → s.loop.urgent.find? s.loop.eligible = none →
        (∀ q ∈ s.loop.rows, ∀ y, q.nextPoll = some y → q = r ∨ x < y) → s.clock.now < x →
        ∃ t, exec (.pollDue a) s = .next t ∧ t.loop.transaction = some (.poll a (s.settings.loopRow a).expected x) ∧
          t.clock = { s.clock with now := x } ∧ t.loop.rows = s.loop.rows ∧ t.perf = s.perf ∧ t.sup = s.sup)) ∧
  (∀ s : State, s.resetHeld = false → s.loop.state = .running → s.loop.periodBegan + s.loop.periodLength ≤ s.uptime →
      ∃ t, exec .surveyPeriodEnd s = .next t ∧ t.loop.periodBegan = s.uptime ∧ t.loop.periodLength = s.settings.loop.surveyPeriod ∧
        t.loop.checkErrors = 0 ∧ (∀ r ∈ t.loop.rows, r.checkErrors = 0) ∧ t.perf = s.perf ∧ t.sup = s.sup ∧
        (s.loop.transaction ≠ none → t.loop.transaction = s.loop.transaction ∧ t.loop.sweepPosition = s.loop.sweepPosition ∧
          (s.loop.survey = none → (∃ a, s.loop.absentAt a) → t.loop.sweepDue = true) ∧
          (s.loop.survey ≠ none ∨ (∀ a, ¬ s.loop.absentAt a) → t.loop.sweepDue = s.loop.sweepDue)) ∧
        (s.loop.transaction = none → s.idle → s.loop.survey = none → 1 ≤ s.loop.sweepPosition → s.loop.sweepPosition ≤ 31 →
          ∀ a, s.loop.sweepsNext a →
            t.loop.transaction = some (.probe a .sweep) ∧ t.loop.sweepPosition = a ∧ t.loop.sweepDue = false)) ∧
  (∀ (s : State) (tag : Tag), s.resetHeld = false → s.owns .stage tag .retrainLoop = true →
      ∃ t, exec (.retrainLoop .stage tag) s = .next t ∧ t.answered .stage tag .accepted ∧ t.loop.rate = .fast ∧
        t.loop.survey = some (match s.loop.survey with
          | some v => { v with retrains := v.retrains + 1 }
          | none => { cause := .retrain, next := 1, attempts := 0, retrains := 1 }) ∧
        t.loop.checkErrors = 0 ∧ t.perf = s.perf ∧ t.settings = s.settings)

/-! ## The Port Units -/

/-- R179, R180, R182, R183: each of the five frame errors is counted, saturating at 65535, and the reader hunts again. A frame that finds 4
requests held goes to the refusal list, while that has room (the model's choice, log entry 22), and is counted, one of an unknown kind too (the
model's choice, log entry 36); any other joins the intake,
to wait for its owner, or for the Port Unit's own answer, UNKNOWN_KIND, NOT_PERMITTED or INVALID (a length is judged as the frame
says, log entry 7), which is given at once where every request before it has been answered. No own answer is owed before it. A third
request held makes HOLD-OFF pending, or cancels a RESUME still unsent; a flow notice being sent is not unsent, and the fill and the dropped
count that one carries are those of the moment at which it is made pending (the model's reading, log entry 29). -/
def Obligations.FramesReceived : Prop :=
  (∀ (s : State) (p : Port) (c : Instr), s.awake → c ∈ [Instr.badSync p, .badLength p, .incomplete p, .badCheck p, .badFraming p] →
    exec c s = .next (s.mapPort p (fun u => { u with frameErrors := min 65535 (u.frameErrors + 1), reader := .hunting }))) ∧
  (∀ (s : State) (p : Port) (f : PortFrame), s.awake →
    (4 ≤ (s.port p).intake.length → exec (.receivedFrame p f) s = .next (transmit (s.mapPort p (fun u => { u with
      reader := .hunting, refusals := if u.refusals.length < 24 then u.refusals ++ [f.tag] else u.refusals
      fullRefusals := min 65535 (u.fullRefusals + 1) })))) ∧
    ((s.port p).intake.length < 4 → answerOwn (s.port p).intake = ((s.port p).intake, []) →
      ∃ t, exec (.receivedFrame p f) s = .next t ∧ (t.port p).refusals = (s.port p).refusals ∧ t = { s with ports := t.ports } ∧
        PortUnit.warned ((s.port p).intake.length + 1) (s.port p) (t.port p) ∧
        ∀ own : Option Reason,
          own = (match f.kind with
            | .unknown _ => some .unknownKind
            | .request _ =>
              if p = .front ∧ s.settings.ports.frontFitted = false then some .notPermitted
              else if f.lengthAllowed then none else some .invalid) →
          (own = none → (t.port p).intake = (s.port p).intake ++ [{ tag := f.tag, kind := f.kind, step := .waiting, answer := none }] ∧
            (t.port p).queue = (s.port p).queue) ∧
          (∀ r, own = some r → (s.port p).intake.all (fun e => e.step == .replyQueued) = true →
            (t.port p).intake = (s.port p).intake ++ [{ tag := f.tag, kind := f.kind, step := .replyQueued, answer := some r }] ∧
            (t.port p).queue = (s.port p).queue ++ [.reply f.tag (.refused r)]) ∧
          (∀ r, own = some r → (s.port p).intake.all (fun e => e.step == .replyQueued) = false →
            (t.port p).intake = (s.port p).intake ++ [{ tag := f.tag, kind := f.kind, step := .waiting, answer := some r }] ∧
            (t.port p).queue = (s.port p).queue)))

/-- R180, R183, R184: the oldest request not yet passed on goes to its owner once every request before it has been answered; a frame that has been
sent leaves its place (a notice the output queue, a reply the queue and its request the intake, a FULL refusal the refusal list, a flow notice
its own place) and the next is chosen: a pending flow notice, then the oldest refusal, then the oldest frame of the queue. A request that
leaves the intake with its reply and one request held makes RESUME pending, or cancels a HOLD-OFF still unsent. A flow notice stays pending
while it is being sent and is then not unsent, one that has taken its place stays pending after it, and what one carries is fixed when it is
made pending (the model's reading, log entry 29). -/
def Obligations.FramesLeaveThePort : Prop :=
  (∀ (s : State) (p : Port) (a b : List IntakeEntry) (e : IntakeEntry), s.awake → (s.port p).intake = a ++ e :: b →
      a.all (fun x => x.step == .replyQueued) = true → e.step = .waiting → e.answer = none →
        exec (.requestPassedOn p) s = .next (s.mapPort p (fun u => { u with intake := a ++ { e with step := .withOwner } :: b }))) ∧
  (∀ (s : State) (p : Port), s.awake →
      (∀ d n l, (s.port p).sending = some .queued → (s.port p).queue = .notice d n :: l →
        exec (.frameSent p) s = .next (transmit (s.mapPort p (fun u => { u with sending := none, queue := l })))) ∧
      (∀ tag o l, (s.port p).sending = some .queued → (s.port p).queue = .reply tag o :: l → o ≠ .done .restart →
        ∃ v : PortUnit, exec (.frameSent p) s = .next (transmit (s.mapPort p (fun _ => v))) ∧
          v = { s.port p with
            sending := none, queue := l, intake := leaveIntake tag (s.port p).intake, heldOff := v.heldOff, flow := v.flow } ∧
          PortUnit.warned v.intake.length (s.port p) v) ∧
      ((s.port p).sending = some .fullRefusal →
        exec (.frameSent p) s = .next (transmit (s.mapPort p (fun u => { u with sending := none, refusals := u.refusals.drop 1 })))) ∧
      (∀ n, (s.port p).sending = some (.flow n) →
        exec (.frameSent p) s = .next (transmit (s.mapPort p (fun u =>
          { u with sending := none, flow := if u.flow = some n then none else u.flow }))))) ∧
  (∀ (s : State) (p : Port), (s.port p).sending = none →
      (∀ n, (s.port p).flow = some n → ((transmit s).port p).sending = some (.flow n)) ∧
      ((s.port p).flow = none → (s.port p).refusals ≠ [] → ((transmit s).port p).sending = some .fullRefusal) ∧
      ((s.port p).flow = none → (s.port p).refusals = [] → (s.port p).queue ≠ [] → ((transmit s).port p).sending = some .queued))

/-- R185: SUBSCRIBE sets the named families of the asking port and answers with its subscriptions; a family that is none of the table is
refused INVALID, and so is a SUBSCRIBE that names no family (the model's choice, log entry 25). Of a family named twice the last value stands (the
model's choice, log entry 36). -/
def Obligations.Subscribe : Prop :=
  ∀ (s : State) (p : Port) (tag : Tag) (l : List (Option Family × Bool)), s.resetHeld = false → s.owns p tag .subscribe = true →
    (familiesKnown l = true → ∃ t, exec (.subscribe p tag l) s = .next t ∧
      t.answered p tag (.done (.subscriptions (subscribeAll l (s.settings.ports.subs p)))) ∧
      t.settings = { s.settings with ports := s.settings.ports.setSubs p (subscribeAll l (s.settings.ports.subs p)) } ∧
      t.perf = s.perf ∧ t.sup = s.sup ∧ t.alarm.entries.map AlarmEntry.stage = s.alarm.entries.map AlarmEntry.stage) ∧
    (s.idle → (l = [] ∨ ∃ q ∈ l, q.1 = none) →
      exec (.subscribe p tag l) s = .next (transmit (reply p tag (.refused .invalid) s)))

/-! ## The settings store -/

/-- R41, R102, R177, R191, R193: an accepted CONFIG changes every named field of the working section, sets the section's changed mark and is
answered DONE, and leaves the phase and the store operation; and the blocks apply it. A channel whose type, zone, thresholds or confirm count
has changed is out of every cut with its supply on, reports and holds nothing, and begins a fresh confirm run, or is NOT_USED; the others are as
they were. An address whose expected kind has changed is ABSENT, holds no fault and is to be probed, or is being probed at once; one whose
issue mode has changed no longer holds "promise broken". A lamp channel that holds no claim takes a changed rest level at once; one that is
moved is placed by the unit it now names, with its sent level unknown, and the unit it leaves is to be refreshed if the channel was placed there;
no claim changes. That condition, and that the last value stands of a field named twice, are the model's choices (log entry 36). An
accepted STORE SECTION records the section, its snapshot and the uptime, and the section's stored state becomes BLANK; a CONFIG or a STORE
SECTION that its judgement refuses changes nothing (that a CONFIG of none of the eight sections is refused INVALID is the model's choice, log
entry 25). At the end of the write the snapshot stands in the store, VALID, the changed mark becomes no if the section still equals it (where a
CONFIG has been taken meanwhile too: the model's choice, log entry 37), the notice "done" is sent, and "section lost" and "store aborted" of
that section are ACTIVE no longer. -/
def Obligations.SettingsAndStore : Prop :=
  (∀ (s : State) (tag : Tag) (n : SectionName) (fs : List ConfigField), s.resetHeld = false → s.owns .stage tag .config = true →
      gateConfig (some n) fs s = none →
      ∃ t, exec (.config .stage tag (some n) fs) s = .next t ∧ t.answered .stage tag (.done .empty) ∧
        t.settings = applyFields fs s.settings ∧ (∀ r ∈ t.store.rows, r.name = n → r.changed = true) ∧
        t.store.operation = s.store.operation ∧ t.perf = s.perf ∧
        (n = .channels → ∀ m c, 1 ≤ m → m ≤ 16 → s.scanner.record m = some c →
          t.scanner.record m = some (
            if { s.settings.channel m with isolated := (t.settings.channel m).isolated } = t.settings.channel m then c
            else { c with
              candidate := none, run := 0, cut := none, supply := true, alarmReported := false, loopFault := none
              state := if (t.settings.channel m).type = .notUsed then .notUsed else .normal
              firstPending := decide ((t.settings.channel m).type ≠ .notUsed) })) ∧
        (n = .loop → ∀ a r, 1 ≤ a → a ≤ 31 → s.loop.row a = some r →
          ((t.settings.loopRow a).expected ≠ (s.settings.loopRow a).expected →
            (t.loop.row a).map (fun y => (y.present, y.room, y.faultsHeld)) = some (false, .room, []) ∧
            (t.loop.transaction = some (.probe a .reprobe) ∨ a ∈ t.loop.reprobes) ∧
            (r.present = true → (t.loop.row a).map (fun y => (y.misses, y.nextPoll)) = some (0, none) ∧
              ((s.settings.loopRow a).expected = .lamp → t.loop.holdsSet a = false ∧
                ∀ l ∈ t.light.lamps, (s.settings.lamp l.num).unit = a → l.placed = false ∧ l.sent = none) ∧
              ((s.settings.loopRow a).expected = .call → ∀ y ∈ t.calls.reachable, y.address ≠ a))) ∧
          ((t.settings.loopRow a).expected = (s.settings.loopRow a).expected → t.loop.row a = some { r with
            faultsHeld := if (t.settings.loopRow a).mode = (s.settings.loopRow a).mode then r.faultsHeld
              else r.faultsHeld.filter (fun k => k != .promiseBroken) })) ∧
        (n = .lights → s.idle → s.calm → s.numbered → ∀ m l was now, s.light.lamp m = some l → was = s.settings.lamp m →
          now = t.settings.lamp m → (l.unclaimed = true → l.target = .level was.rest) →
          ∃ x, t.light.lamp m = some x ∧ (x.safety, x.curtain, x.manual, x.cue) = (l.safety, l.curtain, l.manual, l.cue) ∧
            (x.target, x.current, x.fade) =
              (if l.unclaimed = true ∧ now.rest ≠ was.rest then (.level now.rest, now.rest, none) else (l.target, l.current, l.fade)) ∧
            (was.unit = now.unit ∧ was.output = now.output → x.placed = l.placed ∧ (s.loop.transaction ≠ none → x.sent = l.sent)) ∧
            (was.unit ≠ now.unit ∨ was.output ≠ now.output →
              x.placed = (t.light.unit now.unit).any (fun u => u.present && decide (now.output ≤ u.outputs)) ∧
              (s.loop.transaction ≠ none → x.sent = none) ∧
              (l.placed = true → ∀ u, t.light.unit was.unit = some u → u.refresh ≠ .clean)))) ∧
  (∀ (s : State) (tag : Tag) (n : Option SectionName) (fs : List ConfigField) (r : Reason), s.awake →
      (s.owns .stage tag .config = true → gateConfig n fs s = some r →
        exec (.config .stage tag n fs) s = .next (transmit (reply .stage tag (.refused r) s))) ∧
      (s.owns .stage tag .storeSection = true → gateStore n s = some r →
        exec (.storeSection .stage tag n) s = .next (transmit (reply .stage tag (.refused r) s)))) ∧
  (∀ (s : State) (tag : Tag),
      (∀ n, s.awake → s.owns .stage tag .storeSection = true → gateStore (some n) s = none →
        exec (.storeSection .stage tag (some n)) s = .next (transmit (reply .stage tag .accepted
          { s with store :=
              { rows := s.store.rows.map (fun r => if r.name = n then { r with cell := .blank, stored := .blank } else r)
                operation := some ⟨n, s.settings.value n, s.uptime⟩ } }))) ∧
      (∀ op, s.resetHeld = false → s.store.operation = some op → ∃ t, exec .storeWriteEnd s = .next t ∧
        t.store = { rows := s.store.rows.map (fun r => if r.name = op.name then { r with
                      cell := .checked op.snapshot, stored := .valid, changed := r.changed && !(s.settings.value op.name == op.snapshot) } else r)
                    operation := none } ∧
        (∀ p, s.portOpen p = true → (s.settings.ports.subs p).get .store = true → (s.port p).noticeCount < 12 →
          ∃ l, (t.port p).queue = (s.port p).queue ++ .notice (s.port p).dropped (.storeDone op.name s.uptime) :: l) ∧
        (s.sup.sound → ∀ e : FaultEntry,
          (e.pair = (.store op.name, .sectionLost) ∨ e.pair = (.store op.name, .storeAborted) → e ∈ t.sup.entries → e.state ≠ .active) ∧
          (e.pair ≠ (.store op.name, .sectionLost) → e.pair ≠ (.store op.name, .storeAborted) →
            (e ∈ t.sup.entries ↔ e ∈ s.sup.entries))) ∧
        t.settings = s.settings ∧ t.perf = s.perf))

/-- R196, R100, R189: an accepted RESTART is answered DONE and changes nothing else; the sending of that reply begins start-up, with a curtain
at UP, DOWN or HALTED kept as it is. -/
def Obligations.RestartBeginsWhenAnswered : Prop :=
  ∀ (s : State) (tag : Tag),
    (s.awake → s.owns .stage tag .restart = true → gateRestart s = none →
      exec (.restart .stage tag) s = .next (transmit (reply .stage tag (.done .restart) s))) ∧
    (∀ (p : Port) (l : List OutFrame), s.resetHeld = false → (s.port p).sending = some .queued →
      (s.port p).queue = .reply tag (.done .restart) :: l →
      ∃ t, exec (.frameSent p) s = .next t ∧ t.startStep = .survey ∧ t.uptime = 0 ∧ t.perf = PerfRecord.reset ∧
        t.alarm = AlarmUnit.reset ∧ t.calls = Calls.reset ∧ t.settings = loadSettings (stopStore s.store) ∧
        t.loop.transaction = some (.probe 1 .survey) ∧
        (s.curtain.resolved = true → s.curtain.state = .up ∨ s.curtain.state = .down ∨ s.curtain.state = .halted →
          t.curtain.state = s.curtain.state ∧ t.curtain.position = s.curtain.position ∧ t.curtain.hold = s.curtain.hold))

/-- Each request that Stage alone may make is refused NOT_PERMITTED from Front and changes nothing (R39, R40, R42, R67, R80, R89, R95, R108, R174,
R191, R193, R196). -/
def Obligations.FrontMayNot : Prop :=
  ∀ (s : State) (tag : Tag) (c : Instr) (k : RequestKind), s.awake → c.request = some (.front, tag, k) → s.owns .front tag k = true →
    (c ∈ [Instr.resetAlarms .front tag, .curtainLower .front tag, .curtainRaise .front tag, .curtainDropTest .front tag,
      .curtainClearFault .front tag, .curtainHold .front tag, .curtainDisplay .front tag, .retrainLoop .front tag, .restart .front tag] ∨
    (∃ w, c = .isolate .front tag w) ∨ (∃ w, c = .restore .front tag w) ∨ (∃ n, c = .readChannel .front tag n) ∨
    (∃ n, c = .goPreset .front tag n) ∨ (∃ n fs, c = .config .front tag n fs) ∨ (∃ n, c = .storeSection .front tag n)) →
      exec c s = .next (transmit (reply .front tag (.refused .notPermitted) s))

/-! ## The frames -/

/-- R178, R179: the reader of port frames gives back the kind, the tag and the payload of every frame as R178 lays it out; a refusal is 6 bytes
long; a notice carries tag 0 and begins with its dropped-notice count, a reply the tag of its request; a kind byte has at most one class. -/
def Obligations.PortFrameReadsBack : Prop :=
  (∀ (kind tag : Byte) (payload : List Byte), payload.length ≤ 120 →
    readPortFrame ((portFrame kind tag payload).drop 1) = .received kind tag payload) ∧
  (∀ code tag : Byte, (refusalFrame code tag).length = 6) ∧
  (∀ (d : Nat) (n : Notice), (OutFrame.notice d n).head = ⟨.notice, 0⟩ ∧ (OutFrame.notice d n).droppedCount = some d) ∧
  (∀ (tag : Tag) (o : ReplyOutcome), (OutFrame.reply tag o).head = ⟨.reply, tag⟩) ∧
  (∀ kind : Byte, frameClass kind =
    if 1 ≤ kind.toNat ∧ kind.toNat ≤ 63 then some .request
    else if 64 ≤ kind.toNat ∧ kind.toNat ≤ 127 then some .reply
    else if 128 ≤ kind.toNat ∧ kind.toNat ≤ 191 then some .notice else none)
end

