-- ==== Sys2Proof/Laws/CallLine.lean ====
section
/-! SUPPORT. The call line makes no order: when it works, and at the end of every event, each order in the queue is one that stood there before, with its origin and its tag. -/

namespace Sys2Proof.Machine

/-- Every order of the queue after stood in it before, with its id, its origin and its tag. -/
def OrdersFrom (s t : State) : Prop :=
  ∀ o ∈ t.calls.queue, ∃ x ∈ s.calls.queue, x.id = o.id ∧ x.origin = o.origin ∧ x.tag = o.tag

theorem OrdersFrom.refl (s : State) : OrdersFrom s s := fun o h => ⟨o, h, rfl, rfl, rfl⟩

theorem OrdersFrom.trans {a b c : State} (h : OrdersFrom a b) (k : OrdersFrom b c) : OrdersFrom a c := by
  intro o ho
  obtain ⟨x, hx, i1, g1, t1⟩ := k o ho
  obtain ⟨y, hy, i2, g2, t2⟩ := h x hx
  exact ⟨y, hy, i2.trans i1, g2.trans g1, t2.trans t1⟩

theorem OrdersFrom.same {s t u : State} (h : OrdersFrom s t) (e : u.calls = t.calls) : OrdersFrom s u := by
  unfold OrdersFrom; rw [e]; exact h

/-! ## What leaves the Call Controller alone -/

theorem calls_placeAlways (p : Port) (n : Notice) (s : State) : (placeAlways p n s).calls = s.calls := by
  unfold placeAlways State.mapPort; split <;> rfl

theorem calls_placeOn (p : Port) (f : Family) (n : Notice) (s : State) : (placeOn p f n s).calls = s.calls := by
  unfold placeOn; split
  · exact calls_placeAlways _ _ _
  · rfl

theorem calls_notify (f : Family) (n : Notice) (s : State) : (notify f n s).calls = s.calls := by
  unfold notify; rw [calls_placeOn, calls_placeOn]

theorem calls_curtainNotice (n : Notice) (s : State) : (curtainNotice n s).calls = s.calls := calls_notify _ _ _

theorem calls_callNotice (o : CallOrigin) (n : Notice) (s : State) : (callNotice o n s).calls = s.calls := by
  unfold callNotice; split <;> first | exact calls_placeOn _ _ _ _ | exact calls_notify _ _ _

theorem calls_noticeClearanceEnd (w : ClearanceName) (was : Option Nat) (c : PhaseChange) (s : State) :
    (noticeClearanceEnd w was c s).calls = s.calls := by
  unfold noticeClearanceEnd notifyClearance; split
  · exact calls_notify _ _ _
  · rfl

theorem calls_noticeCountdownClear (w : CountdownName) (b : Bool) (was : Option Nat) (s : State) :
    (noticeCountdownClear w b was s).calls = s.calls := by
  unfold noticeCountdownClear notifyCountdown; split
  · exact calls_notify _ _ _
  · rfl

theorem calls_noticeCountdownStart (w : CountdownName) (n : Option Nat) (s : State) : (noticeCountdownStart w n s).calls = s.calls := by
  unfold noticeCountdownStart notifyCountdown; split
  · rfl
  · dsimp only
    split
    · rw [calls_notify, calls_notify]
    · rw [calls_notify]

theorem calls_enterRecord (c : PhaseChange) (s : State) : (enterRecord c s).calls = s.calls := by
  unfold enterRecord; dsimp only
  rw [calls_noticeCountdownStart, calls_noticeCountdownStart, calls_noticeCountdownClear, calls_noticeCountdownClear,
    calls_noticeClearanceEnd, calls_noticeClearanceEnd, calls_notify]

theorem calls_curtainDeparture (s : State) : (curtainDeparture s).calls = s.calls := by
  unfold curtainDeparture; split
  · exact calls_enterRecord _ _
  · rfl

theorem calls_judgeWarning (a b : CurtainState) (s : State) : (judgeWarning a b s).calls = s.calls := by
  unfold judgeWarning; split
  · rfl
  · split <;> rfl

theorem calls_shiftCurtain (n : CurtainState) (s : State) : (shiftCurtain n s).calls = s.calls := by
  unfold shiftCurtain; dsimp only; rw [calls_judgeWarning]; split
  · exact calls_curtainDeparture _
  · rfl

theorem calls_abandonFields (r : AbandonReason) (s : State) : (abandonFields r s).calls = s.calls := by
  unfold abandonFields; split
  · rfl
  · exact calls_curtainNotice _ _

theorem calls_judgeDisplayLowering (s : State) : (judgeDisplayLowering s).calls = s.calls := by
  unfold judgeDisplayLowering enterCurtain; dsimp only
  split
  · exact calls_abandonFields _ _
  split
  · exact calls_abandonFields _ _
  split
  · exact calls_abandonFields _ _
  split
  · exact calls_abandonFields _ _
  split
  · rfl
  · rw [calls_curtainNotice]; exact calls_shiftCurtain _ _

theorem calls_handOutcome (g : CallOrigin) (t : Nat) (out : CallOutcome) (s : State) : (handOutcome g t out s).calls = s.calls := by
  unfold handOutcome announcementOutcome; dsimp only
  split
  · rfl
  · split
    · split
      · exact calls_judgeDisplayLowering _
      · rfl
    · rfl
  all_goals rfl

theorem calls_onField (f : Field → Field) (s : State) : (onField f s).calls = s.calls := rfl

/-! ## The line -/

theorem endOrder_queue (out : CallOutcome) (o : Order) (s : State) :
    (endOrder out o s).calls.queue = s.calls.queue.filter (fun x => x.id != o.id) := by
  unfold endOrder outcomeNotice; dsimp only
  rw [calls_callNotice, calls_handOutcome]
  split <;> rfl

theorem endOrder_from (out : CallOutcome) (o : Order) (s : State) : OrdersFrom s (endOrder out o s) := by
  intro x hx
  rw [endOrder_queue] at hx
  exact ⟨x, (List.mem_filter.mp hx).1, rfl, rfl, rfl⟩

theorem change_from (id : Nat) (f : Order → Order) (u : Calls) (hf : ∀ x, (f x).id = x.id ∧ (f x).origin = x.origin ∧ (f x).tag = x.tag) :
    ∀ o ∈ (u.change id f).queue, ∃ x ∈ u.queue, x.id = o.id ∧ x.origin = o.origin ∧ x.tag = o.tag := by
  intro o ho
  obtain ⟨x, hx, e⟩ := List.mem_map.mp ho
  refine ⟨x, hx, ?_⟩
  subst e
  split
  · exact ⟨(hf x).1.symm, (hf x).2.1.symm, (hf x).2.2.symm⟩
  · exact ⟨rfl, rfl, rfl⟩

theorem arbitrateFuel_from (k : Nat) : ∀ s : State, OrdersFrom s (arbitrateFuel k s) := by
  induction k with
  | zero => exact fun s => .refl s
  | succ k ih =>
    intro s
    unfold arbitrateFuel
    split
    · exact .refl s
    · split
      · exact .refl s
      · dsimp only
        split
        · exact (endOrder_from _ _ _).trans (ih _)
        · split
          · refine OrdersFrom.same ?_ (calls_notify _ _ _)
            exact change_from _ _ s.calls (fun x => ⟨rfl, rfl, rfl⟩)
          · exact .refl s

theorem arbitrate_from (s : State) : OrdersFrom s (arbitrate s) := arbitrateFuel_from _ s

theorem withdrawOrder_from (o : Order) (s : State) : OrdersFrom s (withdrawOrder o s) := by
  unfold withdrawOrder; split
  · exact change_from _ _ s.calls (fun x => ⟨rfl, rfl, rfl⟩)
  · exact endOrder_from _ _ _

theorem withdrawFold_from (ids : List Nat) : ∀ s : State, OrdersFrom s (ids.foldl (fun s id => match s.calls.order id with
    | some o => withdrawOrder o s
    | none => s) s) := by
  induction ids with
  | nil => exact fun s => .refl s
  | cons a l ih =>
    intro s
    refine OrdersFrom.trans ?_ (ih _)
    dsimp only
    split
    · exact withdrawOrder_from _ _
    · exact .refl s

theorem withdrawIds_from (ids : List Nat) (s : State) : OrdersFrom s (withdrawIds ids s) := by
  unfold withdrawIds; dsimp only
  split
  · exact (withdrawFold_from ids s).trans (arbitrate_from _)
  · exact withdrawFold_from ids s

theorem serveRoom_from (k : Nat) : ∀ s : State, OrdersFrom s (serveRoom k s) := by
  induction k with
  | zero => exact fun s => .refl s
  | succ k ih =>
    intro s
    unfold serveRoom
    split
    · refine OrdersFrom.trans ?_ (ih _)
      exact (OrdersFrom.same (.refl s) rfl).trans (arbitrate_from _)
    · exact .refl s

theorem takeWork_calls (s : State) : (takeWork s).calls = s.calls := by
  unfold takeWork startItem
  repeat' first | rfl | split

theorem settle_from (s : State) : OrdersFrom s (settle s) := by
  unfold settle transmit; dsimp only
  refine OrdersFrom.same (serveRoom_from 8 s) ?_
  rw [takeWork_calls]

end Sys2Proof.Machine
end

