-- ==== Sys2Proof/Laws/KeepsBase.lean ====
section
/-! SUPPORT. What the blocks' functions keep: `Keeps s t` says that t came from s with the queue and the reset line untouched, the
sound records still sound, and the alarm list's stages as they were. One lemma per function, in the form that backward chaining uses. -/

namespace Sys2Proof.Machine

/-- What every function outside the Alarm Unit and the Sequencer's own transitions keeps. -/
structure Keeps (s t : State) : Prop where
  pending : t.pending = s.pending
  held : t.resetHeld = s.resetHeld
  sup : s.sup.sound → t.sup.sound
  ports : s.ports.bounded → t.ports.bounded
  curtain : s.curtain.sound → t.curtain.sound
  showUp : s.curtain.sound → s.showSafe → t.showSafe
  evac : s.perf.phase = .evacuation → t.perf.phase = .evacuation
  stages : t.alarm.entries.map AlarmEntry.stage = s.alarm.entries.map AlarmEntry.stage
  relay : t.alarm.relay = s.alarm.relay
  intakes : ∀ p, (t.port p).intake = (s.port p).intake

theorem Keeps.refl (s : State) : Keeps s s := ⟨rfl, rfl, id, id, id, fun _ h => h, id, rfl, rfl, fun _ => rfl⟩

theorem Keeps.trans {a b c : State} (h : Keeps a b) (k : Keeps b c) : Keeps a c :=
  ⟨k.pending.trans h.pending, k.held.trans h.held, fun x => k.sup (h.sup x), fun x => k.ports (h.ports x),
    fun x => k.curtain (h.curtain x), fun x y => k.showUp (h.curtain x) (h.showUp x y), fun x => k.evac (h.evac x),
    k.stages.trans h.stages, k.relay.trans h.relay, fun p => (k.intakes p).trans (h.intakes p)⟩

/-- A change of nothing that is kept. -/
theorem Keeps.same {s0 s t : State} (h : Keeps s0 s) (e1 : t.pending = s.pending) (e2 : t.resetHeld = s.resetHeld)
    (e3 : t.sup = s.sup) (e4 : t.ports = s.ports) (e5 : t.curtain = s.curtain) (e6 : t.perf.phase = s.perf.phase)
    (e7 : t.alarm = s.alarm) : Keeps s0 t :=
  h.trans ⟨e1, e2, fun x => e3 ▸ x, fun x => e4 ▸ x, fun x => e5 ▸ x,
    fun _ x => by unfold State.showSafe at *; rw [e5, e6]; exact x, fun x => e6.trans x, by rw [e7], by rw [e7],
    fun p => by cases p <;> simp only [State.port, e4]⟩

/-- A change of the Port Units alone. -/
theorem Keeps.ofPorts {s0 s : State} (q : Ports) (h : Keeps s0 s) (hq : s.ports.bounded → q.bounded)
    (h1 : q.stage.intake = s.ports.stage.intake) (h2 : q.front.intake = s.ports.front.intake) : Keeps s0 { s with ports := q } :=
  h.trans ⟨rfl, rfl, id, hq, id, fun _ h => h, id, rfl, rfl, fun p => by cases p; exacts [h1, h2]⟩

/-- A change of Supervision alone. -/
theorem Keeps.ofSup {s0 s : State} (u : Supervision) (h : Keeps s0 s) (hu : s0.sup.sound → s.sup.sound → u.sound) :
    Keeps s0 { s with sup := u } :=
  ⟨h.pending, h.held, fun x => hu x (h.sup x), h.ports, h.curtain, h.showUp, h.evac, h.stages, h.relay, h.intakes⟩

/-- A change of the curtain record that keeps its state, its outputs and whether it is resolved. -/
theorem Keeps.mapCurtain {s0 s : State} (f : Curtain → Curtain) (h : Keeps s0 s) (e1 : (f s.curtain).state = s.curtain.state)
    (e2 : (f s.curtain).hold = s.curtain.hold) (e3 : (f s.curtain).driveDown = s.curtain.driveDown)
    (e4 : (f s.curtain).driveUp = s.curtain.driveUp) (e5 : (f s.curtain).resolved = s.curtain.resolved) :
    Keeps s0 (mapCurtain f s) :=
  h.trans ⟨rfl, rfl, id, id, fun x => by unfold Curtain.sound Machine.mapCurtain at *; dsimp only; rw [e1, e2, e3, e4, e5]; exact x,
    fun _ x => by unfold State.showSafe Machine.mapCurtain at *; dsimp only; rw [e1]; exact x, id, rfl, rfl, fun _ => rfl⟩

/-- A change of the Alarm Unit that keeps the stages and the relay. -/
theorem Keeps.ofAlarm {s0 s : State} (u : AlarmUnit) (h : Keeps s0 s)
    (e1 : u.entries.map AlarmEntry.stage = s.alarm.entries.map AlarmEntry.stage) (e2 : u.relay = s.alarm.relay) :
    Keeps s0 { s with alarm := u } :=
  h.trans ⟨rfl, rfl, id, id, id, fun _ h => h, id, e1, e2, fun _ => rfl⟩

theorem Keeps.foldl {s0 : State} {α : Type} (g : State → α → State) (hg : ∀ (s0 s : State) (a : α), Keeps s0 s → Keeps s0 (g s a)) (l : List α) :
    ∀ {s : State}, Keeps s0 s → Keeps s0 (l.foldl g s) := by
  induction l with
  | nil => intro s h; exact h
  | cons a l ih => intro s h; exact ih (hg _ _ _ h)

theorem Keeps.mapCalls {s0 s : State} (f : Calls → Calls) (h : Keeps s0 s) : Keeps s0 (mapCalls f s) := h.same rfl rfl rfl rfl rfl rfl rfl
theorem Keeps.mapLoop {s0 s : State} (f : Loop → Loop) (h : Keeps s0 s) : Keeps s0 (mapLoop f s) := h.same rfl rfl rfl rfl rfl rfl rfl
theorem Keeps.mapLines {s0 s : State} (f : Lines → Lines) (h : Keeps s0 s) : Keeps s0 (mapLines f s) := h.same rfl rfl rfl rfl rfl rfl rfl
theorem Keeps.mapScanner {s0 s : State} (f : Scanner → Scanner) (h : Keeps s0 s) : Keeps s0 (mapScanner f s) := h.same rfl rfl rfl rfl rfl rfl rfl
theorem Keeps.mapChannel {s0 s : State} (n : Nat) (f : ChannelRecord → ChannelRecord) (h : Keeps s0 s) : Keeps s0 (mapChannel n f s) := h.mapScanner _
theorem Keeps.mapRow {s0 s : State} (a : Nat) (f : UnitRow → UnitRow) (h : Keeps s0 s) : Keeps s0 (mapRow a f s) := h.mapLoop _
theorem Keeps.onField {s0 s : State} (f : Field → Field) (h : Keeps s0 s) : Keeps s0 (onField f s) := h.same rfl rfl rfl rfl rfl rfl rfl
theorem Keeps.mapClock {s0 s : State} (f : Clock → Clock) (h : Keeps s0 s) : Keeps s0 (mapClock f s) := h.same rfl rfl rfl rfl rfl rfl rfl
theorem Keeps.spend {s0 s : State} (h : Keeps s0 s) : Keeps s0 (spend s) := h.same rfl rfl rfl rfl rfl rfl rfl
theorem Keeps.markChanged {s0 s : State} (n : SectionName) (h : Keeps s0 s) : Keeps s0 (markChanged n s) := h.same rfl rfl rfl rfl rfl rfl rfl
theorem Keeps.mapStoreRow {s0 s : State} (n : SectionName) (f : StoreRow → StoreRow) (h : Keeps s0 s) : Keeps s0 (mapStoreRow n f s) := h.same rfl rfl rfl rfl rfl rfl rfl
theorem Keeps.setOperation {s0 s : State} (o : Option StoreOperation) (h : Keeps s0 s) : Keeps s0 (setOperation o s) := h.same rfl rfl rfl rfl rfl rfl rfl

/-! ## The Port Units -/

/-- The replies in a list of frames. -/
def repliesIn (q : List OutFrame) : Nat := (q.filter (fun f => !f.isNotice)).length

/-- The notices in a list of frames. -/
def noticesIn (q : List OutFrame) : Nat := (q.filter OutFrame.isNotice).length

theorem repliesIn_append (a b : List OutFrame) : repliesIn (a ++ b) = repliesIn a + repliesIn b := by
  unfold repliesIn; rw [List.filter_append, List.length_append]

theorem noticesIn_append (a b : List OutFrame) : noticesIn (a ++ b) = noticesIn a + noticesIn b := by
  unfold noticesIn; rw [List.filter_append, List.length_append]

theorem repliesIn_reply (tag : Tag) (o : ReplyOutcome) (q : List OutFrame) : repliesIn (.reply tag o :: q) = repliesIn q + 1 := rfl
theorem repliesIn_notice (n : Nat) (x : Notice) (q : List OutFrame) : repliesIn (.notice n x :: q) = repliesIn q := rfl
theorem noticesIn_reply (tag : Tag) (o : ReplyOutcome) (q : List OutFrame) : noticesIn (.reply tag o :: q) = noticesIn q := rfl
theorem noticesIn_notice (n : Nat) (x : Notice) (q : List OutFrame) : noticesIn (.notice n x :: q) = noticesIn q + 1 := rfl
theorem repliesIn_nil : repliesIn [] = 0 := rfl
theorem noticesIn_nil : noticesIn [] = 0 := rfl

theorem repliesIn_noticesIn (q : List OutFrame) : noticesIn q + repliesIn q = q.length := by
  induction q with
  | nil => rfl
  | cons x l ih =>
    cases x
    · rw [repliesIn_reply, noticesIn_reply, List.length_cons]; omega
    · rw [repliesIn_notice, noticesIn_notice, List.length_cons]; omega

/-- The requests of an intake that stand at REPLY QUEUED. -/
def queuedIn (l : List IntakeEntry) : Nat := (l.filter (fun e => e.step == .replyQueued)).length

theorem queuedIn_cons (e : IntakeEntry) (l : List IntakeEntry) :
    queuedIn (e :: l) = (if e.step = .replyQueued then 1 else 0) + queuedIn l := by
  unfold queuedIn
  rw [List.filter_cons]
  by_cases h : e.step = .replyQueued
  · simp [h, Nat.add_comm]
  · simp [h]

theorem bounded_iff (u : PortUnit) : u.bounded ↔ u.intake.length ≤ 4 ∧ noticesIn u.queue ≤ 12 ∧
    repliesIn u.queue ≤ queuedIn u.intake ∧ u.refusals.length ≤ 24 := Iff.rfl

/-- R184: a bounded output queue holds at most 16 frames. -/
theorem bounded_queue (u : PortUnit) (h : u.bounded) : u.queue.length ≤ 16 := by
  have h1 := repliesIn_noticesIn u.queue
  have h2 : queuedIn u.intake ≤ u.intake.length := List.length_filter_le _ _
  obtain ⟨a, b, c, _⟩ := (bounded_iff u).1 h
  omega

theorem placeNotice_bounded (n : Notice) (u : PortUnit) (h : u.bounded) : (u.placeNotice n).bounded := by
  unfold PortUnit.placeNotice
  split
  · exact h
  · rename_i hc
    obtain ⟨h1, _, h3, h4⟩ := (bounded_iff u).1 h
    have hc : ¬ 12 ≤ noticesIn u.queue := hc
    refine (bounded_iff _).2 ⟨h1, ?_, ?_, h4⟩ <;> dsimp only
    · rw [noticesIn_append, noticesIn_notice, noticesIn_nil]; omega
    · rw [repliesIn_append, repliesIn_notice, repliesIn_nil]; exact h3

theorem answerOwn_length (l : List IntakeEntry) : (answerOwn l).1.length = l.length := by
  induction l with
  | nil => rfl
  | cons e l ih => unfold answerOwn; split <;> simp [ih]

theorem answerOwn_noNotice (l : List IntakeEntry) : noticesIn (answerOwn l).2 = 0 := by
  induction l with
  | nil => rfl
  | cons e l ih => unfold answerOwn; split <;> first | exact ih | rfl

theorem answerOwn_queued (l : List IntakeEntry) : repliesIn (answerOwn l).2 + queuedIn l = queuedIn (answerOwn l).1 := by
  induction l with
  | nil => rfl
  | cons e l ih =>
    cases hs : e.step <;> cases ha : e.answer <;> simp [answerOwn, hs, ha, queuedIn_cons, repliesIn_reply, repliesIn_nil] <;> omega

theorem portAnswerOwn_bounded (u : PortUnit) (h : u.bounded) : u.answerOwn.bounded := by
  obtain ⟨h1, h2, h3, h4⟩ := (bounded_iff u).1 h
  unfold PortUnit.answerOwn
  refine (bounded_iff _).2 ⟨by simpa [answerOwn_length] using h1, ?_, ?_, h4⟩ <;> dsimp only
  · rw [noticesIn_append, answerOwn_noNotice]; exact h2
  · rw [repliesIn_append]; have := answerOwn_queued u.intake; omega

theorem markAnswered_length (tag : Tag) (l : List IntakeEntry) : (markAnswered tag l).length = l.length := by
  induction l with
  | nil => rfl
  | cons e l ih => unfold markAnswered; split <;> simp [ih]

theorem markAnswered_queued (tag : Tag) (l : List IntakeEntry) (h : (l.any fun e => e.step == .withOwner && e.tag == tag) = true) :
    queuedIn (markAnswered tag l) = queuedIn l + 1 := by
  induction l with
  | nil => cases h
  | cons e l ih =>
    unfold markAnswered
    split
    · rename_i hc; simp [queuedIn_cons, hc.1]; omega
    · rename_i hc
      have hl : (l.any fun e => e.step == .withOwner && e.tag == tag) = true := by
        rw [List.any_cons, Bool.or_eq_true] at h
        rcases h with h | h
        · simp only [Bool.and_eq_true, beq_iff_eq] at h; exact absurd h hc
        · exact h
      rw [queuedIn_cons, queuedIn_cons, ih hl]; omega

theorem placeReply_bounded (tag : Tag) (o : ReplyOutcome) (u : PortUnit) (h : u.bounded) : (u.placeReply tag o).bounded := by
  unfold PortUnit.placeReply
  split
  · rename_i ho
    obtain ⟨h1, h2, h3, h4⟩ := (bounded_iff u).1 h
    refine portAnswerOwn_bounded _ ((bounded_iff _).2 ⟨by simpa [markAnswered_length] using h1, ?_, ?_, h4⟩) <;> dsimp only
    · rw [noticesIn_append]; exact h2
    · rw [repliesIn_append, markAnswered_queued tag _ ho]; exact Nat.succ_le_succ h3
  · exact h

theorem raiseFlow_bounded (n : FlowNotice) (u : PortUnit) (h : u.bounded) : (u.raiseFlow n).bounded := by
  unfold PortUnit.raiseFlow
  repeat' split
  all_goals exact h

theorem judgeFlow_bounded (u : PortUnit) (h : u.bounded) : u.judgeFlow.bounded := by
  unfold PortUnit.judgeFlow
  repeat' split
  all_goals first | exact raiseFlow_bounded _ _ h | exact h

theorem queuedIn_append (a b : List IntakeEntry) : queuedIn (a ++ b) = queuedIn a + queuedIn b := by
  unfold queuedIn; rw [List.filter_append, List.length_append]

theorem addRefusal_length (tag : Tag) (l : List Tag) (h : l.length ≤ 24) : (addRefusal tag l).length ≤ 24 := by
  unfold addRefusal
  split
  · rw [List.length_append, List.length_singleton]; omega
  · exact h

theorem receive_bounded (j : Option Reason) (f : PortFrame) (u : PortUnit) (h : u.bounded) : (u.receive j f).bounded := by
  obtain ⟨h1, h2, h3, h4⟩ := (bounded_iff u).1 h
  unfold PortUnit.receive; dsimp only
  split
  · exact (bounded_iff _).2 ⟨h1, h2, h3, addRefusal_length _ _ h4⟩
  · rename_i hc
    refine judgeFlow_bounded _ (portAnswerOwn_bounded _ ((bounded_iff _).2 ⟨?_, h2, ?_, h4⟩)) <;> dsimp only
    · rw [List.length_append, List.length_singleton]; omega
    · rw [queuedIn_append]; exact h3.trans (Nat.le_add_right _ _)

theorem passOn_length (l : List IntakeEntry) : (passOn l).length = l.length := by
  induction l with
  | nil => rfl
  | cons e l ih => unfold passOn; split <;> simp [ih]

theorem passOn_queued (l : List IntakeEntry) : queuedIn (passOn l) = queuedIn l := by
  induction l with
  | nil => rfl
  | cons e l ih =>
    unfold passOn
    split <;> rename_i hs
    · rw [queuedIn_cons, queuedIn_cons, ih]
    · split <;> simp [queuedIn_cons, hs]
    · rfl

theorem passOn_bounded (u : PortUnit) (h : u.bounded) : ({ u with intake := passOn u.intake } : PortUnit).bounded := by
  obtain ⟨h1, h2, h3, h4⟩ := (bounded_iff u).1 h
  refine (bounded_iff _).2 ⟨?_, h2, ?_, h4⟩ <;> dsimp only
  · rw [passOn_length]; exact h1
  · rw [passOn_queued]; exact h3

theorem pass_bounded (tag : Tag) (k : RequestKind) (u : PortUnit) (h : u.bounded) : (u.pass tag k).bounded := by
  unfold PortUnit.pass
  split
  · exact passOn_bounded u h
  · exact h

theorem bring_bounded (fitted : Bool) (p : Port) (tag : Tag) (k : RequestKind) (u : PortUnit) (h : u.bounded) :
    (u.bring fitted p tag k).bounded := by
  unfold PortUnit.bring
  split
  · exact h
  · split
    · exact pass_bounded tag k u h
    · exact pass_bounded tag k _ (receive_bounded _ _ u h)

theorem transmit_bounded (u : PortUnit) (h : u.bounded) : u.transmit.bounded := by
  unfold PortUnit.transmit
  repeat' split
  all_goals exact h

theorem transmit_intake (u : PortUnit) : u.transmit.intake = u.intake := by
  unfold PortUnit.transmit
  repeat' split
  all_goals rfl

theorem placeNotice_intake (n : Notice) (u : PortUnit) : (u.placeNotice n).intake = u.intake := by
  unfold PortUnit.placeNotice
  split <;> rfl

theorem Keeps.mapPort {s0 s : State} (p : Port) (f : PortUnit → PortUnit) (hf : ∀ u : PortUnit, u.bounded → (f u).bounded)
    (hi : ∀ u : PortUnit, (f u).intake = u.intake) (h : Keeps s0 s) : Keeps s0 (s.mapPort p f) := by
  cases p
  · exact h.ofPorts _ (fun x => ⟨hf _ x.1, x.2⟩) (hi _) rfl
  · exact h.ofPorts _ (fun x => ⟨x.1, hf _ x.2⟩) rfl (hi _)

theorem Keeps.placeAlways {s0 s : State} (p : Port) (n : Notice) (h : Keeps s0 s) : Keeps s0 (placeAlways p n s) := by
  unfold Machine.placeAlways
  split
  · exact h.mapPort p _ (placeNotice_bounded n) (placeNotice_intake n)
  · exact h

theorem Keeps.placeOn {s0 s : State} (p : Port) (f : Family) (n : Notice) (h : Keeps s0 s) : Keeps s0 (placeOn p f n s) := by
  unfold Machine.placeOn
  split
  · exact h.placeAlways p n
  · exact h

theorem Keeps.notify {s0 s : State} (f : Family) (n : Notice) (h : Keeps s0 s) : Keeps s0 (notify f n s) := (h.placeOn _ _ _).placeOn _ _ _
theorem Keeps.notifyAlways {s0 s : State} (n : Notice) (h : Keeps s0 s) : Keeps s0 (notifyAlways n s) := (h.placeAlways _ _).placeAlways _ _
theorem Keeps.transmit {s0 s : State} (h : Keeps s0 s) : Keeps s0 (transmit s) :=
  h.ofPorts _ (fun x => ⟨transmit_bounded _ x.1, transmit_bounded _ x.2⟩) (transmit_intake _) (transmit_intake _)

/-! ## Supervision -/

theorem isOf_pair (e : FaultEntry) (src : FaultSource) (k : FaultKind) : e.isOf src k = true ↔ e.pair = (src, k) := by
  simp [FaultEntry.isOf, FaultEntry.pair]

theorem judge_sound (u : Supervision) (h1 : u.entries.length ≤ 32) (h2 : u.lost ≤ 255) (h3 : (u.entries.map FaultEntry.pair).Nodup) :
    u.judge.sound := ⟨rfl, h1, h2, h3⟩

theorem change_sound (u : Supervision) (src : FaultSource) (k : FaultKind) (e' : FaultEntry) (he : e'.pair = (src, k)) (h : u.sound) :
    (u.change src k (fun _ => e')).judge.sound := by
  have hp : ((u.change src k (fun _ => e')).entries.map FaultEntry.pair) = u.entries.map FaultEntry.pair := by
    simp only [Supervision.change, List.map_map]
    refine List.map_congr_left fun x _ => ?_
    simp only [Function.comp]
    split
    · rename_i hx; rw [he, (isOf_pair x src k).1 hx]
    · rfl
  exact judge_sound _ (by simpa [Supervision.change] using h.2.1) h.2.2.1 (hp ▸ h.2.2.2)

theorem remove_sound (u : Supervision) (src : FaultSource) (k : FaultKind) (h : u.sound) : (u.remove src k).judge.sound :=
  judge_sound _ ((List.length_filter_le _ _).trans h.2.1) h.2.2.1
    (h.2.2.2.sublist ((List.filter_sublist).map _))

theorem find_pair {u : Supervision} {src : FaultSource} {k : FaultKind} {e : FaultEntry} (h : u.find src k = some e) : e.pair = (src, k) :=
  by
  have hf := List.find?_some h
  exact (isOf_pair e src k).1 hf

theorem append_sound (u : Supervision) (e : FaultEntry) (h : u.sound) (hl : u.entries.length < 32)
    (hn : u.find e.source e.kind = none) : ({ u with entries := u.entries ++ [e] } : Supervision).judge.sound := by
  refine judge_sound _ (by simpa using hl) h.2.2.1 ?_
  simp only [List.map_append, List.map_cons, List.map_nil]
  refine List.Nodup.append h.2.2.2 (by simp) ?_
  intro p hp hq
  simp only [List.mem_singleton] at hq
  obtain ⟨x, hx, hxp⟩ := List.mem_map.1 hp
  exact absurd ((isOf_pair x e.source e.kind).2 (by rw [hxp, hq]; rfl)) (by simpa using List.find?_eq_none.1 hn x hx)

theorem Keeps.faultNotice {s0 s : State} (ev : FaultEvent) (e : FaultEntry) (r : Bool) (b : Option Port) (h : Keeps s0 s) :
    Keeps s0 (faultNotice ev e r b s) := h.notify _ _

theorem Keeps.setSup {s0 s : State} (u : Supervision) (h : Keeps s0 s) (hu : s0.sup.sound → s.sup.sound → u.judge.sound) :
    Keeps s0 (setSup u s) :=
  h.ofSup _ hu

theorem notify_sup (f : Family) (n : Notice) (s : State) : (notify f n s).sup = s.sup := by
  simp only [notify, placeOn, placeAlways, State.mapPort]; repeat' split
  all_goals rfl

theorem Keeps.newFault {s0 s : State} (src : FaultSource) (k : FaultKind) (h : Keeps s0 s)
    (hl : s0.sup.sound → s.sup.entries.length < 32) (hn : s.sup.find src k = none) : Keeps s0 (newFault src k s) := by
  unfold Machine.newFault; dsimp only
  exact (h.setSup _ fun x y => append_sound _ _ y (hl x) hn).faultNotice _ _ _ _

theorem Keeps.displaceFault {s0 s : State} (e : FaultEntry) (h : Keeps s0 s) : Keeps s0 (displaceFault e s) := by
  unfold Machine.displaceFault
  exact (h.setSup _ fun _ x => remove_sound _ _ _ x).faultNotice _ _ _ _

theorem Keeps.loseFault {s0 s : State} (src : FaultSource) (k : FaultKind) (h : Keeps s0 s) : Keeps s0 (loseFault src k s) := by
  unfold Machine.loseFault; dsimp only
  exact (h.setSup _ fun _ x => judge_sound { s.sup with lost := satSucc 255 s.sup.lost } x.2.1 (satSucc_le _ _) x.2.2.2).notify _ _

theorem displaceFault_sup (e : FaultEntry) (s : State) : (displaceFault e s).sup = (s.sup.remove e.source e.kind).judge := by
  unfold Machine.displaceFault Machine.faultNotice; rw [notify_sup]; rfl

theorem filter_length_lt {α : Type} (p : α → Bool) (l : List α) (a : α) (ha : a ∈ l) (hp : p a = false) : (l.filter p).length < l.length := by
  induction l with
  | nil => cases ha
  | cons x l ih =>
    rcases List.mem_cons.1 ha with rfl | hm
    · rw [List.filter_cons_of_neg (by simp [hp]), List.length_cons]
      exact Nat.lt_succ_of_le (List.length_filter_le _ _)
    · have := ih hm
      by_cases hx : p x
      · rw [List.filter_cons_of_pos hx, List.length_cons, List.length_cons]; omega
      · rw [List.filter_cons_of_neg hx, List.length_cons]; omega

theorem Keeps.raiseFault {s0 s : State} (src : FaultSource) (k : FaultKind) (h : Keeps s0 s) : Keeps s0 (raiseFault src k s) := by
  unfold Machine.raiseFault
  split
  · rename_i hn
    split
    · rename_i hl; exact h.newFault _ _ (fun _ => hl) hn
    · split
      · rename_i e he
        refine (h.displaceFault e).newFault _ _ (fun x => ?_) ?_
        · rw [displaceFault_sup]
          have hm := List.mem_of_find?_eq_some he
          have := filter_length_lt (fun x => !x.isOf e.source e.kind) s.sup.entries e hm (by simp [FaultEntry.isOf])
          have h32 := (h.sup x).2.1
          simp only [Supervision.judge, Supervision.remove]
          omega
        · rw [displaceFault_sup]
          refine List.find?_eq_none.2 fun x hx => ?_
          exact List.find?_eq_none.1 hn x (List.mem_of_mem_filter hx)
      · exact h.loseFault _ _
  · rename_i e he
    have hp := find_pair he
    split
    · dsimp only; exact (h.setSup _ fun _ x => change_sound _ _ _ _ (by exact hp) x).faultNotice _ _ _ _
    · dsimp only; exact (h.setSup _ fun _ x => change_sound _ _ _ _ (by exact hp) x).faultNotice _ _ _ _

theorem Keeps.clearFault {s0 s : State} (src : FaultSource) (k : FaultKind) (h : Keeps s0 s) : Keeps s0 (clearFault src k s) := by
  unfold Machine.clearFault
  split
  · exact h
  · rename_i e he
    have hp := find_pair he
    split
    · exact h
    · dsimp only
      split
      · exact (h.setSup _ fun _ x => remove_sound _ _ _ x).faultNotice _ _ _ _
      · exact (h.setSup _ fun _ x => change_sound _ _ _ _ (by exact hp) x).faultNotice _ _ _ _

/-! ## Replies -/

/-- A request that is with its owner is still so, and is still owed its reply. -/
theorem Keeps.owes {s t : State} (h : Keeps s t) (p : Port) (tag : Tag) : (t.port p).owes tag = (s.port p).owes tag := by
  unfold PortUnit.owes; rw [h.intakes]

theorem Keeps.owns {s t : State} (h : Keeps s t) (p : Port) (tag : Tag) (k : RequestKind) : t.owns p tag k = s.owns p tag k := by
  unfold State.owns PortUnit.owned; rw [h.intakes]

/-- A request that is with its owner is owed its reply. -/
theorem owes_of_owns {s : State} {p : Port} {tag : Tag} {k : RequestKind} (h : s.owns p tag k = true) : (s.port p).owes tag = true := by
  unfold State.owns PortUnit.owned at h
  unfold PortUnit.owes
  obtain ⟨e, he, hk⟩ := List.any_eq_true.1 h
  refine List.any_eq_true.2 ⟨e, he, ?_⟩
  simp only [IntakeEntry.isFor, Bool.and_eq_true] at hk ⊢
  exact ⟨hk.2, hk.1.1⟩

/-- R180: a request that is with its owner is brought nowhere. -/
theorem bring_of_owns {s : State} {p : Port} {tag : Tag} {k : RequestKind} (h : s.owns p tag k = true) : s.bring p tag k = s := by
  have hb : PortUnit.bring s.settings.ports.frontFitted p tag k (s.port p) = s.port p := by
    unfold PortUnit.bring; exact if_pos h
  unfold State.bring State.mapPort
  rw [hb]
  cases p <;> rfl

end Sys2Proof.Machine
end

