-- ==== Sys2Proof/Laws/KeepsBlocks.lean ====
section
/-! SUPPORT. `Keeps` for every function from the Sequencer's notices to the Scanner's claims, one lemma each. -/

namespace Sys2Proof.Machine

theorem notify_perf (f : Family) (n : Notice) (s : State) : (notify f n s).perf = s.perf := by
  simp only [notify, placeOn, placeAlways, State.mapPort]; repeat' split
  all_goals rfl

theorem Keeps.notifyClearance {s0 s : State} (w : ClearanceName) (ev : ClearanceEvent) (h : Keeps s0 s) : Keeps s0 (Machine.notifyClearance w ev s) := by
  unfold Machine.notifyClearance; try dsimp only
  repeat' first | assumption | with_reducible apply Keeps.notify

theorem Keeps.notifyCountdown {s0 s : State} (w : CountdownName) (ev : CountdownEvent) (seconds : Nat) (h : Keeps s0 s) : Keeps s0 (Machine.notifyCountdown w ev seconds s) := by
  unfold Machine.notifyCountdown; try dsimp only
  repeat' first | assumption | with_reducible apply Keeps.notify

theorem Keeps.noticeClearanceEnd {s0 s : State} (w : ClearanceName) (was : Option Nat) (c : PhaseChange) (h : Keeps s0 s) : Keeps s0 (Machine.noticeClearanceEnd w was c s) := by
  unfold Machine.noticeClearanceEnd; try dsimp only
  repeat' first | assumption | with_reducible apply Keeps.notifyClearance | split

theorem Keeps.noticeCountdownClear {s0 s : State} (w : CountdownName) (clears : Bool) (was : Option Nat) (h : Keeps s0 s) : Keeps s0 (Machine.noticeCountdownClear w clears was s) := by
  unfold Machine.noticeCountdownClear; try dsimp only
  repeat' first | assumption | with_reducible apply Keeps.notifyCountdown | split

theorem Keeps.noticeCountdownStart {s0 s : State} (w : CountdownName) (starts : Option Nat) (h : Keeps s0 s) : Keeps s0 (Machine.noticeCountdownStart w starts s) := by
  unfold Machine.noticeCountdownStart; try dsimp only
  repeat' first | assumption | with_reducible apply Keeps.notifyCountdown | split

theorem Keeps.ofPerf {s0 s : State} (r : PerfRecord) (h : Keeps s0 s)
    (h1 : s.curtain.sound → s.showSafe → r.phase = .inShow → s.curtain.state = .up)
    (h2 : s.perf.phase = .evacuation → r.phase = .evacuation) : Keeps s0 { s with perf := r } :=
  h.trans ⟨rfl, rfl, id, id, id, fun x y z => h1 x y z, h2, rfl, rfl, fun _ => rfl⟩

theorem Keeps.samePhase {s0 s : State} (r : PerfRecord) (h : Keeps s0 s) (e : r.phase = s.perf.phase) : Keeps s0 { s with perf := r } :=
  h.same rfl rfl rfl rfl rfl e rfl

theorem Keeps.enterRecord {s0 s : State} (c : PhaseChange) (h : Keeps s0 s)
    (h1 : s.curtain.sound → s.showSafe → c.target = .inShow → s.curtain.state = .up)
    (h2 : s.perf.phase = .evacuation → c.target = .evacuation) : Keeps s0 (Machine.enterRecord c s) := by
  unfold Machine.enterRecord; dsimp only
  repeat' first | with_reducible apply Keeps.noticeCountdownStart | with_reducible apply Keeps.noticeCountdownClear | with_reducible apply Keeps.noticeClearanceEnd | with_reducible apply Keeps.notify
  exact h.ofPerf _ h1 h2

theorem noticeCountdownStart_perf (w : CountdownName) (o : Option Nat) (s : State) : (noticeCountdownStart w o s).perf = s.perf := by
  unfold noticeCountdownStart; dsimp only [notifyCountdown]; repeat' split
  all_goals simp only [notify_perf]

theorem noticeCountdownClear_perf (w : CountdownName) (b : Bool) (o : Option Nat) (s : State) :
    (noticeCountdownClear w b o s).perf = s.perf := by
  unfold noticeCountdownClear notifyCountdown; split
  · rw [notify_perf]
  · rfl

theorem noticeClearanceEnd_perf (w : ClearanceName) (o : Option Nat) (c : PhaseChange) (s : State) :
    (noticeClearanceEnd w o c s).perf = s.perf := by
  unfold noticeClearanceEnd notifyClearance; split
  · rw [notify_perf]
  · rfl

/-- R4: the record after a change of phase. -/
theorem enterRecord_perf (c : PhaseChange) (s : State) : (enterRecord c s).perf = s.perf.after c s.uptime := by
  unfold enterRecord; dsimp only
  simp only [noticeCountdownStart_perf, noticeCountdownClear_perf, noticeClearanceEnd_perf, notify_perf]

theorem Keeps.curtainDeparture {s0 s : State} (h : Keeps s0 s) : Keeps s0 (Machine.curtainDeparture s) := by
  unfold Machine.curtainDeparture
  split
  · rename_i hp
    exact (h.enterRecord _ (fun _ _ e => by cases e) (fun e => by rw [hp] at e; cases e)).onField _
  · exact h

/-- R11: after the departure claim the phase is not SHOW. -/
theorem curtainDeparture_phase (s : State) : (curtainDeparture s).perf.phase ≠ .inShow := by
  unfold curtainDeparture
  split
  · show (enterRecord _ s).perf.phase ≠ _
    rw [enterRecord_perf]; exact fun h => by cases h
  · assumption

theorem Keeps.curtainNotice {s0 s : State} (n : Notice) (h : Keeps s0 s) : Keeps s0 (Machine.curtainNotice n s) := by
  unfold Machine.curtainNotice; try dsimp only
  repeat' first | assumption | with_reducible apply Keeps.notify

theorem Keeps.raiseCurtainFault {s0 s : State} (k : FaultKind) (h : Keeps s0 s) : Keeps s0 (Machine.raiseCurtainFault k s) := by
  unfold Machine.raiseCurtainFault; try dsimp only
  repeat' first | assumption | with_reducible apply Keeps.mapCurtain | with_reducible apply Keeps.raiseFault | split | rfl

theorem Keeps.clearCurtainFault {s0 s : State} (k : FaultKind) (h : Keeps s0 s) : Keeps s0 (Machine.clearCurtainFault k s) := by
  unfold Machine.clearCurtainFault; try dsimp only
  repeat' first | assumption | with_reducible apply Keeps.mapCurtain | with_reducible apply Keeps.clearFault | split | rfl

theorem Keeps.placeWarning {s0 s : State} (h : Keeps s0 s) : Keeps s0 (Machine.placeWarning s) := by
  unfold Machine.placeWarning; try dsimp only
  repeat' first | assumption | with_reducible apply Keeps.mapCurtain | with_reducible apply Keeps.onField | split | rfl

theorem Keeps.removeWarning {s0 s : State} (h : Keeps s0 s) : Keeps s0 (Machine.removeWarning s) := by
  unfold Machine.removeWarning; try dsimp only
  repeat' first | assumption | with_reducible apply Keeps.mapCurtain | with_reducible apply Keeps.onField | split | rfl

theorem Keeps.judgeWarning {s0 s : State} (new : CurtainState) (previous : CurtainState) (h : Keeps s0 s) : Keeps s0 (Machine.judgeWarning new previous s) := by
  unfold Machine.judgeWarning; try dsimp only
  repeat' first | assumption | with_reducible apply Keeps.removeWarning | with_reducible apply Keeps.placeWarning | split

theorem setOutputs_sound (c : Curtain) (h : c.state ≠ .dropping → c.resolved = true) : c.setOutputs.sound := ⟨rfl, rfl, rfl, h⟩

theorem Keeps.shiftCurtain {s0 s : State} (new : CurtainState) (h : Keeps s0 s) : Keeps s0 (Machine.shiftCurtain new s) := by
  unfold Machine.shiftCurtain; dsimp only
  apply Keeps.judgeWarning
  refine h.trans ?_
  have hs : Curtain.sound (Curtain.setOutputs { s.curtain with state := new, resolved := true, motionWatch := new.watch s.settings.curtain s.clock.now }) :=
    setOutputs_sound _ fun _ => rfl
  split
  · have k := Keeps.curtainDeparture (Keeps.refl (Machine.mapCurtain (fun c =>
      Curtain.setOutputs { c with state := new, resolved := true, motionWatch := new.watch s.settings.curtain s.clock.now }) s))
    exact ⟨k.pending, k.held, k.sup, k.ports, fun _ => k.curtain hs, fun _ _ e => absurd e (curtainDeparture_phase _), k.evac, k.stages, k.relay, k.intakes⟩
  · rename_i hp
    exact ⟨rfl, rfl, id, id, fun _ => hs, fun _ y e => absurd (y e) hp, id, rfl, rfl, fun _ => rfl⟩

theorem Keeps.enterCurtain {s0 s : State} (new : CurtainState) (cause : CurtainCause) (mid : State → State) (h : Keeps s0 s)
    (hmid : ∀ (s0 s : State), Keeps s0 s → Keeps s0 (mid s)) : Keeps s0 (Machine.enterCurtain new cause mid s) := by
  unfold Machine.enterCurtain; dsimp only
  split
  · exact h
  · exact (hmid _ _ (h.shiftCurtain new)).curtainNotice _

theorem Keeps.abandonFields {s0 s : State} (r : AbandonReason) (h : Keeps s0 s) : Keeps s0 (Machine.abandonFields r s) := by
  unfold Machine.abandonFields; try dsimp only
  repeat' first | assumption | with_reducible apply Keeps.curtainNotice | with_reducible apply Keeps.mapCurtain | split | rfl

theorem Keeps.judgeDisplayLowering {s0 s : State} (h : Keeps s0 s) : Keeps s0 (Machine.judgeDisplayLowering s) := by
  unfold Machine.judgeDisplayLowering; try dsimp only
  repeat' first | assumption | with_reducible apply Keeps.abandonFields | with_reducible apply Keeps.enterCurtain | with_reducible apply Keeps.mapCurtain | split | intro _ _ _ | rfl

theorem Keeps.announcementOutcome {s0 s : State} (tag : Nat) (o : CallOutcome) (h : Keeps s0 s) : Keeps s0 (Machine.announcementOutcome tag o s) := by
  unfold Machine.announcementOutcome; try dsimp only
  repeat' first | assumption | with_reducible apply Keeps.judgeDisplayLowering | with_reducible apply Keeps.mapCurtain | split | rfl

theorem Keeps.callNotice {s0 s : State} (origin : CallOrigin) (n : Notice) (h : Keeps s0 s) : Keeps s0 (Machine.callNotice origin n s) := by
  unfold Machine.callNotice; try dsimp only
  repeat' first | assumption | with_reducible apply Keeps.notify | with_reducible apply Keeps.placeOn | split

theorem forget_stages (tag : Nat) (u : AlarmUnit) : (forgetAlarmOrder tag u).entries.map AlarmEntry.stage = u.entries.map AlarmEntry.stage := by
  simp only [forgetAlarmOrder, List.map_map]
  refine List.map_congr_left fun e _ => ?_
  simp only [Function.comp]; split <;> rfl

theorem Keeps.handOutcome {s0 s : State} (origin : CallOrigin) (tag : Nat) (out : CallOutcome) (h : Keeps s0 s) :
    Keeps s0 (Machine.handOutcome origin tag out s) := by
  unfold Machine.handOutcome
  split
  · exact h.ofAlarm _ (forget_stages _ _) rfl
  · exact h.announcementOutcome _ _
  all_goals exact h

theorem Keeps.outcomeNotice {s0 s : State} (out : CallOutcome) (o : Order) (h : Keeps s0 s) : Keeps s0 (Machine.outcomeNotice out o s) := by
  unfold Machine.outcomeNotice; try dsimp only
  repeat' first | assumption | with_reducible apply Keeps.callNotice

theorem Keeps.endOrder {s0 s : State} (out : CallOutcome) (o : Order) (h : Keeps s0 s) : Keeps s0 (Machine.endOrder out o s) := by
  unfold Machine.endOrder; try dsimp only
  repeat' first | assumption | with_reducible apply Keeps.outcomeNotice | with_reducible apply Keeps.handOutcome | with_reducible apply Keeps.mapLoop | with_reducible apply Keeps.mapCalls | split

theorem Keeps.arbitrateFuel (k : Nat) : ∀ {s0 s : State}, Keeps s0 s → Keeps s0 (Machine.arbitrateFuel k s) := by
  induction k with
  | zero => intro s0 s h; exact h
  | succ k ih =>
    intro s0 s h
    unfold Machine.arbitrateFuel; dsimp only
    repeat' first | assumption | with_reducible apply ih | with_reducible apply Keeps.endOrder | with_reducible apply Keeps.notify | with_reducible apply Keeps.mapCalls | split
    exact h.same rfl rfl rfl rfl rfl rfl rfl

theorem Keeps.arbitrate {s0 s : State} (h : Keeps s0 s) : Keeps s0 (Machine.arbitrate s) := by
  unfold Machine.arbitrate; try dsimp only
  repeat' first | assumption | with_reducible apply Keeps.arbitrateFuel

theorem Keeps.contend {s0 s : State} (h : Keeps s0 s) : Keeps s0 (Machine.contend s) := by
  unfold Machine.contend; try dsimp only
  repeat' first | assumption | with_reducible apply Keeps.arbitrate | with_reducible apply Keeps.endOrder | split

theorem Keeps.finishOrder {s0 s : State} (out : CallOutcome) (o : Order) (h : Keeps s0 s) : Keeps s0 (Machine.finishOrder out o s) := by
  unfold Machine.finishOrder; try dsimp only
  repeat' first | assumption | with_reducible apply Keeps.arbitrate | with_reducible apply Keeps.endOrder | split

theorem Keeps.endRepetition {s0 s : State} (o : Order) (h : Keeps s0 s) : Keeps s0 (Machine.endRepetition o s) := by
  unfold Machine.endRepetition; try dsimp only
  repeat' first | assumption | with_reducible apply Keeps.arbitrate | with_reducible apply Keeps.endOrder | with_reducible apply Keeps.mapLoop | with_reducible apply Keeps.mapCalls | with_reducible apply Keeps.done | split

theorem Keeps.judgeRepetition {s0 s : State} (h : Keeps s0 s) : Keeps s0 (Machine.judgeRepetition s) := by
  unfold Machine.judgeRepetition; try dsimp only
  repeat' first | assumption | with_reducible apply Keeps.endRepetition | split

theorem Keeps.unitReport {s0 s : State} (a : Nat) (serial : Nat) (progress : CallProgress) (h : Keeps s0 s) : Keeps s0 (Machine.unitReport a serial progress s) := by
  unfold Machine.unitReport; try dsimp only
  repeat' first | assumption | with_reducible apply Keeps.judgeRepetition | with_reducible apply Keeps.mapCalls | with_reducible apply Keeps.clearFault | split

theorem Keeps.callUnitGone {s0 s : State} (a : Nat) (h : Keeps s0 s) : Keeps s0 (Machine.callUnitGone a s) := by
  unfold Machine.callUnitGone; try dsimp only
  repeat' first | assumption | with_reducible apply Keeps.judgeRepetition | with_reducible apply Keeps.mapCalls | split

theorem Keeps.callUnitPresent {s0 s : State} (a : Nat) (h : Keeps s0 s) : Keeps s0 (Machine.callUnitPresent a s) := by
  unfold Machine.callUnitPresent; try dsimp only
  repeat' first | assumption | with_reducible apply Keeps.mapCalls | split

theorem Keeps.missUnit {s0 s : State} (o : Order) (r : Repetition) (a : Nat) (h : Keeps s0 s) : Keeps s0 (Machine.missUnit o r a s) := by
  unfold Machine.missUnit; try dsimp only
  repeat' first | assumption | with_reducible apply Keeps.mapCalls | with_reducible apply Keeps.raiseFault

theorem Keeps.callSent {s0 s : State} (serial : Nat) (h : Keeps s0 s) : Keeps s0 (Machine.callSent serial s) := by
  unfold Machine.callSent; try dsimp only
  repeat' first | assumption | with_reducible apply Keeps.mapCalls | split

theorem Keeps.joinQueue {s0 s : State} (o : Order) (h : Keeps s0 s) : Keeps s0 (Machine.joinQueue o s) := h.mapCalls _

theorem Keeps.enqueue {s0 s : State} (o : Order) (h : Keeps s0 s) : Keeps s0 (Machine.enqueue o s) := (h.joinQueue o).contend

theorem Keeps.placeEvac {s0 s : State} (h : Keeps s0 s) : Keeps s0 (Machine.placeEvac s) := by
  unfold Machine.placeEvac; try dsimp only
  repeat' first | assumption | with_reducible apply Keeps.enqueue | with_reducible apply Keeps.endOrder | split

theorem Keeps.turnAway {s0 s : State} (out : CallOutcome) (o : Order) (h : Keeps s0 s) : Keeps s0 (Machine.turnAway out o s) := by
  unfold Machine.turnAway; try dsimp only
  repeat' first | assumption | with_reducible apply Keeps.outcomeNotice | with_reducible apply Keeps.handOutcome | with_reducible apply Keeps.mapCalls

theorem Keeps.placeStaff {s0 s : State} (t : Target) (message : Nat) (h : Keeps s0 s) : Keeps s0 (Machine.placeStaff t message s) := by
  unfold Machine.placeStaff; try dsimp only
  repeat' first | assumption | with_reducible apply Keeps.turnAway | with_reducible apply Keeps.enqueue | with_reducible apply Keeps.endOrder | split

theorem Keeps.placeAnnouncement {s0 s : State} (t : Target) (message : Nat) (h : Keeps s0 s) : Keeps s0 (Machine.placeAnnouncement t message s) := by
  unfold Machine.placeAnnouncement; try dsimp only
  repeat' first | assumption | with_reducible apply Keeps.turnAway | with_reducible apply Keeps.enqueue | with_reducible apply Keeps.handOutcome | with_reducible apply Keeps.mapCalls | split

theorem Keeps.withdrawOrder {s0 s : State} (o : Order) (h : Keeps s0 s) : Keeps s0 (Machine.withdrawOrder o s) := by
  unfold Machine.withdrawOrder; try dsimp only
  repeat' first | assumption | with_reducible apply Keeps.endOrder | with_reducible apply Keeps.mapCalls | split

theorem Keeps.withdrawIds {s0 s : State} (ids : List Nat) (h : Keeps s0 s) : Keeps s0 (Machine.withdrawIds ids s) := by
  unfold Machine.withdrawIds; try dsimp only
  repeat' first | assumption | with_reducible apply Keeps.arbitrate | with_reducible apply Keeps.foldl | with_reducible apply Keeps.withdrawOrder | split | intro _ _ _ _

theorem Keeps.withdrawInternal {s0 s : State} (origin : CallOrigin) (tag : Nat) (h : Keeps s0 s) : Keeps s0 (Machine.withdrawInternal origin tag s) := by
  unfold Machine.withdrawInternal; try dsimp only
  repeat' first | assumption | with_reducible apply Keeps.withdrawIds

theorem Keeps.cutEvac {s0 s : State} (tag : Nat) (h : Keeps s0 s) : Keeps s0 (Machine.cutEvac tag s) := by
  unfold Machine.cutEvac; try dsimp only
  repeat' first | assumption | with_reducible apply Keeps.finishOrder | split

theorem Keeps.countdownCleared {s0 s : State} (w : CountdownName) (h : Keeps s0 s) : Keeps s0 (Machine.countdownCleared w s) := by
  unfold Machine.countdownCleared; try dsimp only
  repeat' first | assumption | with_reducible apply Keeps.withdrawIds | with_reducible apply Keeps.mapCalls

theorem Keeps.countdownValue {s0 s : State} (w : CountdownName) (v : Nat) (h : Keeps s0 s) : Keeps s0 (Machine.countdownValue w v s) := by
  unfold Machine.countdownValue; try dsimp only
  repeat' first | assumption | with_reducible apply Keeps.contend | with_reducible apply Keeps.mapCalls

theorem Keeps.placePlanEntry {s0 s : State} (w : CountdownName) (start : Nat) (e : Option PlanEntry × Nat) (h : Keeps s0 s) : Keeps s0 (Machine.placePlanEntry w start s e) := by
  unfold Machine.placePlanEntry; try dsimp only
  repeat' first | assumption | with_reducible apply Keeps.enqueue | with_reducible apply Keeps.notify | split

theorem Keeps.countdownStart {s0 s : State} (w : CountdownName) (v : Nat) (h : Keeps s0 s) : Keeps s0 (Machine.countdownStart w v s) := by
  unfold Machine.countdownStart; try dsimp only
  repeat' first | assumption | with_reducible apply Keeps.foldl | with_reducible apply Keeps.placePlanEntry | with_reducible apply Keeps.countdownValue | split | intro _ _ _ _

theorem Keeps.discardIds {s0 s : State} (ids : List Nat) (h : Keeps s0 s) : Keeps s0 (Machine.discardIds ids s) := by
  unfold Machine.discardIds; try dsimp only
  repeat' first | assumption | with_reducible apply Keeps.foldl | with_reducible apply Keeps.endOrder | split | intro _ _ _ _

theorem Keeps.callsPhaseEntry {s0 s : State} (new : Phase) (h : Keeps s0 s) : Keeps s0 (Machine.callsPhaseEntry new s) := by
  unfold Machine.callsPhaseEntry; try dsimp only
  repeat' first | assumption | with_reducible apply Keeps.discardIds | with_reducible apply Keeps.arbitrate | split

theorem Keeps.startItem {s0 s : State} (lane : Lane) (i : LaneItem) (h : Keeps s0 s) : Keeps s0 (Machine.startItem lane i s) := by
  unfold Machine.startItem; dsimp only
  split <;> exact h.same rfl rfl rfl rfl rfl rfl rfl

theorem Keeps.takeWork {s0 s : State} (h : Keeps s0 s) : Keeps s0 (Machine.takeWork s) := by
  unfold Machine.takeWork
  split
  · exact h
  · split
    · exact h.startItem _ _
    · split
      · exact h.same rfl rfl rfl rfl rfl rfl rfl
      · split
        · exact h.same rfl rfl rfl rfl rfl rfl rfl
        · split
          · exact h.startItem _ _
          · exact h

theorem Keeps.serveRoom (k : Nat) : ∀ {s0 s : State}, Keeps s0 s → Keeps s0 (Machine.serveRoom k s) := by
  induction k with
  | zero => intro s0 s h; exact h.mapLoop _
  | succ k ih =>
    intro s0 s h
    unfold Machine.serveRoom
    split
    · exact ih ((h.mapLoop _).onField _).arbitrate
    · exact h

theorem Keeps.settle {s0 s : State} (h : Keeps s0 s) : Keeps s0 (Machine.settle s) := by
  unfold Machine.settle; dsimp only
  apply Keeps.transmit; apply Keeps.takeWork
  exact (h.serveRoom 8).same rfl rfl rfl rfl rfl rfl rfl

theorem Keeps.abandonDisplay {s0 s : State} (r : AbandonReason) (h : Keeps s0 s) : Keeps s0 (Machine.abandonDisplay r s) := by
  unfold Machine.abandonDisplay; try dsimp only
  repeat' first | assumption | with_reducible apply Keeps.withdrawInternal | with_reducible apply Keeps.curtainNotice | with_reducible apply Keeps.mapCurtain | split | rfl

theorem Keeps.idleTimer {s0 s : State} (n : Notice) (h : Keeps s0 s) : Keeps s0 (Machine.idleTimer n s) := by
  unfold Machine.idleTimer; try dsimp only
  repeat' first | assumption | with_reducible apply Keeps.curtainNotice | with_reducible apply Keeps.mapCurtain | split | rfl

theorem Keeps.dropTimer {s0 s : State} (cause : DropCause) (h : Keeps s0 s) : Keeps s0 (Machine.dropTimer cause s) := by
  unfold Machine.dropTimer; try dsimp only
  repeat' first | assumption | with_reducible apply Keeps.idleTimer | with_reducible apply Keeps.mapCurtain | split | rfl

theorem Keeps.beginDrop {s0 s : State} (cause : DropCause) (faults : State → State) (h : Keeps s0 s) (hfaults : ∀ (s0 s : State), Keeps s0 s → Keeps s0 (faults s)) : Keeps s0 (Machine.beginDrop cause faults s) := by
  unfold Machine.beginDrop; try dsimp only
  repeat' first | assumption | refine hfaults _ _ ?_ | with_reducible apply Keeps.dropTimer | with_reducible apply Keeps.idleTimer | with_reducible apply Keeps.abandonDisplay | with_reducible apply Keeps.enterCurtain | with_reducible apply Keeps.mapCurtain | split | intro _ _ _ | rfl

theorem Keeps.judgeEmergency {s0 s : State} (h : Keeps s0 s) : Keeps s0 (Machine.judgeEmergency s) := by
  unfold Machine.judgeEmergency; try dsimp only
  repeat' first | assumption | with_reducible apply Keeps.beginDrop | split | intro _ _ _

theorem Keeps.endGrace {s0 s : State} (h : Keeps s0 s) : Keeps s0 (Machine.endGrace s) := by
  unfold Machine.endGrace; try dsimp only
  repeat' first | assumption | with_reducible apply Keeps.beginDrop | with_reducible apply Keeps.raiseCurtainFault | split | intro _ _ _

theorem Keeps.expireRelease {s0 s : State} (h : Keeps s0 s) : Keeps s0 (Machine.expireRelease s) := by
  unfold Machine.expireRelease; try dsimp only
  repeat' first | assumption | with_reducible apply Keeps.endGrace | with_reducible apply Keeps.beginDrop | with_reducible apply Keeps.idleTimer | with_reducible apply Keeps.curtainNotice | with_reducible apply Keeps.mapCurtain | split | intro _ _ _ | rfl

theorem Keeps.startTimer {s0 s : State} (zone : Nat) (h : Keeps s0 s) : Keeps s0 (Machine.startTimer zone s) := by
  unfold Machine.startTimer; try dsimp only
  repeat' first | assumption | with_reducible apply Keeps.curtainNotice | with_reducible apply Keeps.mapCurtain | rfl

theorem Keeps.expireAtOnce {s0 s : State} (h : Keeps s0 s) : Keeps s0 (Machine.expireAtOnce s) := by
  unfold Machine.expireAtOnce
  repeat' first | assumption | with_reducible apply Keeps.expireRelease | split

theorem Keeps.startRelease {s0 s : State} (zone : Nat) (h : Keeps s0 s) : Keeps s0 (Machine.startRelease zone s) :=
  (h.startTimer zone).expireAtOnce

theorem Keeps.curtainTrigger {s0 s : State} (zone : Nat) (h : Keeps s0 s) : Keeps s0 (Machine.curtainTrigger zone s) := by
  unfold Machine.curtainTrigger; try dsimp only
  repeat' first | assumption | with_reducible apply Keeps.startRelease | with_reducible apply Keeps.abandonDisplay | with_reducible apply Keeps.curtainNotice | split

theorem Keeps.curtainResetComplete {s0 s : State} (h : Keeps s0 s) : Keeps s0 (Machine.curtainResetComplete s) := by
  unfold Machine.curtainResetComplete; try dsimp only
  repeat' first | assumption | with_reducible apply Keeps.idleTimer

theorem Keeps.haltOnly {s0 s : State} (cause : CurtainCause) (r : AbandonReason) (faults : State → State) (h : Keeps s0 s) (hfaults : ∀ (s0 s : State), Keeps s0 s → Keeps s0 (faults s)) : Keeps s0 (Machine.haltOnly cause r faults s) := by
  unfold Machine.haltOnly; try dsimp only
  repeat' first | assumption | refine hfaults _ _ ?_ | with_reducible apply Keeps.abandonDisplay | with_reducible apply Keeps.enterCurtain | split | intro _ _ _

theorem Keeps.haltCurtain {s0 s : State} (cause : CurtainCause) (r : AbandonReason) (faults : State → State) (h : Keeps s0 s) (hfaults : ∀ (s0 s : State), Keeps s0 s → Keeps s0 (faults s)) : Keeps s0 (Machine.haltCurtain cause r faults s) := by
  unfold Machine.haltCurtain; try dsimp only
  repeat' first | assumption | refine hfaults _ _ ?_ | with_reducible apply Keeps.haltOnly | with_reducible apply Keeps.judgeEmergency

theorem Keeps.lockCurtain {s0 s : State} (cause : CurtainCause) (faults : State → State) (h : Keeps s0 s) (hfaults : ∀ (s0 s : State), Keeps s0 s → Keeps s0 (faults s)) : Keeps s0 (Machine.lockCurtain cause faults s) := by
  unfold Machine.lockCurtain; try dsimp only
  repeat' first | assumption | refine hfaults _ _ ?_ | with_reducible apply Keeps.judgeEmergency | with_reducible apply Keeps.abandonDisplay | with_reducible apply Keeps.enterCurtain | split | intro _ _ _

theorem Keeps.endDrop {s0 s : State} (h : Keeps s0 s) : Keeps s0 (Machine.endDrop s) := by
  unfold Machine.endDrop; try dsimp only
  repeat' first | assumption | with_reducible apply Keeps.clearCurtainFault | with_reducible apply Keeps.mapCurtain | split | rfl

theorem Keeps.displayArrived {s0 s : State} (h : Keeps s0 s) : Keeps s0 (Machine.displayArrived s) := by
  unfold Machine.displayArrived; try dsimp only
  repeat' first | assumption | with_reducible apply Keeps.curtainNotice | with_reducible apply Keeps.mapCurtain | split | with_reducible apply Keeps.samePhase | rfl

theorem Keeps.reachDown {s0 s : State} (h : Keeps s0 s) : Keeps s0 (Machine.reachDown s) := by
  unfold Machine.reachDown; try dsimp only
  repeat' first | assumption | with_reducible apply Keeps.displayArrived | with_reducible apply Keeps.endDrop | with_reducible apply Keeps.idleTimer | with_reducible apply Keeps.enterCurtain | with_reducible apply Keeps.curtainNotice | split | intro _ _ _

theorem Keeps.reachUp {s0 s : State} (h : Keeps s0 s) : Keeps s0 (Machine.reachUp s) := by
  unfold Machine.reachUp; try dsimp only
  repeat' first | assumption | with_reducible apply Keeps.judgeEmergency | with_reducible apply Keeps.enterCurtain | with_reducible apply Keeps.clearCurtainFault | with_reducible apply Keeps.curtainNotice | with_reducible apply Keeps.mapCurtain | split | intro _ _ _ | rfl

theorem Keeps.limitConflict {s0 s : State} (h : Keeps s0 s) : Keeps s0 (Machine.limitConflict s) := by
  unfold Machine.limitConflict; try dsimp only
  repeat' first | assumption | with_reducible apply Keeps.endDrop | with_reducible apply Keeps.lockCurtain | with_reducible apply Keeps.raiseCurtainFault | with_reducible apply Keeps.mapCurtain | split | intro _ _ _ | rfl

theorem Keeps.bottomActive {s0 s : State} (h : Keeps s0 s) : Keeps s0 (Machine.bottomActive s) := by
  unfold Machine.bottomActive; try dsimp only
  repeat' first | assumption | with_reducible apply Keeps.limitConflict | with_reducible apply Keeps.reachDown | with_reducible apply Keeps.mapLines | with_reducible apply Keeps.mapCurtain | split | rfl

theorem Keeps.topActive {s0 s : State} (h : Keeps s0 s) : Keeps s0 (Machine.topActive s) := by
  unfold Machine.topActive; try dsimp only
  repeat' first | assumption | with_reducible apply Keeps.limitConflict | with_reducible apply Keeps.reachUp | with_reducible apply Keeps.mapLines | with_reducible apply Keeps.mapCurtain | split | rfl

theorem Keeps.restartRelease {s0 s : State} (h : Keeps s0 s) : Keeps s0 (Machine.restartRelease s) := by
  unfold Machine.restartRelease; try dsimp only
  repeat' first | assumption | with_reducible apply Keeps.startTimer | split

theorem Keeps.bottomLost {s0 s : State} (h : Keeps s0 s) : Keeps s0 (Machine.bottomLost s) := by
  unfold Machine.bottomLost; try dsimp only
  repeat' first | assumption | with_reducible apply Keeps.expireAtOnce | with_reducible apply Keeps.restartRelease | with_reducible apply Keeps.abandonDisplay | with_reducible apply Keeps.enterCurtain | with_reducible apply Keeps.judgeEmergency | with_reducible apply Keeps.mapLines | split | intro _ _ _

theorem Keeps.topLost {s0 s : State} (h : Keeps s0 s) : Keeps s0 (Machine.topLost s) := by
  unfold Machine.topLost; try dsimp only
  repeat' first | assumption | with_reducible apply Keeps.haltCurtain | with_reducible apply Keeps.raiseCurtainFault | with_reducible apply Keeps.mapLines | split | intro _ _ _

theorem Keeps.watchDrop {s0 s : State} (interval : Nat) (h : Keeps s0 s) : Keeps s0 (Machine.watchDrop interval s) := by
  unfold Machine.watchDrop; try dsimp only
  repeat' first | assumption | with_reducible apply Keeps.raiseCurtainFault | with_reducible apply Keeps.mapCurtain | split | rfl

theorem Keeps.encoderStep {s0 s : State} (line : EncoderLine) (interval : Nat) (h : Keeps s0 s) : Keeps s0 (Machine.encoderStep line interval s) := by
  unfold Machine.encoderStep; try dsimp only
  repeat' first | assumption | with_reducible apply Keeps.mapClock | with_reducible apply Keeps.watchDrop | with_reducible apply Keeps.mapLines | with_reducible apply Keeps.mapCurtain | split | rfl

theorem Keeps.beamsChange {s0 s : State} (us : Bool) (ds : Bool) (h : Keeps s0 s) : Keeps s0 (Machine.beamsChange us ds s) := by
  unfold Machine.beamsChange; try dsimp only
  repeat' first | assumption | with_reducible apply Keeps.haltCurtain | with_reducible apply Keeps.beginDrop | with_reducible apply Keeps.curtainNotice | with_reducible apply Keeps.mapLines | split | intro _ _ _

theorem Keeps.clearCurtain {s0 s : State} (h : Keeps s0 s) : Keeps s0 (Machine.clearCurtain s) := by
  unfold Machine.clearCurtain; try dsimp only
  repeat' first | assumption | with_reducible apply Keeps.limitConflict | with_reducible apply Keeps.judgeEmergency | with_reducible apply Keeps.idleTimer | with_reducible apply Keeps.enterCurtain | with_reducible apply Keeps.clearCurtainFault | with_reducible apply Keeps.mapCurtain | split | intro _ _ _ | rfl

theorem Keeps.startDisplay {s0 s : State} (h : Keeps s0 s) : Keeps s0 (Machine.startDisplay s) := by
  unfold Machine.startDisplay; try dsimp only
  repeat' first | assumption | with_reducible apply Keeps.placeAnnouncement | with_reducible apply Keeps.curtainNotice | with_reducible apply Keeps.mapCurtain | split | rfl

theorem Keeps.judgeDisplayRaise {s0 s : State} (h : Keeps s0 s) : Keeps s0 (Machine.judgeDisplayRaise s) := by
  unfold Machine.judgeDisplayRaise; try dsimp only
  repeat' first | assumption | with_reducible apply Keeps.abandonDisplay | with_reducible apply Keeps.enterCurtain | with_reducible apply Keeps.mapCurtain | split | intro _ _ _ | rfl

theorem Keeps.channelNotice {s0 s : State} (n : Nat) (previous : ChannelState) (ev : ChannelEvent) (mark : AlarmMark) (h : Keeps s0 s) : Keeps s0 (Machine.channelNotice n previous ev mark s) := by
  unfold Machine.channelNotice; try dsimp only
  repeat' first | assumption | with_reducible apply Keeps.notify | split

theorem Keeps.changeNotice {s0 s : State} (n : Nat) (previous : ChannelState) (ev : ChannelEvent) (mark : AlarmMark) (h : Keeps s0 s) : Keeps s0 (Machine.changeNotice n previous ev mark s) := by
  unfold Machine.changeNotice; try dsimp only
  repeat' first | assumption | with_reducible apply Keeps.channelNotice | split

theorem Keeps.freshRun {s0 s : State} (n : Nat) (h : Keeps s0 s) : Keeps s0 (Machine.freshRun n s) := by
  unfold Machine.freshRun; try dsimp only
  repeat' first | assumption | with_reducible apply Keeps.changeNotice | with_reducible apply Keeps.mapChannel | split

theorem Keeps.cutChannel {s0 s : State} (n : Nat) (h : Keeps s0 s) : Keeps s0 (Machine.cutChannel s n) := by
  unfold Machine.cutChannel; try dsimp only
  repeat' first | assumption | with_reducible apply Keeps.changeNotice | with_reducible apply Keeps.mapChannel | with_reducible apply Keeps.mapScanner | split

theorem Keeps.takeClaim {s0 s : State} (p : ResetPurpose) (ns : List Nat) (h : Keeps s0 s) : Keeps s0 (Machine.takeClaim p ns s) := by
  unfold Machine.takeClaim; try dsimp only
  repeat' first | assumption | with_reducible apply Keeps.foldl | with_reducible apply Keeps.cutChannel | with_reducible apply Keeps.mapScanner

theorem Keeps.countCheck {s0 s : State} (n : Nat) (inAlarm : Bool) (h : Keeps s0 s) : Keeps s0 (Machine.countCheck n inAlarm s) := by
  unfold Machine.countCheck; try dsimp only
  repeat' first | assumption | with_reducible apply Keeps.mapScanner

theorem Keeps.orphanStandDowns {s0 s : State} (h : Keeps s0 s) : Keeps s0 (Machine.orphanStandDowns s) := h.mapScanner _

/-- R56: no result of a stand-down is handed over while every claim that asked for one is set aside. -/
theorem orphanStandDowns_results (s : State) (z : Nat) (l : List Nat) :
    ScanReport.result (.standDown z) l ∉ (Machine.orphanStandDowns s).scanner.results := by
  intro h
  obtain ⟨k, hk, e⟩ := List.mem_map.1 h
  obtain ⟨m, ha⟩ := List.mem_filter.1 hk
  obtain ⟨k', _, rfl⟩ := List.mem_map.1 m
  unfold ResetClaim.orphan at ha e
  split at ha <;> simp_all

theorem Keeps.newPerformance {s0 s : State} (h : Keeps s0 s) : Keeps s0 (Machine.newPerformance s) :=
  Keeps.foldl _ (fun _ _ _ k => k.clearFault _ _) _ (h.mapScanner _)

end Sys2Proof.Machine
end

