-- ==== Sys2Proof/Laws/KeepsAlarm.lean ====
section
/-! SUPPORT. `Keeps` for the Performance Sequencer, and `KeepsG`, which adds the alarm list's own safety, for the Alarm Unit. -/

namespace Sys2Proof.Machine

theorem Keeps.mapPerf {s0 s : State} (f : PerfRecord → PerfRecord) (h : Keeps s0 s) (e : (f s.perf).phase = s.perf.phase) :
    Keeps s0 (Machine.mapPerf f s) := h.samePhase _ e

theorem Keeps.handClear {s0 s : State} (w : CountdownName) (clears : Bool) (was : Option Nat) (h : Keeps s0 s) : Keeps s0 (Machine.handClear w clears was s) := by
  unfold Machine.handClear; try dsimp only
  repeat' first | assumption | with_reducible apply Keeps.countdownCleared | split

theorem Keeps.handStart {s0 s : State} (w : CountdownName) (starts : Option Nat) (h : Keeps s0 s) : Keeps s0 (Machine.handStart w starts s) := by
  unfold Machine.handStart; try dsimp only
  repeat' first | assumption | with_reducible apply Keeps.countdownStart | split

theorem Keeps.changePhase {s0 s : State} (c : PhaseChange) (h : Keeps s0 s)
    (h1 : s.curtain.sound → s.showSafe → c.target = .inShow → s.curtain.state = .up)
    (h2 : s.perf.phase = .evacuation → c.target = .evacuation) : Keeps s0 (Machine.changePhase c s) := by
  unfold Machine.changePhase; dsimp only
  exact ((((((h.enterRecord c h1 h2).handClear _ _ _).handClear _ _ _).callsPhaseEntry _).onField _).handStart _ _).handStart _ _

theorem Keeps.claimEvacuation {s0 s : State} (h : Keeps s0 s) : Keeps s0 (Machine.claimEvacuation s) := by
  unfold Machine.claimEvacuation; split
  · exact h
  · exact h.changePhase _ (fun _ _ e => by cases e) (fun _ => rfl)

/-- R13: after the claim the phase is EVACUATION. -/
theorem claimEvacuation_phase (s : State) : (claimEvacuation s).perf.phase = .evacuation := by
  unfold claimEvacuation; split
  · assumption
  · unfold changePhase; dsimp only
    refine Keeps.evac (((((((Keeps.refl (enterRecord _ s)).handClear _ _ _).handClear _ _ _).callsPhaseEntry _).onField _).handStart _ _).handStart _ _) ?_
    rw [enterRecord_perf]; rfl

theorem Keeps.handNumber {s0 s : State} (a b : Phase) (h : Keeps s0 s) : Keeps s0 (Machine.handNumber a b s) := by
  unfold Machine.handNumber; split
  · exact h.newPerformance
  · exact h

theorem Keeps.clearHouse {s0 s : State} (h : Keeps s0 s) : Keeps s0 (Machine.clearHouse s) := by
  unfold Machine.clearHouse; try dsimp only
  repeat' first | assumption | with_reducible apply Keeps.noticeCountdownClear | with_reducible apply Keeps.mapPerf | with_reducible apply Keeps.mapPerf | with_reducible apply Keeps.countdownCleared | with_reducible apply Keeps.notifyCountdown | split | rfl

theorem Keeps.startHouse {s0 s : State} (n : Nat) (h : Keeps s0 s) : Keeps s0 (Machine.startHouse n s) := by
  unfold Machine.startHouse; try dsimp only
  repeat' first | assumption | with_reducible apply Keeps.mapPerf | with_reducible apply Keeps.mapPerf | with_reducible apply Keeps.countdownStart | with_reducible apply Keeps.noticeCountdownStart | split | rfl

theorem Keeps.extendInterval {s0 s : State} (seconds : Nat) (k : Nat) (h : Keeps s0 s) : Keeps s0 (Machine.extendInterval seconds k s) := by
  unfold Machine.extendInterval; try dsimp only
  repeat' first | assumption | with_reducible apply Keeps.mapPerf | with_reducible apply Keeps.mapPerf | with_reducible apply Keeps.countdownValue | with_reducible apply Keeps.notifyCountdown | split | rfl

theorem setCountdown_phase (r : PerfRecord) (w : CountdownName) (v : Option Nat) : (r.setCountdown w v).phase = r.phase := by
  cases w <;> rfl

theorem setClearance_phase (r : PerfRecord) (w : ClearanceName) (v : Option Nat) : (r.setClearance w v).phase = r.phase := by
  cases w <;> rfl

theorem Keeps.noticeZero {s0 s : State} (w : CountdownName) (n : Nat) (h : Keeps s0 s) : Keeps s0 (Machine.noticeZero w n s) := by
  unfold Machine.noticeZero; split
  · exact h.notifyCountdown _ _ _
  · exact h

theorem Keeps.tickCountdown {s0 s : State} (w : CountdownName) (h : Keeps s0 s) : Keeps s0 (Machine.tickCountdown w s) := by
  unfold Machine.tickCountdown
  split
  · exact h
  · split
    · exact h
    · exact ((h.mapPerf _ (setCountdown_phase _ _ _)).noticeZero _ _).countdownValue _ _

theorem Keeps.advanceUptime {s0 s : State} (h : Keeps s0 s) : Keeps s0 (Machine.advanceUptime s) := by
  unfold Machine.advanceUptime; split <;> exact h.same rfl rfl rfl rfl rfl rfl rfl

theorem Keeps.uptimePasses {s0 s : State} (h : Keeps s0 s) : Keeps s0 (Machine.uptimePasses s) :=
  ((h.mapClock _).advanceUptime.tickCountdown _).tickCountdown _

theorem Keeps.mapAlarm {s0 s : State} (f : AlarmUnit → AlarmUnit) (h : Keeps s0 s)
    (e1 : (f s.alarm).entries.map AlarmEntry.stage = s.alarm.entries.map AlarmEntry.stage) (e2 : (f s.alarm).relay = s.alarm.relay) :
    Keeps s0 (Machine.mapAlarm f s) := h.ofAlarm _ e1 e2

theorem Keeps.abortStore {s0 s : State} (zone : Nat) (h : Keeps s0 s) : Keeps s0 (Machine.abortStore zone s) := by
  unfold Machine.abortStore; try dsimp only
  repeat' first | assumption | with_reducible apply Keeps.mapStoreRow | with_reducible apply Keeps.setOperation | with_reducible apply Keeps.raiseFault | with_reducible apply Keeps.notify | split

theorem Keeps.refreshPresented {s0 s : State} (h : Keeps s0 s) : Keeps s0 (Machine.refreshPresented s) := by
  unfold Machine.refreshPresented; try dsimp only
  repeat' first | assumption | with_reducible apply Keeps.mapAlarm | with_reducible apply Keeps.mapAlarm | with_reducible apply Keeps.notifyAlways | split | rfl

theorem Keeps.disturb {s0 s : State} (h : Keeps s0 s) : Keeps s0 (Machine.disturb s) := h.mapAlarm _ rfl rfl

theorem Keeps.soundAlarm {s0 s : State} (h : Keeps s0 s) : Keeps s0 (Machine.soundAlarm s) := by
  unfold Machine.soundAlarm; try dsimp only
  repeat' first | assumption | with_reducible apply Keeps.mapAlarm | with_reducible apply Keeps.mapAlarm | with_reducible apply Keeps.placeEvac | split | rfl

theorem Keeps.soundStep {s0 s : State} (fresh : Bool) (h : Keeps s0 s) : Keeps s0 (Machine.soundStep fresh s) := by
  unfold Machine.soundStep; try dsimp only
  repeat' first | assumption | with_reducible apply Keeps.soundAlarm | split

theorem Keeps.withdrawStaff {s0 s : State} (e : AlarmEntry) (h : Keeps s0 s) : Keeps s0 (Machine.withdrawStaff e s) := by
  unfold Machine.withdrawStaff; try dsimp only
  repeat' first | assumption | with_reducible apply Keeps.withdrawInternal | split


/-! ## The Alarm Unit -/

/-- What every function keeps but the Sequencer's own transitions and the resets. -/
structure Holds (s t : State) : Prop where
  pending : t.pending = s.pending
  held : t.resetHeld = s.resetHeld
  sup : s.sup.sound → t.sup.sound
  ports : s.ports.bounded → t.ports.bounded
  curtain : s.curtain.sound → t.curtain.sound
  showUp : s.curtain.sound → s.showSafe → t.showSafe
  evac : s.perf.phase = .evacuation → t.perf.phase = .evacuation
  intakes : ∀ p, (t.port p).intake = (s.port p).intake

theorem Keeps.holds {s t : State} (h : Keeps s t) : Holds s t := ⟨h.pending, h.held, h.sup, h.ports, h.curtain, h.showUp, h.evac, h.intakes⟩

theorem Holds.trans {a b c : State} (h : Holds a b) (k : Holds b c) : Holds a c :=
  ⟨k.pending.trans h.pending, k.held.trans h.held, fun x => k.sup (h.sup x), fun x => k.ports (h.ports x),
    fun x => k.curtain (h.curtain x), fun x y => k.showUp (h.curtain x) (h.showUp x y), fun x => k.evac (h.evac x),
    fun p => (k.intakes p).trans (h.intakes p)⟩

theorem Holds.mapAlarm {s0 s : State} (f : AlarmUnit → AlarmUnit) (h : Holds s0 s) : Holds s0 (Machine.mapAlarm f s) :=
  h.trans ⟨rfl, rfl, id, id, id, fun _ h => h, id, fun _ => rfl⟩

/-- With the alarm list's own safety (R13, R59). -/
structure KeepsG (s t : State) : Prop where
  holds : Holds s t
  general : s.generalSafe → t.generalSafe

theorem KeepsG.refl (s : State) : KeepsG s s := ⟨(Keeps.refl s).holds, id⟩

theorem any_stage (l : List AlarmEntry) : l.any AlarmEntry.isGeneral = (l.map AlarmEntry.stage).any (fun x => x.name == .general) := by
  rw [List.any_map]; rfl

theorem Keeps.general {s t : State} (h : Keeps s t) : s.generalSafe → t.generalSafe := by
  intro x y
  have hy : s.anyGeneral = true := by
    unfold State.anyGeneral at *; rw [any_stage] at *; rw [← h.stages]; exact y
  exact ⟨h.evac (x hy).1, h.relay.trans (x hy).2⟩

theorem Keeps.keepsG {s t : State} (h : Keeps s t) : KeepsG s t := ⟨h.holds, h.general⟩

theorem KeepsG.trans {a b c : State} (h : KeepsG a b) (k : KeepsG b c) : KeepsG a c := ⟨h.holds.trans k.holds, fun x => k.general (h.general x)⟩

theorem KeepsG.lift {a b c : State} (k : Keeps b c) (h : KeepsG a b) : KeepsG a c := h.trans k.keepsG

theorem KeepsG.foldl {s0 : State} {α : Type} (g : State → α → State) (hg : ∀ (s0 s : State) (a : α), KeepsG s0 s → KeepsG s0 (g s a)) (l : List α) :
    ∀ {s : State}, KeepsG s0 s → KeepsG s0 (l.foldl g s) := by
  induction l with
  | nil => intro s h; exact h
  | cons a l ih => intro s h; exact ih (hg _ _ _ h)

/-- A change of the alarm list that makes no entry GENERAL. -/
theorem KeepsG.mapAlarm {s0 s : State} (f : AlarmUnit → AlarmUnit) (h : KeepsG s0 s)
    (e1 : (f s.alarm).entries.any AlarmEntry.isGeneral = true → s.alarm.entries.any AlarmEntry.isGeneral = true)
    (e2 : (f s.alarm).relay = s.alarm.relay) : KeepsG s0 (Machine.mapAlarm f s) :=
  h.trans ⟨⟨rfl, rfl, id, id, id, fun _ h => h, id, fun _ => rfl⟩, fun x y => ⟨(x (e1 y)).1, e2.trans (x (e1 y)).2⟩⟩

theorem change_general (u : AlarmUnit) (z : Nat) (f : AlarmEntry → AlarmEntry) (hf : ∀ e, (f e).isGeneral = true → e.isGeneral = true) :
    (u.change z f).entries.any AlarmEntry.isGeneral = true → u.entries.any AlarmEntry.isGeneral = true := by
  simp only [AlarmUnit.change, List.any_map, List.any_eq_true, Function.comp]
  rintro ⟨e, he, hg⟩
  refine ⟨e, he, ?_⟩
  split at hg
  · exact hf e hg
  · exact hg

theorem change_stages (u : AlarmUnit) (z : Nat) (f : AlarmEntry → AlarmEntry) (hf : ∀ e, (f e).stage = e.stage) :
    (u.change z f).entries.map AlarmEntry.stage = u.entries.map AlarmEntry.stage := by
  simp only [AlarmUnit.change, List.map_map]
  refine List.map_congr_left fun e _ => ?_
  simp only [Function.comp]; split
  · exact hf e
  · rfl

theorem generalHandOffs_holds (e : AlarmEntry) (fresh : Bool) (s : State) :
    Holds s (generalHandOffs e fresh s) ∧ (generalHandOffs e fresh s).perf.phase = .evacuation ∧ (generalHandOffs e fresh s).alarm.relay = true := by
  unfold generalHandOffs; dsimp only
  have k1 := (Keeps.refl s).claimEvacuation.withdrawStaff e
  have p1 := ((Keeps.refl (claimEvacuation s)).withdrawStaff e).evac (claimEvacuation_phase s)
  have k2 := (Keeps.refl (Machine.mapAlarm (fun u => { u with relay := true }) (withdrawStaff e (claimEvacuation s)))).soundStep fresh
  have h2 := (k1.holds.mapAlarm (fun u => { u with relay := true })).trans k2.holds
  split
  · have k3 := (Keeps.refl (soundStep fresh (Machine.mapAlarm (fun u => { u with relay := true }) (withdrawStaff e (claimEvacuation s))))).curtainTrigger e.zone
    exact ⟨h2.trans k3.holds, k3.evac (k2.evac p1), k3.relay.trans k2.relay⟩
  · exact ⟨h2, k2.evac p1, k2.relay⟩

theorem generalHandOffs_safe (e : AlarmEntry) (fresh : Bool) (s : State) : (generalHandOffs e fresh s).generalSafe :=
  fun _ => (generalHandOffs_holds e fresh s).2

theorem KeepsG.makeGeneral {s0 s : State} (fresh : Bool) (z : Nat) (h : KeepsG s0 s) : KeepsG s0 (Machine.makeGeneral fresh s z) := by
  unfold Machine.makeGeneral
  split
  · exact h
  · refine h.trans ⟨?_, fun _ => generalHandOffs_safe _ _ _⟩
    exact (((Keeps.refl s).holds.mapAlarm _).trans (Keeps.refl _).disturb.holds).trans (generalHandOffs_holds _ _ _).1

theorem foldl_makeGeneral_holds (fresh : Bool) (l : List Nat) : ∀ s : State, Holds s (l.foldl (makeGeneral fresh) s) := by
  induction l with
  | nil => exact fun s => (Keeps.refl s).holds
  | cons z l ih => exact fun s => ((KeepsG.refl s).makeGeneral fresh z).holds.trans (ih _)

theorem KeepsG.newGeneral {s0 s : State} (z : Nat) (opening : Option Nat) (h : KeepsG s0 s) : KeepsG s0 (Machine.newGeneral z opening s) := by
  unfold Machine.newGeneral; dsimp only
  refine h.trans ⟨?_, fun _ => generalHandOffs_safe _ _ _⟩
  exact ((((Keeps.refl s).holds.mapAlarm _).trans ((Keeps.refl _).disturb.abortStore z).holds).trans
    (foldl_makeGeneral_holds false _ _)).trans (generalHandOffs_holds _ _ _).1

theorem KeepsG.newStaffAlert {s0 s : State} (z ch : Nat) (h : KeepsG s0 s) : KeepsG s0 (Machine.newStaffAlert z ch s) := by
  unfold Machine.newStaffAlert; dsimp only
  refine KeepsG.lift (Keeps.placeStaff _ _ (Keeps.abortStore z (Keeps.refl _))) (h.mapAlarm _ ?_ rfl)
  intro x
  simpa [List.any_append, AlarmEntry.isGeneral, AlarmStage.name] using x

theorem KeepsG.takeAlarm {s0 s : State} (ch z : Nat) (type : ChannelType) (h : KeepsG s0 s) : KeepsG s0 (Machine.takeAlarm ch z type s) := by
  unfold Machine.takeAlarm; dsimp only
  have hd := KeepsG.lift (Keeps.refl _).disturb h
  split
  · split
    · exact hd.newGeneral _ _
    · exact hd.newStaffAlert _ _
  · have hc := hd.mapAlarm (fun u => u.change z fun e => { e with channels := insertNum ch e.channels }) (change_general _ _ _ fun _ x => by exact x) rfl
    split
    · exact hc
    · exact hc.makeGeneral _ _

theorem KeepsG.takeOutOfAlarm {s0 s : State} (ch z : Nat) (h : KeepsG s0 s) : KeepsG s0 (Machine.takeOutOfAlarm ch z s) :=
  h.mapAlarm _ (change_general _ _ _ fun _ x => by exact x) rfl

theorem any_filter {l : List AlarmEntry} {p : AlarmEntry → Bool} (h : (l.filter p).any AlarmEntry.isGeneral = true) :
    l.any AlarmEntry.isGeneral = true := by
  obtain ⟨e, he, hg⟩ := List.any_eq_true.1 h
  exact List.any_eq_true.2 ⟨e, List.mem_of_mem_filter he, hg⟩

theorem KeepsG.takeStandDown {s0 s : State} (z : Nat) (inAlarm : List Nat) (h : KeepsG s0 s) : KeepsG s0 (Machine.takeStandDown z inAlarm s) := by
  unfold Machine.takeStandDown
  split
  · exact h
  · split
    · split
      · exact KeepsG.lift (Keeps.notifyAlways _ (Keeps.refl _)) (h.mapAlarm _ any_filter rfl)
      · exact (h.mapAlarm _ (change_general _ _ _ fun _ x => by exact x) rfl).makeGeneral _ _
    · exact h

theorem Keeps.cutAny {s0 s : State} (o : Option Nat) (h : Keeps s0 s) : Keeps s0 (match o with
    | some t => Machine.cutEvac t s
    | none => s) := by
  split
  · exact h.cutEvac _
  · exact h

theorem KeepsG.resetSucceeds {s0 s : State} (h : KeepsG s0 s) : KeepsG s0 (Machine.resetSucceeds s) := by
  unfold Machine.resetSucceeds; dsimp only
  refine KeepsG.lift (((((Keeps.refl _).cutAny _).curtainResetComplete).notifyAlways _).mapAlarm _ rfl rfl)
    (KeepsG.lift (Keeps.refl _).orphanStandDowns h |>.trans ⟨(Keeps.refl _).holds.mapAlarm _, fun _ x => by cases x⟩)

theorem KeepsG.resetFails {s0 s : State} (inAlarm : List Nat) (d : Bool) (h : KeepsG s0 s) : KeepsG s0 (Machine.resetFails inAlarm d s) := by
  unfold Machine.resetFails
  exact KeepsG.lift (((Keeps.refl _).notifyAlways _).mapAlarm _ rfl rfl) h

theorem KeepsG.takeReset {s0 s : State} (inAlarm : List Nat) (h : KeepsG s0 s) : KeepsG s0 (Machine.takeReset inAlarm s) := by
  unfold Machine.takeReset; try dsimp only
  repeat' first | assumption | with_reducible apply KeepsG.resetFails | with_reducible apply KeepsG.resetSucceeds | split

theorem KeepsG.takeResult {s0 s : State} (p : ResetPurpose) (inAlarm : List Nat) (h : KeepsG s0 s) : KeepsG s0 (Machine.takeResult p inAlarm s) := by
  unfold Machine.takeResult; try dsimp only
  repeat' first | assumption | with_reducible apply KeepsG.takeReset | with_reducible apply KeepsG.takeStandDown | split

theorem KeepsG.takeReport {s0 s : State} (r : ScanReport) (h : KeepsG s0 s) : KeepsG s0 (Machine.takeReport s r) := by
  cases r
  · exact h.takeAlarm _ _ _
  · exact h.takeOutOfAlarm _ _
  · exact h.takeResult _ _

theorem KeepsG.handReports {s0 s : State} (l : List ScanReport) (h : KeepsG s0 s) : KeepsG s0 (Machine.handReports l s) := by
  unfold Machine.handReports; try dsimp only
  repeat' first | assumption | with_reducible apply KeepsG.foldl | with_reducible apply KeepsG.takeReport | with_reducible refine KeepsG.lift (Keeps.mapScanner _ (Keeps.refl _)) ?_ | with_reducible refine KeepsG.lift (Keeps.done _ _ (Keeps.refl _)) ?_ | split

theorem KeepsG.handResults {s0 s : State} (h : KeepsG s0 s) : KeepsG s0 (Machine.handResults s) := by
  unfold Machine.handResults; try dsimp only
  repeat' first | assumption | with_reducible apply KeepsG.handReports | with_reducible refine KeepsG.lift (Keeps.mapScanner _ (Keeps.refl _)) ?_

theorem KeepsG.claimReset {s0 s : State} (p : ResetPurpose) (ns : List Nat) (h : KeepsG s0 s) : KeepsG s0 (Machine.claimReset p ns s) := by
  unfold Machine.claimReset; try dsimp only
  repeat' first | assumption | with_reducible apply KeepsG.handResults | with_reducible apply KeepsG.takeResult | with_reducible refine KeepsG.lift (Keeps.takeClaim _ _ (Keeps.refl _)) ?_ | split

theorem KeepsG.beginStandDown {s0 s : State} (e : AlarmEntry) (h : KeepsG s0 s) : KeepsG s0 (Machine.beginStandDown e s) := by
  unfold Machine.beginStandDown
  exact (h.mapAlarm _ (change_general _ _ _ fun _ x => by cases x) rfl).claimReset _ _

theorem KeepsG.acknowledgeEntry {s0 s : State} (p : Port) (e : AlarmEntry) (h : KeepsG s0 s) : KeepsG s0 (Machine.acknowledgeEntry p e s) := by
  unfold Machine.acknowledgeEntry; dsimp only
  refine KeepsG.lift (((Keeps.refl _).notifyAlways _).refreshPresented) ?_
  split
  · exact KeepsG.lift ((Keeps.refl _).withdrawStaff _) (h.mapAlarm _ (change_general _ _ _ fun _ x => by cases x) rfl)
  all_goals exact h.mapAlarm _ (change_general _ _ _ fun _ x => by exact x) rfl

theorem KeepsG.silenceAlarm {s0 s : State} (p : Port) (h : KeepsG s0 s) : KeepsG s0 (Machine.silenceAlarm p s) := by
  unfold Machine.silenceAlarm; dsimp only
  split
  · exact KeepsG.lift ((((Keeps.refl _).mapAlarm _ rfl rfl).cutAny _).notifyAlways _) h
  all_goals exact h

theorem KeepsG.evacuateHouse {s0 s : State} (h : KeepsG s0 s) : KeepsG s0 (Machine.evacuateHouse s) := by
  unfold Machine.evacuateHouse; dsimp only
  have hd := KeepsG.lift (Keeps.refl _).disturb h
  split
  · exact hd.newGeneral _ _
  · exact KeepsG.lift ((Keeps.refl _).soundStep _) (KeepsG.foldl _ (fun _ _ _ k => k.makeGeneral _ _) _ hd)

theorem KeepsG.beginReset {s0 s : State} (h : KeepsG s0 s) : KeepsG s0 (Machine.beginReset s) := by
  unfold Machine.beginReset; dsimp only
  exact KeepsG.lift (Keeps.refl _).refreshPresented ((KeepsG.lift ((Keeps.refl _).mapAlarm _ rfl rfl) h).claimReset _ _)

end Sys2Proof.Machine
end

