-- ==== Sys2Proof/Laws/KeepsRest.lean ====
section
/-! SUPPORT. `Keeps` and `KeepsG` for the Scanner, the Loop Master, the end of start-up and the Settings Store. -/

namespace Sys2Proof.Machine

theorem Keeps.clearWiring {s0 s : State} (n : Nat) (h : Keeps s0 s) : Keeps s0 (Machine.clearWiring n s) := by
  unfold Machine.clearWiring; try dsimp only
  repeat' first | assumption | with_reducible apply Keeps.mapChannel | with_reducible apply Keeps.clearFault | split

theorem Keeps.reportWiring {s0 s : State} (n : Nat) (b : Band) (h : Keeps s0 s) : Keeps s0 (Machine.reportWiring n b s) := by
  unfold Machine.reportWiring; try dsimp only
  repeat' first | assumption | with_reducible apply Keeps.clearWiring | with_reducible apply Keeps.mapChannel | with_reducible apply Keeps.raiseFault | split

theorem KeepsG.reportAlarm {s0 s : State} (n : Nat) (mark : AlarmMark) (h : KeepsG s0 s) : KeepsG s0 (Machine.reportAlarm n mark s) := by
  unfold Machine.reportAlarm; try dsimp only
  repeat' first | assumption | with_reducible apply KeepsG.handReports | with_reducible refine KeepsG.lift (Keeps.mapChannel _ _ (Keeps.refl _)) ?_

theorem KeepsG.reportOut {s0 s : State} (n : Nat) (h : KeepsG s0 s) : KeepsG s0 (Machine.reportOut n s) := by
  unfold Machine.reportOut; try dsimp only
  repeat' first | assumption | with_reducible apply KeepsG.handReports | with_reducible refine KeepsG.lift (Keeps.mapChannel _ _ (Keeps.refl _)) ?_

theorem Keeps.abandonWithAlarm {s0 s : State} (n : Nat) (h : Keeps s0 s) : Keeps s0 (Machine.abandonWithAlarm s n) := by
  unfold Machine.abandonWithAlarm; try dsimp only
  repeat' first | assumption | with_reducible apply Keeps.changeNotice | with_reducible apply Keeps.mapChannel

theorem KeepsG.alarmConfirmed {s0 s : State} (n : Nat) (previous : ChannelState) (h : KeepsG s0 s) : KeepsG s0 (Machine.alarmConfirmed n previous s) := by
  unfold Machine.alarmConfirmed; try dsimp only
  repeat' first | assumption | with_reducible apply KeepsG.foldl | with_reducible apply KeepsG.reportAlarm | with_reducible refine KeepsG.lift (Keeps.abandonWithAlarm _ (Keeps.refl _)) ?_ | with_reducible refine KeepsG.lift (Keeps.changeNotice _ _ _ _ (Keeps.refl _)) ?_ | split | intro _ _ _ _

theorem Keeps.beginVerification {s0 s : State} (n : Nat) (previous : ChannelState) (h : Keeps s0 s) : Keeps s0 (Machine.beginVerification n previous s) := by
  unfold Machine.beginVerification; try dsimp only
  repeat' first | assumption | with_reducible apply Keeps.changeNotice | with_reducible apply Keeps.mapChannel

theorem KeepsG.reportClear {s0 s : State} (n : Nat) (h : KeepsG s0 s) : KeepsG s0 (Machine.reportClear n s) := by
  unfold Machine.reportClear; try dsimp only
  repeat' first | assumption | with_reducible apply KeepsG.reportOut | split

theorem KeepsG.changeState {s0 s : State} (n : Nat) (b : Band) (previous : ChannelState) (h : KeepsG s0 s) : KeepsG s0 (Machine.changeState n b previous s) := by
  unfold Machine.changeState; try dsimp only
  repeat' first | assumption | with_reducible apply KeepsG.reportClear | with_reducible apply KeepsG.alarmConfirmed | with_reducible refine KeepsG.lift (Keeps.beginVerification _ _ (Keeps.refl _)) ?_ | with_reducible refine KeepsG.lift (Keeps.reportWiring _ _ (Keeps.refl _)) ?_ | with_reducible refine KeepsG.lift (Keeps.changeNotice _ _ _ _ (Keeps.refl _)) ?_ | with_reducible refine KeepsG.lift (Keeps.mapChannel _ _ (Keeps.refl _)) ?_ | split

theorem KeepsG.takeConfirmed {s0 s : State} (n : Nat) (b : Band) (h : KeepsG s0 s) : KeepsG s0 (Machine.takeConfirmed n b s) := by
  unfold Machine.takeConfirmed; try dsimp only
  repeat' first | assumption | with_reducible apply KeepsG.changeState | with_reducible apply KeepsG.reportClear | with_reducible refine KeepsG.lift (Keeps.clearWiring _ (Keeps.refl _)) ?_ | with_reducible refine KeepsG.lift (Keeps.mapChannel _ _ (Keeps.refl _)) ?_ | split

theorem KeepsG.takeWindowBand {s0 s : State} (n : Nat) (b : Band) (h : KeepsG s0 s) : KeepsG s0 (Machine.takeWindowBand n b s) := by
  unfold Machine.takeWindowBand; try dsimp only
  repeat' first | assumption | with_reducible apply KeepsG.reportAlarm | with_reducible refine KeepsG.lift (Keeps.reportWiring _ _ (Keeps.refl _)) ?_ | with_reducible refine KeepsG.lift (Keeps.changeNotice _ _ _ _ (Keeps.refl _)) ?_ | with_reducible refine KeepsG.lift (Keeps.mapChannel _ _ (Keeps.refl _)) ?_ | split

theorem KeepsG.judgeVisit {s0 s : State} (n : Nat) (c : ChannelRecord) (b : Band) (confirmed : Bool) (h : KeepsG s0 s) : KeepsG s0 (Machine.judgeVisit n c b confirmed s) := by
  unfold Machine.judgeVisit; try dsimp only
  repeat' first | assumption | with_reducible apply KeepsG.takeWindowBand | with_reducible apply KeepsG.takeConfirmed | with_reducible apply KeepsG.handResults | with_reducible refine KeepsG.lift (Keeps.countCheck _ _ (Keeps.refl _)) ?_ | with_reducible refine KeepsG.lift (Keeps.mapChannel _ _ (Keeps.refl _)) ?_ | split

theorem KeepsG.visitChannel {s0 s : State} (n : Nat) (reading : Byte) (h : KeepsG s0 s) : KeepsG s0 (Machine.visitChannel n reading s) := by
  unfold Machine.visitChannel; try dsimp only
  repeat' first | assumption | with_reducible apply KeepsG.judgeVisit | with_reducible refine KeepsG.lift (Keeps.mapChannel _ _ (Keeps.refl _)) ?_ | with_reducible refine KeepsG.lift (Keeps.mapScanner _ (Keeps.refl _)) ?_ | split

theorem Keeps.setIsolation {s0 s : State} (yes : Bool) (t : IsolationTarget) (h : Keeps s0 s) : Keeps s0 (Machine.setIsolation yes t s) :=
  h.same rfl rfl rfl rfl rfl rfl rfl

theorem Keeps.isolateChannel {s0 s : State} (n : Nat) (h : Keeps s0 s) : Keeps s0 (Machine.isolateChannel s n) := by
  unfold Machine.isolateChannel; try dsimp only
  repeat' first | assumption | with_reducible apply Keeps.clearWiring | with_reducible apply Keeps.channelNotice | with_reducible apply Keeps.mapChannel | split

theorem Keeps.makeIsolated {s0 s : State} (t : IsolationTarget) (h : Keeps s0 s) : Keeps s0 (Machine.makeIsolated t s) := by
  unfold Machine.makeIsolated; try dsimp only
  repeat' first | assumption | with_reducible apply Keeps.foldl | with_reducible apply Keeps.isolateChannel | with_reducible apply Keeps.setIsolation | with_reducible apply Keeps.raiseFault

theorem Keeps.restoreChannel {s0 s : State} (n : Nat) (h : Keeps s0 s) : Keeps s0 (Machine.restoreChannel s n) := by
  unfold Machine.restoreChannel; try dsimp only
  repeat' first | assumption | with_reducible apply Keeps.channelNotice | with_reducible apply Keeps.mapChannel | split

theorem Keeps.makeRestored {s0 s : State} (t : IsolationTarget) (h : Keeps s0 s) : Keeps s0 (Machine.makeRestored t s) := by
  unfold Machine.makeRestored; try dsimp only
  repeat' first | assumption | with_reducible apply Keeps.foldl | with_reducible apply Keeps.restoreChannel | with_reducible apply Keeps.setIsolation | with_reducible apply Keeps.clearFault

theorem KeepsG.reconfigureChannel {s0 s : State} (n : Nat) (h : KeepsG s0 s) : KeepsG s0 (Machine.reconfigureChannel s n) := by
  unfold Machine.reconfigureChannel; try dsimp only
  repeat' first | assumption | with_reducible apply KeepsG.handResults | with_reducible refine KeepsG.lift (Keeps.clearWiring _ (Keeps.refl _)) ?_ | with_reducible refine KeepsG.lift (Keeps.countCheck _ _ (Keeps.refl _)) ?_ | with_reducible refine KeepsG.lift (Keeps.changeNotice _ _ _ _ (Keeps.refl _)) ?_ | with_reducible refine KeepsG.lift (Keeps.mapChannel _ _ (Keeps.refl _)) ?_ | split

theorem Keeps.failVerification {s0 s : State} (n : Nat) (c : ChannelRecord) (h : Keeps s0 s) : Keeps s0 (Machine.failVerification n c s) := by
  unfold Machine.failVerification; try dsimp only
  repeat' first | assumption | with_reducible apply Keeps.reportWiring | with_reducible apply Keeps.changeNotice | with_reducible apply Keeps.mapChannel | with_reducible apply Keeps.raiseFault | split

theorem Keeps.endAtLimit {s0 s : State} (o : Order) (r : Repetition) (h : Keeps s0 s) : Keeps s0 (Machine.endAtLimit o r s) := by
  unfold Machine.endAtLimit; try dsimp only
  repeat' first | assumption | with_reducible apply Keeps.foldl | with_reducible apply Keeps.missUnit | with_reducible apply Keeps.endRepetition | split | intro _ _ _ _

theorem Keeps.acknowledgeEntryFault {s0 s : State} (p : Port) (e : FaultEntry) (h : Keeps s0 s) : Keeps s0 (Machine.acknowledgeEntryFault p e s) := by
  unfold Machine.acknowledgeEntryFault
  split
  · exact h
  · dsimp only
    exact (h.setSup _ fun _ x => change_sound s.sup e.source e.kind { e with acked := true } rfl x).faultNotice _ _ _ _
  · exact (h.setSup _ fun _ x => remove_sound _ _ _ x).faultNotice _ _ _ _

theorem Keeps.resetLost {s0 s : State} (h : Keeps s0 s) : Keeps s0 (Machine.resetLost s) := by
  unfold Machine.resetLost; dsimp only
  exact (h.setSup _ fun _ x => judge_sound { s.sup with lost := 0 } x.2.1 (Nat.zero_le _) x.2.2.2).notify _ _

theorem Keeps.resolutionNotice {s0 s : State} (h : Keeps s0 s) : Keeps s0 (Machine.resolutionNotice s) := by
  unfold Machine.resolutionNotice; try dsimp only
  repeat' first | assumption | with_reducible apply Keeps.curtainNotice

/-- R99: the resolution takes the curtain out of DROPPING, so it can break no SHOW. -/
theorem Keeps.resolveFresh {s0 s : State} (hr : s.curtain.resolved = false) (h : Keeps s0 s) : Keeps s0 (Machine.resolveFresh s) := by
  unfold Machine.resolveFresh; dsimp only
  have k : Keeps s0 (Machine.mapCurtain (Curtain.resolve s.lines (stepRecent s) s.settings.curtain s.uptime) s) := by
    refine h.trans ⟨rfl, rfl, id, id, fun _ => setOutputs_sound _ fun _ => rfl, fun x y z => ?_, id, rfl, rfl, fun _ => rfl⟩
    have hu := y z
    have := x.2.2.2 (by rw [hu]; exact fun e => by cases e)
    rw [hr] at this; cases this
  revert k
  generalize Machine.mapCurtain (Curtain.resolve s.lines (stepRecent s) s.settings.curtain s.uptime) s = s1
  intro k
  apply Keeps.judgeEmergency; apply Keeps.resolutionNotice
  split
  · exact k.raiseCurtainFault _
  · exact k.placeWarning
  all_goals exact k

theorem Keeps.resolveCurtain {s0 s : State} (h : Keeps s0 s) : Keeps s0 (Machine.resolveCurtain s) := by
  unfold Machine.resolveCurtain
  split
  · exact h.resolutionNotice
  · rename_i hr; exact h.resolveFresh (by simpa using hr)

theorem Keeps.startScanning {s0 s : State} (h : Keeps s0 s) : Keeps s0 (Machine.startScanning s) :=
  h.same rfl rfl rfl rfl rfl rfl rfl

theorem Keeps.atStep {s0 s : State} (x : StartStep) (h : Keeps s0 s) : Keeps s0 { s with startStep := x } :=
  h.same rfl rfl rfl rfl rfl rfl rfl

theorem KeepsG.startUptime {s0 s : State} (h : KeepsG s0 s) : KeepsG s0 (Machine.startUptime s) := by
  unfold Machine.startUptime; dsimp only
  refine KeepsG.lift (Keeps.refl _).refreshPresented ?_
  apply KeepsG.handReports
  exact KeepsG.lift (((((Keeps.refl s).atStep .done).mapClock _).notify _ _).mapScanner _) h

theorem KeepsG.endStartUp {s0 s : State} (h : KeepsG s0 s) : KeepsG s0 (Machine.endStartUp s) := by
  unfold Machine.endStartUp
  apply KeepsG.startUptime
  exact KeepsG.lift (((Keeps.refl s).startScanning.resolveCurtain).atStep .curtain) h

theorem Keeps.loopNotice {s0 s : State} (n : Notice) (h : Keeps s0 s) : Keeps s0 (Machine.loopNotice n s) := by
  unfold Machine.loopNotice; try dsimp only
  repeat' first | assumption | with_reducible apply Keeps.notify

theorem Keeps.raiseUnitFault {s0 s : State} (a : Nat) (k : FaultKind) (h : Keeps s0 s) : Keeps s0 (Machine.raiseUnitFault a k s) := by
  unfold Machine.raiseUnitFault; try dsimp only
  repeat' first | assumption | with_reducible apply Keeps.mapRow | with_reducible apply Keeps.raiseFault

theorem Keeps.clearUnitFault {s0 s : State} (a : Nat) (k : FaultKind) (h : Keeps s0 s) : Keeps s0 (Machine.clearUnitFault a k s) := by
  unfold Machine.clearUnitFault; try dsimp only
  repeat' first | assumption | with_reducible apply Keeps.mapRow | with_reducible apply Keeps.clearFault | split

theorem Keeps.reportAbsence {s0 s : State} (a : Nat) (expected : UnitKind) (h : Keeps s0 s) : Keeps s0 (Machine.reportAbsence a expected s) := by
  unfold Machine.reportAbsence; try dsimp only
  repeat' first | assumption | with_reducible apply Keeps.callUnitGone | with_reducible apply Keeps.onField | split

theorem Keeps.goAbsent {s0 s : State} (a : Nat) (expected : UnitKind) (fault : Option FaultKind) (n : Notice) (h : Keeps s0 s) : Keeps s0 (Machine.goAbsent a expected fault n s) := by
  unfold Machine.goAbsent; try dsimp only
  repeat' first | assumption | with_reducible apply Keeps.reportAbsence | with_reducible apply Keeps.raiseUnitFault | with_reducible apply Keeps.loopNotice | with_reducible apply Keeps.mapLoop | split

theorem Keeps.absentByMisses {s0 s : State} (a : Nat) (h : Keeps s0 s) : Keeps s0 (Machine.absentByMisses a s) := by
  unfold Machine.absentByMisses; try dsimp only
  repeat' first | assumption | with_reducible apply Keeps.goAbsent

theorem Keeps.miss {s0 s : State} (a : Nat) (h : Keeps s0 s) : Keeps s0 (Machine.miss a s) := by
  unfold Machine.miss; try dsimp only
  repeat' first | assumption | with_reducible apply Keeps.absentByMisses | with_reducible apply Keeps.mapRow | split

theorem Keeps.reportPresence {s0 s : State} (a : Nat) (outputs : Option Nat) (h : Keeps s0 s) : Keeps s0 (Machine.reportPresence a outputs s) := by
  unfold Machine.reportPresence; try dsimp only
  repeat' first | assumption | with_reducible apply Keeps.callUnitPresent | with_reducible apply Keeps.onField | split

theorem Keeps.presenceNotice {s0 s : State} (a : Nat) (outputs : Option Nat) (area : Option Nat) (h : Keeps s0 s) : Keeps s0 (Machine.presenceNotice a outputs area s) := by
  unfold Machine.presenceNotice; try dsimp only
  repeat' first | assumption | with_reducible apply Keeps.loopNotice

theorem Keeps.fallBack {s0 s : State} (h : Keeps s0 s) : Keeps s0 (Machine.fallBack s) := by
  unfold Machine.fallBack; try dsimp only
  repeat' first | assumption | with_reducible apply Keeps.loopNotice | with_reducible apply Keeps.spend | with_reducible apply Keeps.mapLoop | with_reducible apply Keeps.raiseFault

theorem Keeps.countGarbled {s0 s : State} (a : Nat) (h : Keeps s0 s) : Keeps s0 (Machine.countGarbled a s) := by
  unfold Machine.countGarbled; try dsimp only
  repeat' first | assumption | with_reducible apply Keeps.fallBack | with_reducible apply Keeps.mapLoop | split

theorem Keeps.heard {s0 s : State} (a : Nat) (good : Bool) (h : Keeps s0 s) : Keeps s0 (Machine.heard a good s) := by
  unfold Machine.heard; try dsimp only
  repeat' first | assumption | with_reducible apply Keeps.clearUnitFault | with_reducible apply Keeps.raiseUnitFault | with_reducible apply Keeps.mapRow | split

theorem Keeps.unheard {s0 s : State} (a : Nat) (o : LoopOutcome) (h : Keeps s0 s) : Keeps s0 (Machine.unheard a o s) := by
  unfold Machine.unheard; try dsimp only
  repeat' first | assumption | with_reducible apply Keeps.countGarbled | with_reducible apply Keeps.miss | split

theorem Keeps.endTransaction {s0 s : State} (h : Keeps s0 s) : Keeps s0 (Machine.endTransaction s) := by
  unfold Machine.endTransaction; try dsimp only
  repeat' first | assumption | with_reducible apply Keeps.mapLoop

theorem Keeps.takePoll {s0 s : State} (a : Nat) (b : LoopBody) (h : Keeps s0 s) : Keeps s0 (Machine.takePoll a b s) := by
  unfold Machine.takePoll; try dsimp only
  repeat' first | assumption | with_reducible apply Keeps.mapRow | with_reducible apply Keeps.unitReport | split

theorem Keeps.scheduleNext {s0 s : State} (a began : Nat) (h : Keeps s0 s) : Keeps s0 (Machine.scheduleNext a began s) := by
  unfold Machine.scheduleNext; try dsimp only
  repeat' first | assumption | with_reducible apply Keeps.mapRow

theorem Keeps.endPoll {s0 s : State} (a : Nat) (o : LoopOutcome) (h : Keeps s0 s) : Keeps s0 (Machine.endPoll a o s) := by
  unfold Machine.endPoll; try dsimp only
  repeat' first | assumption | with_reducible apply Keeps.takePoll | with_reducible apply Keeps.unheard | with_reducible apply Keeps.heard | split

theorem Keeps.completeSet {s0 s : State} (a : Nat) (h : Keeps s0 s) : Keeps s0 (Machine.completeSet a s) := by
  unfold Machine.completeSet; try dsimp only
  repeat' first | assumption | with_reducible apply Keeps.mapLoop | with_reducible apply Keeps.onField

theorem Keeps.takeAnswer {s0 s : State} (a : Nat) (x : SetAnswer) (good : Bool) (h : Keeps s0 s) : Keeps s0 (Machine.takeAnswer a x good s) := by
  unfold Machine.takeAnswer; try dsimp only
  repeat' first | assumption | with_reducible apply Keeps.heard | with_reducible apply Keeps.clearUnitFault | with_reducible apply Keeps.raiseUnitFault | with_reducible apply Keeps.mapRow | split

theorem Keeps.endSet {s0 s : State} (a : Nat) (sent : List Nat) (held : Bool) (o : LoopOutcome) (h : Keeps s0 s) : Keeps s0 (Machine.endSet a sent held o s) := by
  unfold Machine.endSet; try dsimp only
  repeat' first | assumption | with_reducible apply Keeps.takeAnswer | with_reducible apply Keeps.completeSet | with_reducible apply Keeps.endTransaction | with_reducible apply Keeps.unheard | with_reducible apply Keeps.mapLoop | split

theorem Keeps.takeVerdict {s0 s : State} (a : Nat) (confirmed : Bool) (h : Keeps s0 s) : Keeps s0 (Machine.takeVerdict a confirmed s) := by
  unfold Machine.takeVerdict; try dsimp only
  repeat' first | assumption | with_reducible apply Keeps.completeSet | with_reducible apply Keeps.clearUnitFault | with_reducible apply Keeps.raiseUnitFault | with_reducible apply Keeps.onField | split

theorem Keeps.endRead {s0 s : State} (a : Nat) (sent : List Nat) (o : LoopOutcome) (h : Keeps s0 s) : Keeps s0 (Machine.endRead a sent o s) := by
  unfold Machine.endRead; try dsimp only
  repeat' first | assumption | with_reducible apply Keeps.mapLoop | with_reducible apply Keeps.takeVerdict | with_reducible apply Keeps.endTransaction | with_reducible apply Keeps.unheard | with_reducible apply Keeps.heard | split

theorem Keeps.recordKind {s0 s : State} (a : Nat) (kind : UnitKind) (h : Keeps s0 s) : Keeps s0 (Machine.recordKind a kind s) := by
  unfold Machine.recordKind; try dsimp only
  repeat' first | assumption | with_reducible apply Keeps.mapRow

theorem Keeps.unlessStarting {s0 s : State} (f : State → State) (h : Keeps s0 s) (hf : ∀ (s0 s : State), Keeps s0 s → Keeps s0 (f s)) : Keeps s0 (Machine.unlessStarting f s) := by
  unfold Machine.unlessStarting; try dsimp only
  repeat' first | assumption | refine hf _ _ ?_ | split

theorem Keeps.becomePresent {s0 s : State} (a : Nat) (kind : UnitKind) (outputs : Nat) (area : Nat) (h : Keeps s0 s) : Keeps s0 (Machine.becomePresent a kind outputs area s) := by
  unfold Machine.becomePresent; try dsimp only
  repeat' first | assumption | with_reducible apply Keeps.unlessStarting | with_reducible apply Keeps.presenceNotice | with_reducible apply Keeps.reportPresence | with_reducible apply Keeps.clearUnitFault | with_reducible apply Keeps.mapRow | split | intro _ _ _

theorem Keeps.foundAgain {s0 s : State} (a : Nat) (kind : UnitKind) (outputs : Nat) (area : Nat) (r : UnitRow) (h : Keeps s0 s) : Keeps s0 (Machine.foundAgain a kind outputs area r s) := by
  unfold Machine.foundAgain; try dsimp only
  repeat' first | assumption | with_reducible apply Keeps.unlessStarting | with_reducible apply Keeps.presenceNotice | with_reducible apply Keeps.reportPresence | with_reducible apply Keeps.mapRow | split | intro _ _ _

theorem Keeps.foundMismatch {s0 s : State} (a : Nat) (r : UnitRow) (h : Keeps s0 s) : Keeps s0 (Machine.foundMismatch a r s) := by
  unfold Machine.foundMismatch; try dsimp only
  repeat' first | assumption | with_reducible apply Keeps.unlessStarting | with_reducible apply Keeps.goAbsent | with_reducible apply Keeps.clearUnitFault | with_reducible apply Keeps.raiseUnitFault | with_reducible apply Keeps.loopNotice | split | intro _ _ _

theorem Keeps.foundUnexpected {s0 s : State} (a : Nat) (h : Keeps s0 s) : Keeps s0 (Machine.foundUnexpected a s) := by
  unfold Machine.foundUnexpected; try dsimp only
  repeat' first | assumption | with_reducible apply Keeps.unlessStarting | with_reducible apply Keeps.raiseUnitFault | with_reducible apply Keeps.loopNotice | split | intro _ _ _

theorem Keeps.takeIdentity {s0 s : State} (a : Nat) (kind : UnitKind) (outputs : Nat) (area : Nat) (h : Keeps s0 s) : Keeps s0 (Machine.takeIdentity a kind outputs area s) := by
  unfold Machine.takeIdentity; try dsimp only
  repeat' first | assumption | with_reducible apply Keeps.foundUnexpected | with_reducible apply Keeps.foundMismatch | with_reducible apply Keeps.foundAgain | with_reducible apply Keeps.becomePresent | with_reducible apply Keeps.recordKind | split

theorem Keeps.takeNothing {s0 s : State} (a : Nat) (o : LoopOutcome) (h : Keeps s0 s) : Keeps s0 (Machine.takeNothing a o s) := by
  unfold Machine.takeNothing; try dsimp only
  repeat' first | assumption | with_reducible apply Keeps.recordKind | with_reducible apply Keeps.miss | with_reducible apply Keeps.clearUnitFault | with_reducible apply Keeps.raiseUnitFault | split

theorem Keeps.takeFinding {s0 s : State} (a : Nat) (o : LoopOutcome) (h : Keeps s0 s) : Keeps s0 (Machine.takeFinding a o s) := by
  unfold Machine.takeFinding; try dsimp only
  repeat' first | assumption | with_reducible apply Keeps.takeNothing | with_reducible apply Keeps.takeIdentity | with_reducible apply Keeps.heard | with_reducible apply Keeps.countGarbled | split

theorem Keeps.raiseMissing {s0 s : State} (a : Nat) (h : Keeps s0 s) : Keeps s0 (Machine.raiseMissing s a) := by
  unfold Machine.raiseMissing; try dsimp only
  repeat' first | assumption | with_reducible apply Keeps.raiseUnitFault | split

theorem Keeps.handPresence {s0 s : State} (a : Nat) (h : Keeps s0 s) : Keeps s0 (Machine.handPresence s a) := by
  unfold Machine.handPresence; try dsimp only
  repeat' first | assumption | with_reducible apply Keeps.reportPresence | split

theorem KeepsG.endStartUpSurvey {s0 s : State} (v : Survey) (h : KeepsG s0 s) : KeepsG s0 (Machine.endStartUpSurvey v s) := by
  unfold Machine.endStartUpSurvey; try dsimp only
  repeat' first | assumption | with_reducible apply KeepsG.foldl | with_reducible apply KeepsG.endStartUp | with_reducible refine KeepsG.lift (Keeps.handPresence _ (Keeps.refl _)) ?_ | with_reducible refine KeepsG.lift (Keeps.raiseMissing _ (Keeps.refl _)) ?_ | with_reducible refine KeepsG.lift (Keeps.loopNotice _ (Keeps.refl _)) ?_ | with_reducible refine KeepsG.lift (Keeps.mapLoop _ (Keeps.refl _)) ?_ | split | intro _ _ _ _

theorem Keeps.endFullSurvey {s0 s : State} (v : Survey) (h : Keeps s0 s) : Keeps s0 (Machine.endFullSurvey v s) := by
  unfold Machine.endFullSurvey; try dsimp only
  repeat' first | assumption | with_reducible apply Keeps.loopNotice | with_reducible apply Keeps.mapLoop

theorem KeepsG.advanceSurvey {s0 s : State} (answered : Bool) (h : KeepsG s0 s) : KeepsG s0 (Machine.advanceSurvey answered s) := by
  unfold Machine.advanceSurvey; try dsimp only
  repeat' first | assumption | with_reducible apply KeepsG.endStartUpSurvey | with_reducible refine KeepsG.lift (Keeps.endFullSurvey _ (Keeps.refl _)) ?_ | with_reducible refine KeepsG.lift (Keeps.mapLoop _ (Keeps.refl _)) ?_ | split

theorem KeepsG.endProbe {s0 s : State} (a : Nat) (k : ProbeKind) (o : LoopOutcome) (h : KeepsG s0 s) : KeepsG s0 (Machine.endProbe a k o s) := by
  unfold Machine.endProbe; try dsimp only
  repeat' first | assumption | with_reducible apply KeepsG.advanceSurvey | with_reducible refine KeepsG.lift (Keeps.takeFinding _ _ (Keeps.refl _)) ?_ | with_reducible refine KeepsG.lift (Keeps.endTransaction (Keeps.refl _)) ?_ | split

theorem Keeps.lostOutcome {s0 s : State} (a : Nat) (o : LoopOutcome) (h : Keeps s0 s) : Keeps s0 (Machine.lostOutcome a o s) := by
  unfold Machine.lostOutcome; try dsimp only
  repeat' first | assumption | with_reducible apply Keeps.takeAnswer | with_reducible apply Keeps.takePoll | with_reducible apply Keeps.endPoll | with_reducible apply Keeps.unheard | with_reducible apply Keeps.heard | split

theorem KeepsG.takeOutcome {s0 s : State} (t : Transaction) (o : LoopOutcome) (h : KeepsG s0 s) : KeepsG s0 (Machine.takeOutcome t o s) := by
  unfold Machine.takeOutcome; try dsimp only
  repeat' first | assumption | with_reducible apply KeepsG.endProbe | with_reducible refine KeepsG.lift (Keeps.lostOutcome _ _ (Keeps.refl _)) ?_ | with_reducible refine KeepsG.lift (Keeps.endRead _ _ _ (Keeps.refl _)) ?_ | with_reducible refine KeepsG.lift (Keeps.endSet _ _ _ _ (Keeps.refl _)) ?_ | with_reducible refine KeepsG.lift (Keeps.endPoll _ _ (Keeps.refl _)) ?_ | with_reducible refine KeepsG.lift (Keeps.scheduleNext _ _ (Keeps.refl _)) ?_ | with_reducible refine KeepsG.lift (Keeps.endTransaction (Keeps.refl _)) ?_ | split

theorem Keeps.clearRowFaults {s0 s : State} (a : Nat) (h : Keeps s0 s) : Keeps s0 (Machine.clearRowFaults a s) := by
  unfold Machine.clearRowFaults; try dsimp only
  repeat' first | assumption | with_reducible apply Keeps.foldl | with_reducible apply Keeps.clearUnitFault | split | intro _ _ _ _

theorem Keeps.reexpect {s0 s : State} (old : Settings) (a : Nat) (h : Keeps s0 s) : Keeps s0 (Machine.reexpect old s a) := by
  unfold Machine.reexpect; try dsimp only
  repeat' first | assumption | with_reducible apply Keeps.clearRowFaults | with_reducible apply Keeps.mapRow | with_reducible apply Keeps.goAbsent | with_reducible apply Keeps.mapLoop | split

theorem Keeps.applyLoopRow {s0 s : State} (old : Settings) (a : Nat) (h : Keeps s0 s) : Keeps s0 (Machine.applyLoopRow old s a) := by
  unfold Machine.applyLoopRow; try dsimp only
  repeat' first | assumption | with_reducible apply Keeps.reexpect | with_reducible apply Keeps.clearUnitFault | split

theorem Keeps.applyLoop {s0 s : State} (old : Settings) (h : Keeps s0 s) : Keeps s0 (Machine.applyLoop old s) := by
  unfold Machine.applyLoop; try dsimp only
  repeat' first | assumption | with_reducible apply Keeps.foldl | with_reducible apply Keeps.applyLoopRow | split | intro _ _ _ _

theorem Keeps.retrain {s0 s : State} (h : Keeps s0 s) : Keeps s0 (Machine.retrain s) := by
  unfold Machine.retrain; try dsimp only
  repeat' first | assumption | with_reducible apply Keeps.loopNotice | with_reducible apply Keeps.mapLoop | with_reducible apply Keeps.clearFault | split

theorem Keeps.broadcastSent {s0 s : State} (h : Keeps s0 s) : Keeps s0 (Machine.broadcastSent s) := by
  unfold Machine.broadcastSent; try dsimp only
  repeat' first | assumption | with_reducible apply Keeps.callSent | with_reducible apply Keeps.mapLoop | split

theorem KeepsG.handSection {s0 s : State} (n : SectionName) (old : Settings) (h : KeepsG s0 s) : KeepsG s0 (Machine.handSection n old s) := by
  unfold Machine.handSection; try dsimp only
  repeat' first | assumption | with_reducible apply KeepsG.foldl | with_reducible apply KeepsG.reconfigureChannel | with_reducible refine KeepsG.lift (Keeps.applyLoop _ (Keeps.refl _)) ?_ | with_reducible refine KeepsG.lift (Keeps.onField _ (Keeps.refl _)) ?_ | split

theorem KeepsG.applyConfig {s0 s : State} (n : SectionName) (fs : List ConfigField) (h : KeepsG s0 s) : KeepsG s0 (Machine.applyConfig n fs s) := by
  unfold Machine.applyConfig
  apply KeepsG.handSection
  exact KeepsG.lift (((Keeps.refl s).same rfl rfl rfl rfl rfl rfl rfl : Keeps s { s with settings := applyFields fs s.settings }).markChanged n) h

theorem Keeps.beginStore {s0 s : State} (n : SectionName) (h : Keeps s0 s) : Keeps s0 (Machine.beginStore n s) := by
  unfold Machine.beginStore; try dsimp only
  repeat' first | assumption | with_reducible apply Keeps.mapStoreRow | with_reducible apply Keeps.setOperation

theorem Keeps.endStore {s0 s : State} (op : StoreOperation) (h : Keeps s0 s) : Keeps s0 (Machine.endStore op s) := by
  unfold Machine.endStore; try dsimp only
  repeat' first | assumption | with_reducible apply Keeps.mapStoreRow | with_reducible apply Keeps.setOperation | with_reducible apply Keeps.clearFault | with_reducible apply Keeps.notify

theorem Keeps.setSubscriptions {s0 s : State} (p : Port) (u : Subscriptions) (h : Keeps s0 s) : Keeps s0 (Machine.setSubscriptions p u s) := by
  have k : Keeps s0 { s with settings := { s.settings with ports := s.settings.ports.setSubs p u } } := h.same rfl rfl rfl rfl rfl rfl rfl
  unfold Machine.setSubscriptions; dsimp only
  split
  · exact k
  · exact k.markChanged _

end Sys2Proof.Machine
end

