-- ==== Sys2Proof/Laws/Leaves.lean ====
section
/-! SUPPORT. `Leaves s t` says what the call line, the loop and the transmitters leave alone when they work, as they do at the end of every event: everything but the calls, the loop, the refresh of lamp units, the frames added to the output queues, the Scanner's path, the fields that refer to an ended order, and the display step that waits for one. -/

namespace Sys2Proof.Machine

/-- A lamp channel's number with the claims that no flash touches. -/
def Lamp.claims (l : Lamp) : Nat × Option LevelClaim × Option LevelClaim × Option LevelClaim := (l.num, l.safety, l.manual, l.cue)

/-- A lamp channel but for its sent level. -/
def Lamp.unsent (l : Lamp) : Lamp := { l with sent := none }

/-- An alarm entry but for the field that refers to its staff order. -/
def AlarmEntry.core (e : AlarmEntry) : AlarmEntry := { e with staffOrder := none }

structure Leaves (s t : State) : Prop where
  pending : t.pending = s.pending
  held : t.resetHeld = s.resetHeld
  startStep : t.startStep = s.startStep
  uptime : t.uptime = s.uptime
  clock : t.clock = s.clock
  freeCount : t.freeCount = s.freeCount
  lines : t.lines = s.lines
  settings : t.settings = s.settings
  store : t.store = s.store
  perf : t.perf = s.perf
  sup : t.sup = s.sup
  scanner : t.scanner = { s.scanner with path := t.scanner.path }
  alarm : t.alarm = { s.alarm with entries := t.alarm.entries, evacOrder := t.alarm.evacOrder }
  entries : t.alarm.entries.map AlarmEntry.core = s.alarm.entries.map AlarmEntry.core
  nums : t.light.lamps.map Lamp.num = s.light.lamps.map Lamp.num
  claims : (s.light.lamps.map Lamp.num).Nodup → t.light.lamps.map Lamp.claims = s.light.lamps.map Lamp.claims
  calm : s.curtain.display ≠ some .announcing →
    t.curtain = { s.curtain with announcement := t.curtain.announcement } ∧
      t.light.lamps.map Lamp.unsent = s.light.lamps.map Lamp.unsent
  landed : s.curtain.state ≠ .up →
    t.curtain = { s.curtain with announcement := t.curtain.announcement, display := t.curtain.display } ∧
      t.light.lamps.map Lamp.unsent = s.light.lamps.map Lamp.unsent
  timer : t.curtain.timer = s.curtain.timer
  lit : t.light.lit = s.light.lit
  queues : ∀ p, ∀ f ∈ (s.port p).queue, f ∈ (t.port p).queue
  intakes : ∀ p, (t.port p).intake = (s.port p).intake

theorem Leaves.refl (s : State) : Leaves s s :=
  ⟨rfl, rfl, rfl, rfl, rfl, rfl, rfl, rfl, rfl, rfl, rfl, rfl, rfl, rfl, rfl, fun _ => rfl, fun _ => ⟨rfl, rfl⟩, fun _ => ⟨rfl, rfl⟩, rfl, rfl, fun _ _ h => h, fun _ => rfl⟩

theorem Leaves.trans {a b c : State} (h : Leaves a b) (k : Leaves b c) : Leaves a c where
  pending := k.pending.trans h.pending
  held := k.held.trans h.held
  startStep := k.startStep.trans h.startStep
  uptime := k.uptime.trans h.uptime
  clock := k.clock.trans h.clock
  freeCount := k.freeCount.trans h.freeCount
  lines := k.lines.trans h.lines
  settings := k.settings.trans h.settings
  store := k.store.trans h.store
  perf := k.perf.trans h.perf
  sup := k.sup.trans h.sup
  scanner := by rw [k.scanner, h.scanner]
  alarm := by rw [k.alarm, h.alarm]
  entries := k.entries.trans h.entries
  nums := k.nums.trans h.nums
  claims := fun x => (k.claims (h.nums ▸ x)).trans (h.claims x)
  calm := fun x => by
    have hb := h.calm x
    have hd : b.curtain.display ≠ some .announcing := by rw [hb.1]; exact x
    have hc := k.calm hd
    exact ⟨by rw [hc.1, hb.1], hc.2.trans hb.2⟩
  landed := fun x => by
    have hb := h.landed x
    have hd : b.curtain.state ≠ .up := by rw [hb.1]; exact x
    have hc := k.landed hd
    exact ⟨by rw [hc.1, hb.1], hc.2.trans hb.2⟩
  timer := k.timer.trans h.timer
  lit := k.lit.trans h.lit
  queues := fun p f x => k.queues p f (h.queues p f x)
  intakes := fun p => (k.intakes p).trans (h.intakes p)

/-- A change of the calls, the loop, the output queues and the Scanner's path. -/
theorem Leaves.plain {s0 s : State} (c : Calls) (l : Loop) (h : Leaves s0 s) : Leaves s0 { s with calls := c, loop := l } :=
  h.trans ⟨rfl, rfl, rfl, rfl, rfl, rfl, rfl, rfl, rfl, rfl, rfl, rfl, rfl, rfl, rfl, fun _ => rfl, fun _ => ⟨rfl, rfl⟩, fun _ => ⟨rfl, rfl⟩, rfl, rfl, fun _ _ h => h, fun _ => rfl⟩

theorem Leaves.mapCalls {s0 s : State} (f : Calls → Calls) (h : Leaves s0 s) : Leaves s0 (Machine.mapCalls f s) := h.plain _ s.loop
theorem Leaves.mapLoop {s0 s : State} (f : Loop → Loop) (h : Leaves s0 s) : Leaves s0 (Machine.mapLoop f s) := h.plain s.calls _

/-- The Light Engine working on its unit records and on the lanes alone. -/
theorem Leaves.ofLight {s0 s : State} (u : Light) (l : Loop) (h : Leaves s0 s) (e : u.lamps.map Lamp.unsent = s.light.lamps.map Lamp.unsent)
    (el : u.lit = s.light.lit) :
    Leaves s0 { s with light := u, loop := l } := by
  have en : u.lamps.map Lamp.num = s.light.lamps.map Lamp.num := by
    have := congrArg (List.map Lamp.num) e
    simpa [List.map_map, Function.comp_def, Lamp.unsent] using this
  have ec : u.lamps.map Lamp.claims = s.light.lamps.map Lamp.claims := by
    have := congrArg (List.map Lamp.claims) e
    rw [List.map_map, List.map_map] at this
    exact this
  exact h.trans ⟨rfl, rfl, rfl, rfl, rfl, rfl, rfl, rfl, rfl, rfl, rfl, rfl, rfl, rfl, en, fun _ => ec, fun _ => ⟨rfl, e⟩, fun _ => ⟨rfl, e⟩, rfl, el, fun _ _ h => h, fun _ => rfl⟩

theorem Leaves.ofPorts {s0 s : State} (q : Ports) (h : Leaves s0 s) (h1 : ∀ f ∈ s.ports.stage.queue, f ∈ q.stage.queue)
    (h2 : ∀ f ∈ s.ports.front.queue, f ∈ q.front.queue) (i1 : q.stage.intake = s.ports.stage.intake)
    (i2 : q.front.intake = s.ports.front.intake) : Leaves s0 { s with ports := q } :=
  h.trans ⟨rfl, rfl, rfl, rfl, rfl, rfl, rfl, rfl, rfl, rfl, rfl, rfl, rfl, rfl, rfl, fun _ => rfl, fun _ => ⟨rfl, rfl⟩, fun _ => ⟨rfl, rfl⟩,
    rfl, rfl, fun p => by cases p; exacts [h1, h2], fun p => by cases p; exacts [i1, i2]⟩

theorem Leaves.mapPort {s0 s : State} (p : Port) (f : PortUnit → PortUnit) (h : Leaves s0 s)
    (hf : ∀ x ∈ (s.port p).queue, x ∈ (f (s.port p)).queue) (hi : (f (s.port p)).intake = (s.port p).intake) :
    Leaves s0 (s.mapPort p f) := by
  cases p
  · exact h.ofPorts _ hf (fun _ x => x) hi rfl
  · exact h.ofPorts _ (fun _ x => x) hf rfl hi

theorem Leaves.placeAlways {s0 s : State} (p : Port) (n : Notice) (h : Leaves s0 s) : Leaves s0 (Machine.placeAlways p n s) := by
  unfold Machine.placeAlways
  split
  · refine h.mapPort p _ (fun x hx => ?_) (placeNotice_intake n _)
    unfold PortUnit.placeNotice; split
    · exact hx
    · exact List.mem_append_left _ hx
  · exact h

theorem Leaves.placeOn {s0 s : State} (p : Port) (f : Family) (n : Notice) (h : Leaves s0 s) : Leaves s0 (Machine.placeOn p f n s) := by
  unfold Machine.placeOn
  split
  · exact h.placeAlways p n
  · exact h

theorem Leaves.notify {s0 s : State} (f : Family) (n : Notice) (h : Leaves s0 s) : Leaves s0 (Machine.notify f n s) := (h.placeOn _ _ _).placeOn _ _ _
theorem Leaves.notifyAlways {s0 s : State} (n : Notice) (h : Leaves s0 s) : Leaves s0 (Machine.notifyAlways n s) := (h.placeAlways _ _).placeAlways _ _

/-- The reply to a request that is with its owner stands in the queue of its port. -/
theorem placeReply_mem (tag : Tag) (o : ReplyOutcome) (u : PortUnit) (h : u.owes tag = true) :
    OutFrame.reply tag o ∈ (u.placeReply tag o).queue := by
  unfold PortUnit.placeReply
  rw [if_pos h]
  exact List.mem_append_left _ (List.mem_append_right _ (List.mem_singleton.2 rfl))

/-- Placing a reply takes no frame out of the queue. -/
theorem placeReply_queue (tag : Tag) (o : ReplyOutcome) (u : PortUnit) : ∀ x ∈ u.queue, x ∈ (u.placeReply tag o).queue := by
  intro x hx
  unfold PortUnit.placeReply
  split
  · exact List.mem_append_left _ (List.mem_append_left _ hx)
  · exact hx

theorem reply_mem (p : Port) (tag : Tag) (o : ReplyOutcome) (s : State) (h : (s.port p).owes tag = true) :
    OutFrame.reply tag o ∈ ((reply p tag o s).port p).queue := by
  cases p <;> exact placeReply_mem tag o _ h

/-- What a reply changes: its port's intake and output queue, and of the queue nothing that stood there. -/
theorem reply_queues (p : Port) (tag : Tag) (o : ReplyOutcome) (s : State) (q : Port) :
    ∀ f ∈ (s.port q).queue, f ∈ ((reply p tag o s).port q).queue := by
  cases p <;> cases q
  exacts [placeReply_queue tag o _, fun _ h => h, fun _ h => h, placeReply_queue tag o _]

theorem transmit_queue (u : PortUnit) : u.transmit.queue = u.queue := by
  unfold PortUnit.transmit; repeat' split
  all_goals rfl

theorem Leaves.transmit {s0 s : State} (h : Leaves s0 s) : Leaves s0 (Machine.transmit s) :=
  h.ofPorts _ (fun _ x => by rw [transmit_queue]; exact x) (fun _ x => by rw [transmit_queue]; exact x) (transmit_intake _) (transmit_intake _)

/-! ## The Light Engine's part -/

/-- A function on a `Field` that leaves the lamp records. -/
theorem request_lamps (a : Nat) (c : TrafficClass) (f : Field) : (f.request a c).light.lamps = f.light.lamps := by
  unfold Field.request; dsimp only; split <;> rfl

theorem request_settings (a : Nat) (c : TrafficClass) (f : Field) : (f.request a c).settings = f.settings := by
  unfold Field.request; dsimp only; split <;> rfl

theorem markUnit_lamps (a : Nat) (c : TrafficClass) (f : Field) : (f.markUnit a c).light.lamps = f.light.lamps := by
  unfold Field.markUnit
  repeat' (first | (rw [request_lamps]; rfl) | rfl | split)

theorem judgeLamp_lamps (n : Nat) (f : Field) : (f.judgeLamp n).light.lamps = f.light.lamps := by
  unfold Field.judgeLamp
  repeat' (first | exact markUnit_lamps _ _ _ | rfl | split)

/-- A record replaced and judged leaves the lamps as the replacement made them: the judgement changes units and lanes alone. -/
theorem putJudged_lamps (l : Lamp) (f : Field) : (f.putJudged l).light.lamps = (f.light.putLamp l).lamps := judgeLamp_lamps _ _

/-- R120: a channel whose sent level is made unknown keeps all else that its record holds, and so do the others. -/
theorem forgetSent_lamps (n : Nat) (f : Field) : (f.forgetSent n).light.lamps = match f.light.lamp n with
    | none => f.light.lamps
    | some l => (f.light.putLamp { l with sent := none }).lamps := by
  unfold Field.forgetSent
  cases f.light.lamp n with
  | none => rfl
  | some l => exact putJudged_lamps _ _

theorem rehandList_lamps (l : List Nat) : ∀ f : Field, (Field.rehandList l f).light.lamps = f.light.lamps := by
  induction l with
  | nil => intro f; rfl
  | cons a l ih =>
    intro f
    unfold Field.rehandList
    split
    · dsimp only; split
      · exact request_lamps _ _ _
      · rw [ih, request_lamps]
    · exact ih f

theorem request_lit (a : Nat) (c : TrafficClass) (f : Field) : (f.request a c).light.lit = f.light.lit := by
  unfold Field.request; dsimp only; split <;> rfl

theorem markUnit_lit (a : Nat) (c : TrafficClass) (f : Field) : (f.markUnit a c).light.lit = f.light.lit := by
  unfold Field.markUnit
  repeat' (first | (rw [request_lit]; rfl) | rfl | split)

theorem changeLamp_lit (n : Nat) (g : Lamp → Lamp) (f : Field) : (f.changeLamp n g).light.lit = f.light.lit := by
  unfold Field.changeLamp Field.judgeLamp
  repeat' (first | (rw [markUnit_lit]; rfl) | rfl | (dsimp only; split) | split)

theorem changeLamps_lit (ns : List Nat) (g : Nat → Lamp → Lamp) : ∀ f : Field, (f.changeLamps ns g).light.lit = f.light.lit := by
  unfold Field.changeLamps
  induction ns with
  | nil => intro f; rfl
  | cons n ns ih => intro f; exact (ih _).trans (changeLamp_lit n _ f)

theorem rehandList_lit (l : List Nat) : ∀ f : Field, (Field.rehandList l f).light.lit = f.light.lit := by
  induction l with
  | nil => intro f; rfl
  | cons a l ih =>
    intro f
    unfold Field.rehandList
    split
    · dsimp only; split
      · exact request_lit _ _ _
      · rw [ih, request_lit]
    · exact ih f

theorem issue_unsent (a : Nat) (f : Field) : (f.issue a).light.lamps.map Lamp.unsent = f.light.lamps.map Lamp.unsent := by
  unfold Field.issue Light.changeUnit
  simp only [List.map_map]
  refine List.map_congr_left fun l _ => ?_
  simp only [Function.comp]; split <;> rfl

/-- A change of one lamp record that keeps its claims. -/
theorem changeLamp_claims (n : Nat) (g : Lamp → Lamp) (f : Field) (hg : ∀ l, (g l).safety = l.safety ∧ (g l).manual = l.manual ∧ (g l).cue = l.cue) :
    (f.changeLamp n g).light.lamps.map Lamp.num = f.light.lamps.map Lamp.num ∧
      ((f.light.lamps.map Lamp.num).Nodup → (f.changeLamp n g).light.lamps.map Lamp.claims = f.light.lamps.map Lamp.claims) := by
  unfold Field.changeLamp
  split
  · exact ⟨rfl, fun _ => rfl⟩
  · rename_i l hl
    dsimp only
    have hf : (f.light.lamps.find? (fun x => x.num == n)) = some l := hl
    have key : (f.light.putLamp { g l with num := l.num }).lamps.map Lamp.num = f.light.lamps.map Lamp.num ∧
        ((f.light.lamps.map Lamp.num).Nodup → (f.light.putLamp { g l with num := l.num }).lamps.map Lamp.claims = f.light.lamps.map Lamp.claims) := by
      unfold Light.putLamp
      constructor
      · simp only [List.map_map]
        refine List.map_congr_left fun x _ => ?_
        simp only [Function.comp]; split
        · rename_i hx; exact (by simpa using hx : x.num = l.num).symm
        · rfl
      · intro hn
        simp only [List.map_map]
        refine List.map_congr_left fun x hx => ?_
        simp only [Function.comp]; split
        · rename_i hxl
          have hxl : x.num = l.num := by simpa using hxl
          have : x = l := by
            have hml := List.mem_of_find?_eq_some hf
            exact List.inj_on_of_nodup_map hn hx hml hxl
          subst this
          obtain ⟨a, b, c⟩ := hg x
          simp [Lamp.claims, a, b, c]
        · rfl
    split
    · rw [judgeLamp_lamps]; exact key
    · exact key

theorem changeLamps_claims (ns : List Nat) (g : Nat → Lamp → Lamp)
    (hg : ∀ n l, (g n l).safety = l.safety ∧ (g n l).manual = l.manual ∧ (g n l).cue = l.cue) : ∀ f : Field,
    (f.changeLamps ns g).light.lamps.map Lamp.num = f.light.lamps.map Lamp.num ∧
      ((f.light.lamps.map Lamp.num).Nodup → (f.changeLamps ns g).light.lamps.map Lamp.claims = f.light.lamps.map Lamp.claims) := by
  unfold Field.changeLamps
  induction ns with
  | nil => intro f; exact ⟨rfl, fun _ => rfl⟩
  | cons n ns ih =>
    intro f
    have h1 := changeLamp_claims n (g n) f (hg n)
    have h2 := ih (f.changeLamp n (g n))
    exact ⟨h2.1.trans h1.1, fun x => (h2.2 (h1.1 ▸ x)).trans (h1.2 x)⟩

theorem retarget_claims (rest release : Nat) (lit : Bool) (l : Lamp) :
    (l.retarget rest release lit).safety = l.safety ∧ (l.retarget rest release lit).manual = l.manual ∧ (l.retarget rest release lit).cue = l.cue := by
  unfold Lamp.retarget
  split
  · exact ⟨rfl, rfl, rfl⟩
  · split
    · exact ⟨rfl, rfl, rfl⟩
    · unfold Lamp.startFade; split <;> exact ⟨rfl, rfl, rfl⟩

theorem placeFlash_claims (ns : List Nat) (f : Field) :
    (f.placeFlash ns).light.lamps.map Lamp.num = f.light.lamps.map Lamp.num ∧
      ((f.light.lamps.map Lamp.num).Nodup → (f.placeFlash ns).light.lamps.map Lamp.claims = f.light.lamps.map Lamp.claims) := by
  unfold Field.placeFlash Field.claim
  exact changeLamps_claims ns _ (fun n l => by
    obtain ⟨a, b, c⟩ := retarget_claims (f.settings.lamp n).rest 0 f.light.lit { l with curtain := true }
    exact ⟨a, b, c⟩) f

/-! ## The call line -/

/-- R96: the display lowering moves nothing but the curtain, its flash and the notices. -/
theorem Leaves.judgeDisplayLowering {s0 s : State} (h : Leaves s0 s) (hd : s0.curtain.display = some .announcing)
    (hst : s0.curtain.state = s.curtain.state) :
    Leaves s0 (Machine.judgeDisplayLowering s) := by
  have cur : ∀ (f : Curtain → Curtain) (s : State), (∀ c, (f c).timer = c.timer) → s0.curtain.state = .up → Leaves s0 s →
      Leaves s0 (Machine.mapCurtain f s) := fun f s ht hu k =>
    ⟨k.pending, k.held, k.startStep, k.uptime, k.clock, k.freeCount, k.lines, k.settings, k.store, k.perf, k.sup, k.scanner, k.alarm, k.entries,
      k.nums, k.claims, fun x => absurd hd x, fun x => absurd hu x, (ht _).trans k.timer, k.lit, k.queues, k.intakes⟩
  have ab : ∀ r, Leaves s0 (abandonFields r s) := by
    intro r
    unfold abandonFields; split
    · exact h
    · refine Leaves.notify _ _ ⟨h.pending, h.held, h.startStep, h.uptime, h.clock, h.freeCount, h.lines, h.settings, h.store, h.perf, h.sup, h.scanner,
        h.alarm, h.entries, h.nums, h.claims, fun x => absurd hd x, fun x => ?_, h.timer, h.lit, h.queues, h.intakes⟩
      exact ⟨by unfold Machine.mapCurtain; rw [(h.landed x).1], (h.landed x).2⟩
  unfold Machine.judgeDisplayLowering
  split
  · exact ab _
  split
  · exact ab _
  rename_i hup
  have hu : s0.curtain.state = .up := hst.trans (by simpa using hup)
  split
  · exact ab _
  rename_i hp
  split
  · exact ab _
  unfold Machine.enterCurtain; dsimp only
  split
  · exact cur _ _ (fun _ => rfl) hu h
  apply Leaves.notify
  simp only [id]
  unfold Machine.shiftCurtain; dsimp only
  have hdep : ∀ (f : Curtain → Curtain), Machine.curtainDeparture (Machine.mapCurtain f s) = Machine.mapCurtain f s := by
    intro f; unfold Machine.curtainDeparture
    rw [if_neg]; exact hp
  have k : Leaves s0 (Machine.mapCurtain (fun c => Curtain.setOutputs { c with state := .lowering, resolved := true, motionWatch := CurtainState.watch .lowering s.settings.curtain s.clock.now }) (Machine.mapCurtain (fun c => { c with display := some .lowering }) s)) :=
    cur _ _ (fun _ => rfl) hu (cur _ _ (fun _ => rfl) hu h)
  have hcomp : Machine.mapCurtain (fun c => Curtain.setOutputs { c with state := .lowering, resolved := true, motionWatch := CurtainState.watch .lowering s.settings.curtain s.clock.now }) (Machine.mapCurtain (fun c => { c with display := some .lowering }) s) = Machine.mapCurtain (fun c => Curtain.setOutputs { { c with display := some .lowering } with state := .lowering, resolved := true, motionWatch := CurtainState.watch .lowering s.settings.curtain s.clock.now }) s := rfl
  have warn : ∀ (new previous : CurtainState) (u : State), new = .lowering → Leaves s0 u → Leaves s0 (judgeWarning new previous u) := by
    intro new previous u hn ku
    subst hn
    unfold judgeWarning
    split
    · unfold placeWarning; dsimp only
      have kf := placeFlash_claims (warningLamps u.settings) ⟨u.settings, u.light, u.loop⟩
      exact ⟨ku.pending, ku.held, ku.startStep, ku.uptime, ku.clock, ku.freeCount, ku.lines, ku.settings, ku.store, ku.perf, ku.sup, ku.scanner,
        ku.alarm, ku.entries, kf.1.trans ku.nums, fun x => (kf.2 (by rw [show (Field.light ⟨u.settings, u.light, u.loop⟩).lamps = u.light.lamps from rfl, ku.nums]; exact x)).trans (ku.claims x),
        fun x => absurd hd x, fun x => absurd hu x, ku.timer, (changeLamps_lit _ _ _).trans ku.lit, ku.queues, ku.intakes⟩
    · split
      · rename_i hx; exact absurd rfl hx.1
      · exact ku
  apply warn _ _ _ rfl
  split
  · show Leaves s0 (Machine.curtainDeparture (Machine.mapCurtain _ (Machine.mapCurtain _ s)))
    rw [show Machine.mapCurtain (fun c => Curtain.setOutputs { c with state := .lowering, resolved := true, motionWatch := CurtainState.watch .lowering (Machine.mapCurtain (fun c => { c with display := some DisplayStep.lowering }) s).settings.curtain (Machine.mapCurtain (fun c => { c with display := some DisplayStep.lowering }) s).clock.now }) (Machine.mapCurtain (fun c => { c with display := some .lowering }) s) = _ from hcomp, hdep, ← hcomp]
    exact k
  · exact k

theorem Leaves.handOutcome {s0 s : State} (origin : CallOrigin) (tag : Nat) (out : CallOutcome) (h : Leaves s0 s) :
    Leaves s0 (Machine.handOutcome origin tag out s) := by
  unfold Machine.handOutcome
  split
  · refine h.trans ⟨rfl, rfl, rfl, rfl, rfl, rfl, rfl, rfl, rfl, rfl, rfl, rfl, rfl, ?_, rfl, fun _ => rfl, fun _ => ⟨rfl, rfl⟩, fun _ => ⟨rfl, rfl⟩, rfl, rfl, fun _ _ h => h, fun _ => rfl⟩
    simp only [forgetAlarmOrder, List.map_map]
    refine List.map_congr_left fun e _ => ?_
    simp only [Function.comp]; split <;> rfl
  · refine h.trans ?_
    unfold Machine.announcementOutcome
    split
    · dsimp only
      have hm : ∀ u : State, Leaves u (Machine.mapCurtain (fun c => { c with announcement := none }) u) := fun u =>
        ⟨rfl, rfl, rfl, rfl, rfl, rfl, rfl, rfl, rfl, rfl, rfl, rfl, rfl, rfl, rfl, fun _ => rfl, fun _ => ⟨rfl, rfl⟩, fun _ => ⟨rfl, rfl⟩, rfl, rfl, fun _ _ h => h, fun _ => rfl⟩
      split
      · rename_i hx
        exact (hm s).judgeDisplayLowering hx.1 rfl
      · exact hm s
    · exact Leaves.refl s
  all_goals exact h


theorem Leaves.foldl {s0 : State} {α : Type} (g : State → α → State) (hg : ∀ (s0 s : State) (a : α), Leaves s0 s → Leaves s0 (g s a)) (l : List α) :
    ∀ {s : State}, Leaves s0 s → Leaves s0 (l.foldl g s) := by
  induction l with
  | nil => intro s h; exact h
  | cons a l ih => intro s h; exact ih (hg _ _ _ h)

theorem Leaves.callNotice {s0 s : State} (origin : CallOrigin) (n : Notice) (h : Leaves s0 s) : Leaves s0 (Machine.callNotice origin n s) := by
  unfold Machine.callNotice; try dsimp only
  repeat' first | assumption | with_reducible apply Leaves.notify | with_reducible apply Leaves.placeOn | split

theorem Leaves.outcomeNotice {s0 s : State} (out : CallOutcome) (o : Order) (h : Leaves s0 s) : Leaves s0 (Machine.outcomeNotice out o s) := by
  unfold Machine.outcomeNotice; try dsimp only
  repeat' first | assumption | with_reducible apply Leaves.callNotice

theorem Leaves.endOrder {s0 s : State} (out : CallOutcome) (o : Order) (h : Leaves s0 s) : Leaves s0 (Machine.endOrder out o s) := by
  unfold Machine.endOrder; try dsimp only
  repeat' first | assumption | with_reducible apply Leaves.outcomeNotice | with_reducible apply Leaves.handOutcome | with_reducible apply Leaves.mapLoop | with_reducible apply Leaves.mapCalls | split

theorem Leaves.arbitrateFuel (k : Nat) : ∀ {s0 s : State}, Leaves s0 s → Leaves s0 (Machine.arbitrateFuel k s) := by
  induction k with
  | zero => intro s0 s h; exact h
  | succ k ih =>
    intro s0 s h
    unfold Machine.arbitrateFuel; dsimp only
    repeat' first | assumption | with_reducible apply ih | with_reducible apply Leaves.endOrder | with_reducible apply Leaves.notify | with_reducible apply Leaves.mapCalls | split
    exact h.plain s.calls _

theorem Leaves.arbitrate {s0 s : State} (h : Leaves s0 s) : Leaves s0 (Machine.arbitrate s) := by
  unfold Machine.arbitrate; try dsimp only
  repeat' first | assumption | with_reducible apply Leaves.arbitrateFuel

theorem Leaves.contend {s0 s : State} (h : Leaves s0 s) : Leaves s0 (Machine.contend s) := by
  unfold Machine.contend; try dsimp only
  repeat' first | assumption | with_reducible apply Leaves.arbitrate | with_reducible apply Leaves.endOrder | split

theorem Leaves.finishOrder {s0 s : State} (out : CallOutcome) (o : Order) (h : Leaves s0 s) : Leaves s0 (Machine.finishOrder out o s) := by
  unfold Machine.finishOrder; try dsimp only
  repeat' first | assumption | with_reducible apply Leaves.arbitrate | with_reducible apply Leaves.endOrder | split

theorem Leaves.endRepetition {s0 s : State} (o : Order) (h : Leaves s0 s) : Leaves s0 (Machine.endRepetition o s) := by
  unfold Machine.endRepetition; try dsimp only
  repeat' first | assumption | with_reducible apply Leaves.arbitrate | with_reducible apply Leaves.endOrder | with_reducible apply Leaves.mapLoop | with_reducible apply Leaves.mapCalls | split

theorem Leaves.judgeRepetition {s0 s : State} (h : Leaves s0 s) : Leaves s0 (Machine.judgeRepetition s) := by
  unfold Machine.judgeRepetition; try dsimp only
  repeat' first | assumption | with_reducible apply Leaves.endRepetition | split

theorem Leaves.callSent {s0 s : State} (serial : Nat) (h : Leaves s0 s) : Leaves s0 (Machine.callSent serial s) := by
  unfold Machine.callSent; try dsimp only
  repeat' first | assumption | with_reducible apply Leaves.mapCalls | split

theorem Leaves.joinQueue {s0 s : State} (o : Order) (h : Leaves s0 s) : Leaves s0 (Machine.joinQueue o s) := h.mapCalls _

theorem Leaves.enqueue {s0 s : State} (o : Order) (h : Leaves s0 s) : Leaves s0 (Machine.enqueue o s) := (h.joinQueue o).contend

theorem Leaves.placeEvac {s0 s : State} (h : Leaves s0 s) : Leaves s0 (Machine.placeEvac s) := by
  unfold Machine.placeEvac; try dsimp only
  repeat' first | assumption | with_reducible apply Leaves.enqueue | with_reducible apply Leaves.endOrder | split

theorem Leaves.turnAway {s0 s : State} (out : CallOutcome) (o : Order) (h : Leaves s0 s) : Leaves s0 (Machine.turnAway out o s) := by
  unfold Machine.turnAway; try dsimp only
  repeat' first | assumption | with_reducible apply Leaves.outcomeNotice | with_reducible apply Leaves.handOutcome | with_reducible apply Leaves.mapCalls

theorem Leaves.placeStaff {s0 s : State} (t : Target) (message : Nat) (h : Leaves s0 s) : Leaves s0 (Machine.placeStaff t message s) := by
  unfold Machine.placeStaff; try dsimp only
  repeat' first | assumption | with_reducible apply Leaves.turnAway | with_reducible apply Leaves.enqueue | with_reducible apply Leaves.endOrder | split

theorem Leaves.placeAnnouncement {s0 s : State} (t : Target) (message : Nat) (h : Leaves s0 s) : Leaves s0 (Machine.placeAnnouncement t message s) := by
  unfold Machine.placeAnnouncement; try dsimp only
  repeat' first | assumption | with_reducible apply Leaves.turnAway | with_reducible apply Leaves.enqueue | with_reducible apply Leaves.handOutcome | with_reducible apply Leaves.mapCalls | split

theorem Leaves.withdrawOrder {s0 s : State} (o : Order) (h : Leaves s0 s) : Leaves s0 (Machine.withdrawOrder o s) := by
  unfold Machine.withdrawOrder; try dsimp only
  repeat' first | assumption | with_reducible apply Leaves.endOrder | with_reducible apply Leaves.mapCalls | split

theorem Leaves.withdrawIds {s0 s : State} (ids : List Nat) (h : Leaves s0 s) : Leaves s0 (Machine.withdrawIds ids s) := by
  unfold Machine.withdrawIds; try dsimp only
  repeat' first | assumption | with_reducible apply Leaves.arbitrate | with_reducible apply Leaves.foldl | with_reducible apply Leaves.withdrawOrder | split | intro _ _ _ _

theorem Leaves.withdrawInternal {s0 s : State} (origin : CallOrigin) (tag : Nat) (h : Leaves s0 s) : Leaves s0 (Machine.withdrawInternal origin tag s) := by
  unfold Machine.withdrawInternal; try dsimp only
  repeat' first | assumption | with_reducible apply Leaves.withdrawIds

theorem Leaves.cutEvac {s0 s : State} (tag : Nat) (h : Leaves s0 s) : Leaves s0 (Machine.cutEvac tag s) := by
  unfold Machine.cutEvac; try dsimp only
  repeat' first | assumption | with_reducible apply Leaves.finishOrder | split

theorem Leaves.countdownCleared {s0 s : State} (w : CountdownName) (h : Leaves s0 s) : Leaves s0 (Machine.countdownCleared w s) := by
  unfold Machine.countdownCleared; try dsimp only
  repeat' first | assumption | with_reducible apply Leaves.withdrawIds | with_reducible apply Leaves.mapCalls

theorem Leaves.countdownValue {s0 s : State} (w : CountdownName) (v : Nat) (h : Leaves s0 s) : Leaves s0 (Machine.countdownValue w v s) := by
  unfold Machine.countdownValue; try dsimp only
  repeat' first | assumption | with_reducible apply Leaves.contend | with_reducible apply Leaves.mapCalls

theorem Leaves.placePlanEntry {s0 s : State} (w : CountdownName) (start : Nat) (e : Option PlanEntry × Nat) (h : Leaves s0 s) : Leaves s0 (Machine.placePlanEntry w start s e) := by
  unfold Machine.placePlanEntry; try dsimp only
  repeat' first | assumption | with_reducible apply Leaves.enqueue | with_reducible apply Leaves.notify | split

theorem Leaves.countdownStart {s0 s : State} (w : CountdownName) (v : Nat) (h : Leaves s0 s) : Leaves s0 (Machine.countdownStart w v s) := by
  unfold Machine.countdownStart; try dsimp only
  repeat' first | assumption | with_reducible apply Leaves.foldl | with_reducible apply Leaves.placePlanEntry | with_reducible apply Leaves.countdownValue | split | intro _ _ _ _

theorem Leaves.discardIds {s0 s : State} (ids : List Nat) (h : Leaves s0 s) : Leaves s0 (Machine.discardIds ids s) := by
  unfold Machine.discardIds; try dsimp only
  repeat' first | assumption | with_reducible apply Leaves.foldl | with_reducible apply Leaves.endOrder | split | intro _ _ _ _

theorem Leaves.callsPhaseEntry {s0 s : State} (new : Phase) (h : Leaves s0 s) : Leaves s0 (Machine.callsPhaseEntry new s) := by
  unfold Machine.callsPhaseEntry; try dsimp only
  repeat' first | assumption | with_reducible apply Leaves.discardIds | with_reducible apply Leaves.arbitrate | split

theorem Leaves.startItem {s0 s : State} (lane : Lane) (i : LaneItem) (h : Leaves s0 s) : Leaves s0 (Machine.startItem lane i s) := by
  unfold Machine.startItem; dsimp only
  split
  · exact h.ofLight _ _ (issue_unsent _ ⟨s.settings, s.light, s.loop⟩) rfl
  all_goals exact h.plain s.calls _

theorem Leaves.takeWork {s0 s : State} (h : Leaves s0 s) : Leaves s0 (Machine.takeWork s) := by
  unfold Machine.takeWork
  split
  · exact h
  · split
    · exact h.startItem _ _
    · split
      · exact h.plain s.calls _
      · split
        · exact h.plain s.calls _
        · split
          · exact h.startItem _ _
          · exact h

theorem Leaves.rehand {s0 s : State} (h : Leaves s0 s) : Leaves s0 (onField Field.rehand s) :=
  h.ofLight _ _ (by show (Field.rehandList _ ⟨s.settings, s.light, s.loop⟩).light.lamps.map _ = _; rw [rehandList_lamps])
    (rehandList_lit _ ⟨s.settings, s.light, s.loop⟩)

theorem Leaves.serveRoom (k : Nat) : ∀ {s0 s : State}, Leaves s0 s → Leaves s0 (Machine.serveRoom k s) := by
  induction k with
  | zero => intro s0 s h; exact h.mapLoop _
  | succ k ih =>
    intro s0 s h
    unfold Machine.serveRoom
    split
    · exact ih (h.mapLoop _).rehand.arbitrate
    · exact h

theorem Leaves.settlePath {s0 s : State} (h : Leaves s0 s) : Leaves s0 { s with scanner := s.scanner.settlePath s.settings } := by
  refine h.trans ⟨rfl, rfl, rfl, rfl, rfl, rfl, rfl, rfl, rfl, rfl, rfl, ?_, rfl, rfl, rfl, fun _ => rfl, fun _ => ⟨rfl, rfl⟩, fun _ => ⟨rfl, rfl⟩, rfl, rfl, fun _ _ h => h, fun _ => rfl⟩
  unfold Scanner.settlePath; repeat' split
  all_goals rfl

/-- What the end of every event leaves alone. -/
theorem Leaves.settle {s0 s : State} (h : Leaves s0 s) : Leaves s0 (Machine.settle s) := by
  unfold Machine.settle; dsimp only
  exact (h.serveRoom 8).settlePath.takeWork.transmit

end Sys2Proof.Machine
end

