-- ==== Sys2Proof/Laws/Idle.lean ====
section
/-! SUPPORT. The end of an event: done twice it is done once, and on an idle controller a command that leaves the loop, the Light Engine, the settings and the Scanner alone has only its frames to send. -/

namespace Sys2Proof.Machine

theorem transmit_idem (u : PortUnit) : u.transmit.transmit = u.transmit := by
  rcases hs : u.sending with _ | x
  · rcases hf : u.flow with _ | n
    · by_cases h1 : u.refusals ≠ []
      · simp [PortUnit.transmit, hs, hf, h1]
      · by_cases h2 : u.queue ≠ []
        · simp [PortUnit.transmit, hs, hf, h1, h2]
        · simp [PortUnit.transmit, hs, hf, h1, h2]
    · simp [PortUnit.transmit, hs, hf]
  · simp [PortUnit.transmit, hs]

theorem transmit_transmit (s : State) : transmit (transmit s) = transmit s := by
  unfold transmit; simp only [transmit_idem]

theorem serveRoom_served (k : Nat) (s : State) (h : s.loop.roomOwed = false) : serveRoom k s = s := by
  cases k with
  | zero =>
    show mapLoop (fun u => { u with roomOwed := false }) s = s
    unfold mapLoop; rw [← h]
  | succ k => unfold serveRoom; rw [if_neg (by simp [h])]

theorem serveRoom_owed (k : Nat) : ∀ s : State, (serveRoom k s).loop.roomOwed = false := by
  induction k with
  | zero => exact fun s => rfl
  | succ k ih =>
    intro s
    unfold serveRoom; split
    · exact ih _
    · rename_i h; simpa using h

/-- The loop and the Light Engine after the loop has taken its next work, which reads nothing but the settings, the clock and themselves. -/
theorem takeWork_eq (s : State) : takeWork s = { s with light := (takeWork s).light, loop := (takeWork s).loop } := by
  unfold takeWork startItem startPoll; dsimp only
  repeat' split
  all_goals rfl

theorem startItem_congr (lane : Lane) (i : LaneItem) (s t : State) (h0 : t.clock = s.clock) (h1 : t.settings = s.settings) (h2 : t.light = s.light)
    (h3 : t.loop = s.loop) : (startItem lane i t).light = (startItem lane i s).light ∧ (startItem lane i t).loop = (startItem lane i s).loop := by
  unfold startItem
  rw [h0, h1, h2, h3]
  cases i.work <;> exact ⟨by first | rfl, rfl⟩

theorem takeWork_congr (s t : State) (h0 : t.clock = s.clock) (h1 : t.settings = s.settings) (h2 : t.light = s.light) (h3 : t.loop = s.loop) :
    (takeWork t).light = (takeWork s).light ∧ (takeWork t).loop = (takeWork s).loop := by
  unfold takeWork
  rw [h0, h1, h3]
  cases s.loop.transaction with
  | some x => exact ⟨h2, h3⟩
  | none =>
    dsimp only
    generalize (if s.loop.state = .starting then none else s.loop.urgent.find? s.loop.eligible) = a
    generalize (if s.loop.state = .starting then none else s.loop.duePoll s.clock.now) = b
    generalize (if s.loop.state = .starting then none else s.loop.ordinary.find? s.loop.eligible) = d
    cases a with
    | some i => exact startItem_congr _ i s t h0 h1 h2 h3
    | none =>
      cases b with
      | some k => exact ⟨h2, by unfold startPoll; rw [h0, h1, h3]⟩
      | none =>
        cases s.loop.nextProbe with
        | some q => exact ⟨h2, rfl⟩
        | none =>
          cases d with
          | some i => exact startItem_congr _ i s t h0 h1 h2 h3
          | none => exact ⟨h2, h3⟩

theorem takeWork_owed (s : State) : (takeWork s).loop.roomOwed = s.loop.roomOwed := by
  unfold takeWork startItem startPoll; dsimp only
  repeat' split
  all_goals first | rfl | (unfold Loop.startProbe; dsimp only; split <;> rfl)

theorem startProbe_busy (a : Nat) (k : ProbeKind) (window now : Nat) (u : Loop) : (u.startProbe a k window now).transaction ≠ none := by
  unfold Loop.startProbe; dsimp only; split <;> exact fun h => by cases h

theorem takeWork_busy (s : State) : takeWork s = s ∨ (takeWork s).loop.transaction ≠ none := by
  unfold takeWork startItem startPoll; dsimp only
  repeat' split
  all_goals first | exact Or.inl rfl | exact Or.inr (startProbe_busy _ _ _ _ _) | exact Or.inr (fun h => by cases h)

theorem takeWork_of_busy (s : State) (h : s.loop.transaction ≠ none) : takeWork s = s := by
  unfold takeWork; split
  · rfl
  · rename_i hn; exact absurd hn h

theorem takeWork_idem (s : State) : takeWork (takeWork s) = takeWork s := by
  rcases takeWork_busy s with h | h
  · rw [h]; exact h
  · exact takeWork_of_busy _ h

theorem nextAfter_eligible (v : Settings) (n m : Nat) (u : Scanner) (h : u.nextAfter v n = some m) :
    u.channels.any (fun c => c.num == m && c.eligible v) = true := by
  have hm : m ∈ (u.channels.filter (·.eligible v)).map (·.num) := by
    unfold Scanner.nextAfter at h; dsimp only at h
    cases hf : ((u.channels.filter (·.eligible v)).map (·.num)).find? (n < ·) with
    | some k => rw [hf] at h; cases h; exact List.mem_of_find?_eq_some hf
    | none => rw [hf] at h; exact List.mem_of_mem_head? (by simpa using h)
  obtain ⟨c, hc, he⟩ := List.mem_map.1 hm
  have := List.mem_filter.1 hc
  exact List.any_eq_true.2 ⟨c, this.1, by simp [he, this.2]⟩

theorem settlePath_idem (v : Settings) (u : Scanner) : (u.settlePath v).settlePath v = u.settlePath v := by
  by_cases hs : u.scanning
  · have step : ∀ n, Scanner.settlePath v { u with path := u.nextAfter v n } = { u with path := u.nextAfter v n } ∨ u.nextAfter v n = none := by
      intro n
      cases hn : u.nextAfter v n with
      | none => exact Or.inr rfl
      | some m =>
        refine Or.inl ?_
        unfold Scanner.settlePath
        simp only [hs, if_true]
        rw [if_pos (nextAfter_eligible v n m u hn)]
    have noneAll : ∀ n m, u.nextAfter v n = none → u.nextAfter v m = none := by
      intro n m h
      unfold Scanner.nextAfter at *; dsimp only at *
      have h2 := (Option.or_eq_none_iff.1 h).2
      have : (u.channels.filter (·.eligible v)).map (·.num) = [] := by simpa using h2
      rw [this]; rfl
    have fixNone : ∀ n, u.nextAfter v n = none → Scanner.settlePath v { u with path := u.nextAfter v n } = { u with path := u.nextAfter v n } := by
      intro n h
      have h0 := noneAll n 0 h
      have e0 : Scanner.nextAfter v 0 { u with path := none } = none := h0
      rw [h]
      unfold Scanner.settlePath
      simp only [hs, if_true]
      rw [show ({ channels := u.channels, claims := u.claims, path := none, scanning := true, heldReports := u.heldReports } : Scanner) = { u with path := none } by rw [← hs], e0]
      rw [← hs]
    cases hp : u.path with
    | none =>
      have e : u.settlePath v = { u with path := u.nextAfter v 0 } := by
        unfold Scanner.settlePath; simp only [hs, if_true, hp]
      rw [e]
      rcases step 0 with h | h
      · exact h
      · exact fixNone 0 h
    | some n =>
      by_cases ha : u.channels.any (fun c => c.num == n && c.eligible v) = true
      · have e : u.settlePath v = u := by unfold Scanner.settlePath; simp only [hs, if_true, hp, ha]
        rw [e, e]
      · have e : u.settlePath v = { u with path := u.nextAfter v n } := by
          unfold Scanner.settlePath; simp only [hs, if_true, hp, ha]; rfl
        rw [e]
        rcases step n with h | h
        · exact h
        · exact fixNone n h
  · have e : u.settlePath v = u := by unfold Scanner.settlePath; simp [hs]
    rw [e, e]

/-- The end of an event, with the report of room served. -/
theorem settle_served (s : State) (h : s.loop.roomOwed = false) :
    settle s = transmit (takeWork { s with scanner := s.scanner.settlePath s.settings }) := by
  unfold settle; rw [serveRoom_served 8 s h]

theorem transmit_loop (s : State) : (transmit s).loop = s.loop := rfl

/-- What an idle controller is. -/
theorem idle_iff (s : State) : s.idle ↔ s.loop.roomOwed = false ∧ s.scanner.settlePath s.settings = s.scanner ∧ takeWork s = s ∧ transmit s = s := by
  constructor
  · intro h
    have h0 : s.loop.roomOwed = false := by
      have e : (settle s).loop.roomOwed = false := by
        unfold settle; dsimp only
        rw [transmit_loop, takeWork_owed]; exact serveRoom_owed 8 s
      rw [← h]; exact e
    have h1 : transmit (takeWork { s with scanner := s.scanner.settlePath s.settings }) = s := by
      rw [← settle_served s h0]; exact h
    have hsc : s.scanner.settlePath s.settings = s.scanner := by
      have := congrArg State.scanner h1
      rw [takeWork_eq] at this; exact this
    have h2 : transmit (takeWork s) = s := by
      have e : ({ s with scanner := s.scanner.settlePath s.settings } : State) = s := by rw [hsc]
      rw [e] at h1; exact h1
    have h3 : takeWork s = s := by
      have hl := congrArg State.light h2
      have hp := congrArg State.loop h2
      rw [takeWork_eq s]
      show ({ s with light := (takeWork s).light, loop := (takeWork s).loop } : State) = s
      rw [show (takeWork s).light = s.light from hl, show (takeWork s).loop = s.loop from hp]
    refine ⟨h0, hsc, h3, ?_⟩
    rw [h3] at h2; exact h2
  · rintro ⟨h0, h1, h2, h3⟩
    unfold State.idle
    rw [settle_served s h0, h1]
    show transmit (takeWork s) = s
    rw [h2, h3]

/-- After any event the controller is idle. -/
theorem settle_idle (s : State) : (settle s).idle := by
  rw [idle_iff]
  have h0 : (settle s).loop.roomOwed = false := by
    unfold settle; dsimp only
    rw [transmit_loop, takeWork_owed]; exact serveRoom_owed 8 s
  let a : State := { serveRoom 8 s with scanner := (serveRoom 8 s).scanner.settlePath (serveRoom 8 s).settings }
  have e : settle s = transmit (takeWork a) := rfl
  have hw : takeWork (settle s) = settle s := by
    rw [e]
    have c := takeWork_congr (takeWork a) (transmit (takeWork a)) rfl rfl rfl rfl
    rw [takeWork_eq (transmit (takeWork a)), c.1, c.2, takeWork_idem]
    rfl
  refine ⟨h0, ?_, hw, ?_⟩
  · rw [e]
    show (takeWork a).scanner.settlePath (takeWork a).settings = (takeWork a).scanner
    rw [takeWork_eq a]
    exact settlePath_idem _ _
  · rw [e]; exact transmit_transmit _

/-- On an idle controller, an event that leaves the clock, the settings, the Scanner, the Light Engine and the loop alone ends with the
sending of its frames. -/
theorem settle_frames (s t : State) (h : s.idle) (hc : t.clock = s.clock) (h1 : t.settings = s.settings) (h2 : t.scanner = s.scanner) (h3 : t.light = s.light)
    (h4 : t.loop = s.loop) : settle t = transmit t := by
  obtain ⟨a, b, c, _⟩ := (idle_iff s).1 h
  rw [settle_served t (by rw [h4]; exact a)]
  have e : ({ t with scanner := t.scanner.settlePath t.settings } : State) = t := by
    have hb : t.scanner.settlePath t.settings = t.scanner := by rw [h1, h2, b]
    rw [hb]
  rw [e]
  have k := takeWork_congr s t hc h1 h3 h4
  have e2 : takeWork t = t := by rw [takeWork_eq t, k.1, k.2, c, ← h3, ← h4]
  rw [e2]

/-- The same where the settings change in a section that neither the Scanner nor the loop reads: the changed state settles as it
stands when its own path and work do. -/
theorem settle_same (t : State) (h0 : t.loop.roomOwed = false) (h1 : t.scanner.settlePath t.settings = t.scanner) (h2 : takeWork t = t) :
    settle t = transmit t := by
  rw [settle_served t h0, h1]
  show transmit (takeWork t) = _
  rw [h2]

end Sys2Proof.Machine
end

