-- ==== Sys2Proof/Laws/KeepsExec.lean ====
section
/-! SUPPORT. Every command but PHASE, the sending of a frame and the resets: what each secures. -/

set_option linter.unreachableTactic false
set_option linter.unusedTactic false

namespace Sys2Proof.Machine

/-- What every command of the table secures but PHASE, the sending of a frame and the resets. -/
structure Secures (s t : State) : Prop where
  pending : t.pending = s.pending
  held : t.resetHeld = s.resetHeld
  sup : s.sup.sound → t.sup.sound
  ports : s.ports.bounded → t.ports.bounded
  curtain : s.curtain.sound → t.curtain.sound
  showUp : s.curtain.sound → s.showSafe → t.showSafe
  general : s.generalSafe → t.generalSafe

theorem Secures.refl (s : State) : Secures s s := ⟨rfl, rfl, id, id, id, fun _ h => h, id⟩

theorem Secures.trans {a b c : State} (h : Secures a b) (k : Secures b c) : Secures a c :=
  ⟨k.pending.trans h.pending, k.held.trans h.held, fun x => k.sup (h.sup x), fun x => k.ports (h.ports x),
    fun x => k.curtain (h.curtain x), fun x y => k.showUp (h.curtain x) (h.showUp x y), fun x => k.general (h.general x)⟩

theorem KeepsG.secures {s t : State} (h : KeepsG s t) : Secures s t :=
  ⟨h.holds.pending, h.holds.held, h.holds.sup, h.holds.ports, h.holds.curtain, h.holds.showUp, h.general⟩

theorem Secures.liftG {a b c : State} (k : KeepsG b c) (h : Secures a b) : Secures a c := h.trans k.secures

theorem Secures.lift {a b c : State} (k : Keeps b c) (h : Secures a b) : Secures a c := h.trans k.keepsG.secures

/-- A change of one Port Unit, its intake included, within its bounds. -/
theorem Secures.mapPort {s0 s : State} (p : Port) (f : PortUnit → PortUnit) (hf : ∀ u : PortUnit, u.bounded → (f u).bounded)
    (h : Secures s0 s) : Secures s0 (s.mapPort p f) :=
  h.trans ⟨rfl, rfl, id, by cases p; exacts [fun x => ⟨hf _ x.1, x.2⟩, fun x => ⟨x.1, hf _ x.2⟩], id, fun _ h => h, id⟩

theorem Secures.reply {s0 s : State} (p : Port) (tag : Tag) (o : ReplyOutcome) (h : Secures s0 s) : Secures s0 (reply p tag o s) :=
  h.mapPort p _ (placeReply_bounded tag o)

theorem Secures.refuse {s0 s : State} (p : Port) (tag : Tag) (r : Reason) (h : Secures s0 s) : Secures s0 (refuse p tag r s) := h.reply _ _ _
theorem Secures.done {s0 s : State} (p : Port) (tag : Tag) (h : Secures s0 s) : Secures s0 (done p tag s) := h.reply _ _ _
theorem Secures.accept {s0 s : State} (p : Port) (tag : Tag) (h : Secures s0 s) : Secures s0 (accept p tag s) := h.reply _ _ _

theorem Secures.bring {s0 s : State} (p : Port) (tag : Tag) (k : RequestKind) (h : Secures s0 s) : Secures s0 (s.bring p tag k) :=
  h.mapPort p _ (bring_bounded _ p tag k)

theorem Secures.holdRelease {s0 s : State} (p : Port) (tag : Tag) (h : Secures s0 s) : Secures s0 (Machine.holdRelease p tag s) := by
  unfold Machine.holdRelease
  split
  · split
    · refine ((Secures.refl s).lift ?_ |>.done _ _) |> h.trans
      exact ((Keeps.refl s).mapCurtain _ rfl rfl rfl rfl rfl).curtainNotice _
    · exact h.refuse _ _ _
  all_goals exact h.refuse _ _ _

theorem Secures.command {f : State → State} {s : State} (h : Secures s (f s)) : ∃ t, command f s = .next t ∧ Secures s t := by
  unfold Machine.command; split
  · exact ⟨s, rfl, Secures.refl s⟩
  · exact ⟨_, rfl, h.lift (Keeps.refl _).settle⟩

theorem Secures.request {p : Port} {tag : Tag} {k : RequestKind} {f : State → State} {s : State} (h : ∀ s, Secures s (f s)) :
    ∃ t, request p tag k f s = .next t ∧ Secures s t := by
  refine Secures.command ?_
  split
  · exact ((Secures.refl s).bring p tag k).trans (h _)
  · exact (Secures.refl s).bring p tag k

theorem Secures.lineCommand {sense : Lines → Lines} {f : State → State} {s : State} (h : Secures s (f s)) :
    ∃ t, lineCommand sense f s = .next t ∧ Secures s t := by
  unfold Machine.lineCommand; split
  · exact ⟨_, rfl, (Secures.refl s).lift ((Keeps.refl s).mapLines _)⟩
  · exact h.command

theorem leaveIntake_length (tag : Tag) (l : List IntakeEntry) : (leaveIntake tag l).length ≤ l.length := by
  induction l with
  | nil => exact Nat.le_refl _
  | cons e l ih => unfold leaveIntake; split <;> simp [ih]

theorem leaveIntake_queued (tag : Tag) (l : List IntakeEntry) : queuedIn l ≤ queuedIn (leaveIntake tag l) + 1 := by
  induction l with
  | nil => exact Nat.zero_le _
  | cons e l ih =>
    unfold leaveIntake
    split
    · rename_i hc; rw [queuedIn_cons, if_pos hc.1]; omega
    · rw [queuedIn_cons, queuedIn_cons]; omega

theorem sentQueued_bounded (u : PortUnit) (h : u.bounded) : u.sentQueued.bounded := by
  obtain ⟨h1, h2, h3, h4⟩ := (bounded_iff u).1 h
  unfold PortUnit.sentQueued
  split
  · exact h
  · rename_i hq
    rw [hq, noticesIn_notice] at h2
    rw [hq, repliesIn_notice] at h3
    exact (bounded_iff _).2 ⟨h1, Nat.le_of_succ_le h2, h3, h4⟩
  · rename_i tag _ l hq
    rw [hq, noticesIn_reply] at h2
    rw [hq, repliesIn_reply] at h3
    have := leaveIntake_queued tag u.intake
    exact judgeFlow_bounded _ ((bounded_iff _).2 ⟨(leaveIntake_length _ _).trans h1, h2, by dsimp only; omega, h4⟩)

theorem frameDone_bounded (u : PortUnit) (h : u.bounded) : u.frameDone.bounded := by
  unfold PortUnit.frameDone
  split
  · exact h
  · exact h
  · obtain ⟨h1, h2, h3, h4⟩ := (bounded_iff u).1 h
    exact (bounded_iff _).2 ⟨h1, h2, h3, by dsimp only; rw [List.length_drop]; omega⟩
  · exact sentQueued_bounded _ h

theorem execCurtainLower_keeps (p : Port) (tag : Tag) (s : State) : ∃ out, Machine.execCurtainLower p tag s = .next out ∧ Secures s out := by
  refine Secures.request fun s => ?_
  try dsimp only
  repeat' first | exact Secures.refl _ | unfold stageRequest | unfold stageRequest | with_reducible apply Secures.refuse | with_reducible apply Secures.accept | refine Secures.lift (Keeps.enterCurtain _ _ id (Keeps.refl _) (fun _ _ h => h)) ?_ | split | dsimp only

theorem execCurtainRaise_keeps (p : Port) (tag : Tag) (s : State) : ∃ out, Machine.execCurtainRaise p tag s = .next out ∧ Secures s out := by
  refine Secures.request fun s => ?_
  try dsimp only
  repeat' first | exact Secures.refl _ | unfold stageRequest | unfold stageRequest | with_reducible apply Secures.refuse | with_reducible apply Secures.accept | refine Secures.lift (Keeps.enterCurtain _ _ id (Keeps.refl _) (fun _ _ h => h)) ?_ | split | dsimp only

theorem execCurtainStop_keeps (p : Port) (tag : Tag) (s : State) : ∃ out, Machine.execCurtainStop p tag s = .next out ∧ Secures s out := by
  refine Secures.request fun s => ?_
  try dsimp only
  repeat' first | exact Secures.refl _ | with_reducible apply Secures.done | with_reducible apply Secures.refuse | refine Secures.lift (Keeps.haltCurtain _ _ id (Keeps.refl _) (fun _ _ h => h)) ?_ | split

theorem execCurtainDropTest_keeps (p : Port) (tag : Tag) (s : State) : ∃ out, Machine.execCurtainDropTest p tag s = .next out ∧ Secures s out := by
  refine Secures.request fun s => ?_
  try dsimp only
  repeat' first | exact Secures.refl _ | unfold stageRequest | unfold stageRequest | with_reducible apply Secures.refuse | with_reducible apply Secures.accept | refine Secures.lift (Keeps.beginDrop _ id (Keeps.refl _) (fun _ _ h => h)) ?_ | split | dsimp only

theorem execCurtainClearFault_keeps (p : Port) (tag : Tag) (s : State) : ∃ out, Machine.execCurtainClearFault p tag s = .next out ∧ Secures s out := by
  refine Secures.request fun s => ?_
  try dsimp only
  repeat' first | exact Secures.refl _ | unfold stageRequest | unfold stageRequest | with_reducible apply Secures.refuse | with_reducible refine Secures.lift (Keeps.clearCurtain (Keeps.refl _)) ?_ | with_reducible apply Secures.done | split | dsimp only

theorem execCurtainStatus_keeps (p : Port) (tag : Tag) (first : Nat) (s : State) : ∃ out, Machine.execCurtainStatus p tag s first = .next out ∧ Secures s out := by
  refine Secures.request fun s => ?_
  try dsimp only
  repeat' first | exact Secures.refl _ | with_reducible apply Secures.done | with_reducible apply Secures.reply | split

theorem execCurtainHold_keeps (p : Port) (tag : Tag) (s : State) : ∃ out, Machine.execCurtainHold p tag s = .next out ∧ Secures s out := by
  refine Secures.request fun s => ?_
  try dsimp only
  repeat' first | exact Secures.refl _ | unfold stageRequest | unfold stageRequest | with_reducible apply Secures.refuse | with_reducible apply Secures.holdRelease | split | dsimp only

theorem execCurtainDisplay_keeps (p : Port) (tag : Tag) (s : State) : ∃ out, Machine.execCurtainDisplay p tag s = .next out ∧ Secures s out := by
  refine Secures.request fun s => ?_
  try dsimp only
  repeat' first | exact Secures.refl _ | unfold stageRequest | unfold stageRequest | with_reducible apply Secures.refuse | with_reducible refine Secures.lift (Keeps.startDisplay (Keeps.refl _)) ?_ | with_reducible apply Secures.accept | split | dsimp only

theorem execLimitBottomActive_keeps (s : State) : ∃ out, Machine.execLimitBottomActive s = .next out ∧ Secures s out := by
  refine Secures.lineCommand ?_
  try dsimp only
  repeat' first | exact Secures.refl _ | with_reducible refine Secures.lift (Keeps.bottomActive (Keeps.refl _)) ?_ | split

theorem execLimitBottomLost_keeps (s : State) : ∃ out, Machine.execLimitBottomLost s = .next out ∧ Secures s out := by
  refine Secures.lineCommand ?_
  try dsimp only
  repeat' first | exact Secures.refl _ | with_reducible refine Secures.lift (Keeps.bottomLost (Keeps.refl _)) ?_ | split

theorem execLimitTopActive_keeps (s : State) : ∃ out, Machine.execLimitTopActive s = .next out ∧ Secures s out := by
  refine Secures.lineCommand ?_
  try dsimp only
  repeat' first | exact Secures.refl _ | with_reducible refine Secures.lift (Keeps.topActive (Keeps.refl _)) ?_ | split

theorem execLimitTopLost_keeps (s : State) : ∃ out, Machine.execLimitTopLost s = .next out ∧ Secures s out := by
  refine Secures.lineCommand ?_
  try dsimp only
  repeat' first | exact Secures.refl _ | with_reducible refine Secures.lift (Keeps.topLost (Keeps.refl _)) ?_ | split

theorem execEncoderStep_keeps (line : EncoderLine) (interval : Nat) (s : State) : ∃ out, Machine.execEncoderStep line interval s = .next out ∧ Secures s out := by
  unfold Machine.execEncoderStep; split
  · exact ⟨_, rfl, ((Keeps.refl s).encoderStep _ _).keepsG.secures⟩
  · exact Secures.command ((Keeps.refl s).encoderStep _ _).keepsG.secures

theorem execMotionWatchEnd_keeps (s : State) : ∃ out, Machine.execMotionWatchEnd s = .next out ∧ Secures s out := by
  refine Secures.command ?_
  try dsimp only
  repeat' first | with_reducible refine Secures.lift ((Keeps.refl _).mapClock _) ?_ | exact Secures.refl _ | with_reducible refine Secures.lift (Keeps.mapLines _ (Keeps.refl _)) ?_ | with_reducible refine Secures.lift (Keeps.raiseCurtainFault _ (Keeps.refl _)) ?_ | with_reducible refine Secures.lift (Keeps.lockCurtain _ _ (Keeps.refl _) (fun _ _ h => h.raiseCurtainFault _)) ?_ | split

theorem execSettingLineChange_keeps (us : Bool) (ds : Bool) (s : State) : ∃ out, Machine.execSettingLineChange us ds s = .next out ∧ Secures s out := by
  refine Secures.lineCommand ?_
  try dsimp only
  repeat' first | exact Secures.refl _ | with_reducible refine Secures.lift (Keeps.beamsChange _ _ (Keeps.refl _)) ?_ | split

theorem execReleaseExpiry_keeps (s : State) : ∃ out, Machine.execReleaseExpiry s = .next out ∧ Secures s out := by
  refine Secures.command ?_
  try dsimp only
  repeat' first | exact Secures.refl _ | with_reducible refine Secures.lift (Keeps.expireRelease (Keeps.refl _)) ?_ | split

theorem execGraceEnd_keeps (s : State) : ∃ out, Machine.execGraceEnd s = .next out ∧ Secures s out := by
  refine Secures.command ?_
  try dsimp only
  repeat' first | exact Secures.refl _ | with_reducible refine Secures.lift (Keeps.endGrace (Keeps.refl _)) ?_ | split

theorem execDropOverdue_keeps (s : State) : ∃ out, Machine.execDropOverdue s = .next out ∧ Secures s out := by
  refine Secures.command ?_
  try dsimp only
  repeat' first | exact Secures.refl _ | with_reducible refine Secures.lift (Keeps.raiseCurtainFault _ (Keeps.refl _)) ?_ | with_reducible refine Secures.lift (Keeps.curtainNotice _ (Keeps.refl _)) ?_ | with_reducible refine Secures.lift (Keeps.mapCurtain _ (Keeps.refl _) rfl rfl rfl rfl rfl) ?_ | split

theorem execDwellEnd_keeps (s : State) : ∃ out, Machine.execDwellEnd s = .next out ∧ Secures s out := by
  refine Secures.command ?_
  try dsimp only
  repeat' first | exact Secures.refl _ | with_reducible refine Secures.lift (Keeps.judgeDisplayRaise (Keeps.refl _)) ?_ | split

theorem execEmergReleaseAsserted_keeps (s : State) : ∃ out, Machine.execEmergReleaseAsserted s = .next out ∧ Secures s out := by
  refine Secures.lineCommand ?_
  try dsimp only
  repeat' first | exact Secures.refl _ | with_reducible refine Secures.lift (Keeps.mapLines _ (Keeps.refl _)) ?_ | refine Secures.lift (Keeps.beginDrop _ id (Keeps.refl _) (fun _ _ h => h)) ?_ | split

theorem execEmergReleaseReleased_keeps (s : State) : ∃ out, Machine.execEmergReleaseReleased s = .next out ∧ Secures s out := by
  refine Secures.lineCommand ?_
  try dsimp only
  repeat' first | exact Secures.refl _ | with_reducible refine Secures.lift (Keeps.mapLines _ (Keeps.refl _)) ?_ | split

theorem execGiveClearance_keeps (p : Port) (tag : Tag) (s : State) : ∃ out, Machine.execGiveClearance p tag s = .next out ∧ Secures s out := by
  refine Secures.request fun s => ?_
  try dsimp only
  repeat' first | exact Secures.refl _ | with_reducible refine Secures.lift (Keeps.notifyClearance _ _ (Keeps.refl _)) ?_ | with_reducible apply Secures.done | with_reducible apply Secures.refuse | with_reducible refine Secures.lift (Keeps.mapPerf _ (Keeps.refl _) (by first | rfl | exact setClearance_phase _ _ _ | exact setCountdown_phase _ _ _)) ?_ | split

theorem execWithdrawClearance_keeps (p : Port) (tag : Tag) (s : State) : ∃ out, Machine.execWithdrawClearance p tag s = .next out ∧ Secures s out := by
  refine Secures.request fun s => ?_
  try dsimp only
  repeat' first | exact Secures.refl _ | with_reducible refine Secures.lift (Keeps.notifyClearance _ _ (Keeps.refl _)) ?_ | with_reducible apply Secures.done | with_reducible apply Secures.refuse | with_reducible refine Secures.lift (Keeps.mapPerf _ (Keeps.refl _) (by first | rfl | exact setClearance_phase _ _ _ | exact setCountdown_phase _ _ _)) ?_ | split

theorem execSetCountdown_keeps (p : Port) (tag : Tag) (value : Nat) (s : State) : ∃ out, Machine.execSetCountdown p tag value s = .next out ∧ Secures s out := by
  refine Secures.request fun s => ?_
  try dsimp only
  repeat' first | exact Secures.refl _ | with_reducible refine Secures.lift (Keeps.startHouse _ (Keeps.refl _)) ?_ | with_reducible refine Secures.lift (Keeps.clearHouse (Keeps.refl _)) ?_ | with_reducible apply Secures.done | with_reducible apply Secures.refuse | split

theorem execSetCountdownClear_keeps (p : Port) (tag : Tag) (s : State) : ∃ out, Machine.execSetCountdownClear p tag s = .next out ∧ Secures s out := by
  refine Secures.request fun s => ?_
  try dsimp only
  repeat' first | exact Secures.refl _ | with_reducible refine Secures.lift (Keeps.clearHouse (Keeps.refl _)) ?_ | with_reducible apply Secures.done | with_reducible apply Secures.refuse | split

theorem execExtendInterval_keeps (p : Port) (tag : Tag) (seconds : Nat) (s : State) : ∃ out, Machine.execExtendInterval p tag seconds s = .next out ∧ Secures s out := by
  refine Secures.request fun s => ?_
  try dsimp only
  repeat' first | exact Secures.refl _ | with_reducible refine Secures.lift (Keeps.extendInterval _ _ (Keeps.refl _)) ?_ | with_reducible apply Secures.done | with_reducible apply Secures.refuse | split

theorem execPerformanceStatus_keeps (p : Port) (tag : Tag) (first : Nat) (s : State) : ∃ out, Machine.execPerformanceStatus p tag s first = .next out ∧ Secures s out := by
  refine Secures.request fun s => ?_
  try dsimp only
  repeat' first | exact Secures.refl _ | with_reducible apply Secures.done | with_reducible apply Secures.reply | split

theorem execClearanceLapse_keeps (w : ClearanceName) (s : State) : ∃ out, Machine.execClearanceLapse w s = .next out ∧ Secures s out := by
  refine Secures.command ?_
  try dsimp only
  repeat' first | exact Secures.refl _ | with_reducible refine Secures.lift (Keeps.notifyClearance _ _ (Keeps.refl _)) ?_ | with_reducible refine Secures.lift (Keeps.mapPerf _ (Keeps.refl _) (by first | rfl | exact setClearance_phase _ _ _ | exact setCountdown_phase _ _ _)) ?_ | split

theorem execUptimeAdvance_keeps (s : State) : ∃ out, Machine.execUptimeAdvance s = .next out ∧ Secures s out := by
  refine Secures.command ?_
  try dsimp only
  repeat' first | exact (Secures.refl _).lift (Keeps.refl _).uptimePasses | exact Secures.refl _ | with_reducible refine Secures.lift (Keeps.advanceUptime (Keeps.refl _)) ?_ | with_reducible refine Secures.lift (Keeps.tickCountdown _ (Keeps.refl _)) ?_ | with_reducible apply Secures.done | split

theorem execCountdownReachesZero_keeps (w : CountdownName) (s : State) : ∃ out, Machine.execCountdownReachesZero w s = .next out ∧ Secures s out := by
  refine Secures.command ?_
  try dsimp only
  repeat' first | exact (Secures.refl _).lift (Keeps.refl _).uptimePasses | exact Secures.refl _ | with_reducible refine Secures.lift (Keeps.notifyCountdown _ _ _ (Keeps.refl _)) ?_ | with_reducible refine Secures.lift (Keeps.mapPerf _ (Keeps.refl _) (by first | rfl | exact setClearance_phase _ _ _ | exact setCountdown_phase _ _ _)) ?_ | split

theorem execAcknowledge_keeps (p : Port) (tag : Tag) (zone : Nat) (s : State) : ∃ out, Machine.execAcknowledge p tag zone s = .next out ∧ Secures s out := by
  refine Secures.request fun s => ?_
  try dsimp only
  repeat' first | exact Secures.refl _ | with_reducible refine Secures.liftG (KeepsG.acknowledgeEntry _ _ (KeepsG.refl _)) ?_ | with_reducible apply Secures.done | with_reducible apply Secures.refuse | split

theorem execCancel_keeps (p : Port) (tag : Tag) (zone : Nat) (s : State) : ∃ out, Machine.execCancel p tag zone s = .next out ∧ Secures s out := by
  refine Secures.request fun s => ?_
  try dsimp only
  repeat' first | exact Secures.refl _ | with_reducible refine Secures.liftG (KeepsG.beginStandDown _ (KeepsG.refl _)) ?_ | with_reducible refine Secures.lift (Keeps.refreshPresented (Keeps.refl _)) ?_ | with_reducible apply Secures.done | with_reducible apply Secures.refuse | split

theorem execSilence_keeps (p : Port) (tag : Tag) (s : State) : ∃ out, Machine.execSilence p tag s = .next out ∧ Secures s out := by
  refine Secures.request fun s => ?_
  try dsimp only
  repeat' first | exact Secures.refl _ | with_reducible refine Secures.liftG (KeepsG.silenceAlarm _ (KeepsG.refl _)) ?_ | with_reducible apply Secures.done | with_reducible apply Secures.refuse | split

theorem execEvacuate_keeps (p : Port) (tag : Tag) (s : State) : ∃ out, Machine.execEvacuate p tag s = .next out ∧ Secures s out := by
  refine Secures.request fun s => ?_
  try dsimp only
  repeat' first | exact Secures.refl _ | with_reducible refine Secures.liftG (KeepsG.evacuateHouse  (KeepsG.refl _)) ?_ | with_reducible refine Secures.lift (Keeps.refreshPresented (Keeps.refl _)) ?_ | with_reducible apply Secures.done | split

theorem execResetAlarms_keeps (p : Port) (tag : Tag) (s : State) : ∃ out, Machine.execResetAlarms p tag s = .next out ∧ Secures s out := by
  refine Secures.request fun s => ?_
  try dsimp only
  repeat' first | exact Secures.refl _ | with_reducible refine Secures.liftG (KeepsG.beginReset  (KeepsG.refl _)) ?_ | unfold stageRequest | unfold stageRequest | with_reducible apply Secures.refuse | with_reducible apply Secures.accept | with_reducible apply Secures.done | split | dsimp only

theorem execAlarmList_keeps (p : Port) (tag : Tag) (first : Nat) (s : State) : ∃ out, Machine.execAlarmList p tag first s = .next out ∧ Secures s out := by
  refine Secures.request fun s => ?_
  try dsimp only
  repeat' first | exact Secures.refl _ | with_reducible refine Secures.lift (Keeps.spend (Keeps.refl _)) ?_ | with_reducible refine Secures.lift (Keeps.spend (Keeps.refl _)) ?_ | with_reducible apply Secures.done | with_reducible apply Secures.reply | split

theorem execAckWindowExpiry_keeps (zone : Nat) (s : State) : ∃ out, Machine.execAckWindowExpiry zone s = .next out ∧ Secures s out := by
  refine Secures.command ?_
  try dsimp only
  repeat' first | exact Secures.refl _ | with_reducible refine Secures.liftG (KeepsG.makeGeneral _ _ (KeepsG.refl _)) ?_ | with_reducible refine Secures.lift (Keeps.refreshPresented (Keeps.refl _)) ?_ | split

theorem execInvestigationWindowExpiry_keeps (zone : Nat) (s : State) : ∃ out, Machine.execInvestigationWindowExpiry zone s = .next out ∧ Secures s out := by
  refine Secures.command ?_
  try dsimp only
  repeat' first | exact Secures.refl _ | with_reducible refine Secures.liftG (KeepsG.makeGeneral _ _ (KeepsG.refl _)) ?_ | with_reducible refine Secures.lift (Keeps.refreshPresented (Keeps.refl _)) ?_ | split

theorem execVisit_keeps (reading : Byte) (s : State) : ∃ out, Machine.execVisit reading s = .next out ∧ Secures s out := by
  refine Secures.command ?_
  try dsimp only
  repeat' first | exact Secures.refl _ | with_reducible refine Secures.liftG (KeepsG.visitChannel _ _ (KeepsG.refl _)) ?_ | with_reducible refine Secures.lift (Keeps.refreshPresented (Keeps.refl _)) ?_ | split

theorem execOffTimeEnd_keeps (n : Nat) (s : State) : ∃ out, Machine.execOffTimeEnd n s = .next out ∧ Secures s out := by
  refine Secures.command ?_
  try dsimp only
  repeat' first | exact Secures.refl _ | with_reducible refine Secures.lift (Keeps.mapChannel _ _ (Keeps.refl _)) ?_ | split

theorem execBlankingEnd_keeps (n : Nat) (s : State) : ∃ out, Machine.execBlankingEnd n s = .next out ∧ Secures s out := by
  refine Secures.command ?_
  try dsimp only
  repeat' first | exact Secures.refl _ | with_reducible refine Secures.lift (Keeps.freshRun _ (Keeps.refl _)) ?_ | with_reducible refine Secures.lift (Keeps.mapChannel _ _ (Keeps.refl _)) ?_ | split

theorem execVerificationWindowEnd_keeps (n : Nat) (s : State) : ∃ out, Machine.execVerificationWindowEnd n s = .next out ∧ Secures s out := by
  refine Secures.command ?_
  try dsimp only
  repeat' first | exact Secures.refl _ | with_reducible refine Secures.lift (Keeps.failVerification _ _ (Keeps.refl _)) ?_ | split

theorem execIsolate_keeps (p : Port) (tag : Tag) (t : IsolationTarget) (s : State) : ∃ out, Machine.execIsolate p tag t s = .next out ∧ Secures s out := by
  refine Secures.request fun s => ?_
  try dsimp only
  repeat' first | exact Secures.refl _ | unfold stageRequest | unfold stageRequest | with_reducible apply Secures.refuse | with_reducible refine Secures.lift (Keeps.makeIsolated _ (Keeps.refl _)) ?_ | with_reducible apply Secures.done | split | dsimp only

theorem execRestore_keeps (p : Port) (tag : Tag) (t : IsolationTarget) (s : State) : ∃ out, Machine.execRestore p tag t s = .next out ∧ Secures s out := by
  refine Secures.request fun s => ?_
  try dsimp only
  repeat' first | exact Secures.refl _ | unfold stageRequest | unfold stageRequest | with_reducible apply Secures.refuse | with_reducible refine Secures.lift (Keeps.makeRestored _ (Keeps.refl _)) ?_ | with_reducible apply Secures.done | split | dsimp only

theorem execReadChannel_keeps (p : Port) (tag : Tag) (n : Nat) (s : State) : ∃ out, Machine.execReadChannel p tag n s = .next out ∧ Secures s out := by
  refine Secures.request fun s => ?_
  try dsimp only
  repeat' first | exact Secures.refl _ | with_reducible apply Secures.done | with_reducible apply Secures.refuse | with_reducible apply Secures.reply | split

theorem execManualLevel_keeps (p : Port) (tag : Tag) (ns : List Nat) (level : Nat) (fade : Nat) (s : State) : ∃ out, Machine.execManualLevel p tag ns level fade s = .next out ∧ Secures s out := by
  refine Secures.request fun s => ?_
  try dsimp only
  repeat' first | exact Secures.refl _ | with_reducible refine Secures.lift (Keeps.onField _ (Keeps.refl _)) ?_ | with_reducible apply Secures.done | with_reducible apply Secures.refuse | split

theorem execManualLevelRelease_keeps (p : Port) (tag : Tag) (ns : List Nat) (fade : Nat) (s : State) : ∃ out, Machine.execManualLevelRelease p tag ns fade s = .next out ∧ Secures s out := by
  refine Secures.request fun s => ?_
  try dsimp only
  repeat' first | exact Secures.refl _ | with_reducible refine Secures.lift (Keeps.onField _ (Keeps.refl _)) ?_ | with_reducible apply Secures.done | with_reducible apply Secures.refuse | split

theorem execGoPreset_keeps (p : Port) (tag : Tag) (n : Nat) (s : State) : ∃ out, Machine.execGoPreset p tag n s = .next out ∧ Secures s out := by
  refine Secures.request fun s => ?_
  try dsimp only
  repeat' first | exact Secures.refl _ | with_reducible refine Secures.lift (Keeps.onField _ (Keeps.refl _)) ?_ | with_reducible apply Secures.done | with_reducible apply Secures.refuse | split

theorem execLightStatus_keeps (p : Port) (tag : Tag) (first : Nat) (s : State) : ∃ out, Machine.execLightStatus p tag first s = .next out ∧ Secures s out := by
  refine Secures.request fun s => ?_
  try dsimp only
  repeat' first | exact Secures.refl _ | with_reducible refine Secures.lift (Keeps.spend (Keeps.refl _)) ?_ | with_reducible refine Secures.lift (Keeps.spend (Keeps.refl _)) ?_ | with_reducible apply Secures.done | with_reducible apply Secures.reply | split

theorem execFadeAdvance_keeps (s : State) : ∃ out, Machine.execFadeAdvance s = .next out ∧ Secures s out := by
  refine Secures.command ?_
  try dsimp only
  repeat' first | exact (Secures.refl _).lift (((Keeps.refl _).mapClock _).onField _) | exact Secures.refl _ | with_reducible refine Secures.lift (Keeps.onField _ (Keeps.refl _)) ?_ | with_reducible apply Secures.done | split

theorem execFadeEnd_keeps (n : Nat) (s : State) : ∃ out, Machine.execFadeEnd n s = .next out ∧ Secures s out := by
  refine Secures.command ?_
  try dsimp only
  repeat' first | exact (Secures.refl _).lift (((Keeps.refl _).mapClock _).onField _) | exact Secures.refl _ | with_reducible refine Secures.lift (Keeps.onField _ (Keeps.refl _)) ?_ | with_reducible apply Secures.done | split

theorem execFlashClockHalf_keeps (s : State) : ∃ out, Machine.execFlashClockHalf s = .next out ∧ Secures s out := by
  refine Secures.command ?_
  try dsimp only
  repeat' first | with_reducible refine Secures.lift ((Keeps.refl _).mapClock _) ?_ | exact Secures.refl _ | with_reducible refine Secures.lift (Keeps.onField _ (Keeps.refl _)) ?_ | with_reducible apply Secures.done | split

theorem execPlaceCall_keeps (p : Port) (tag : Tag) (cls : CallClass) (kind : CallKind) (t : Target) (reps : Repeats) (anchor : Anchor) (off : Option Nat) (s : State) : ∃ out, Machine.execPlaceCall p tag cls kind t reps anchor off s = .next out ∧ Secures s out := by
  refine Secures.request fun s => ?_
  try dsimp only
  repeat' first | with_reducible refine Secures.lift (Keeps.contend (Keeps.refl _)) ?_ | with_reducible refine Secures.lift (Keeps.joinQueue _ (Keeps.refl _)) ?_ | exact Secures.refl _ | with_reducible refine Secures.lift (Keeps.enqueue _ (Keeps.refl _)) ?_ | with_reducible apply Secures.done | with_reducible apply Secures.refuse | split

theorem execWithdrawCall_keeps (p : Port) (tag : Tag) (named : Nat) (s : State) : ∃ out, Machine.execWithdrawCall p tag named s = .next out ∧ Secures s out := by
  refine Secures.request fun s => ?_
  try dsimp only
  repeat' first | exact Secures.refl _ | with_reducible refine Secures.lift (Keeps.withdrawIds _ (Keeps.refl _)) ?_ | with_reducible apply Secures.done | with_reducible apply Secures.refuse | with_reducible apply Secures.reply | split

theorem execCallStatus_keeps (p : Port) (tag : Tag) (first : Nat) (s : State) : ∃ out, Machine.execCallStatus p tag first s = .next out ∧ Secures s out := by
  refine Secures.request fun s => ?_
  try dsimp only
  repeat' first | exact Secures.refl _ | with_reducible refine Secures.lift (Keeps.spend (Keeps.refl _)) ?_ | with_reducible refine Secures.lift (Keeps.spend (Keeps.refl _)) ?_ | with_reducible apply Secures.done | with_reducible apply Secures.reply | split

theorem execCallTimeLimit_keeps (s : State) : ∃ out, Machine.execCallTimeLimit s = .next out ∧ Secures s out := by
  refine Secures.command ?_
  try dsimp only
  repeat' first | exact Secures.refl _ | with_reducible refine Secures.lift (Keeps.endAtLimit _ _ (Keeps.refl _)) ?_ | split

theorem execAcknowledgeFault_keeps (p : Port) (tag : Tag) (src : FaultSource) (kind : Option FaultKind) (s : State) : ∃ out, Machine.execAcknowledgeFault p tag src kind s = .next out ∧ Secures s out := by
  refine Secures.request fun s => ?_
  try dsimp only
  repeat' first | exact Secures.refl _ | with_reducible refine Secures.lift (Keeps.acknowledgeEntryFault _ _ (Keeps.refl _)) ?_ | with_reducible apply Secures.done | with_reducible apply Secures.refuse | split

theorem execAcknowledgeFaultLost_keeps (p : Port) (tag : Tag) (s : State) : ∃ out, Machine.execAcknowledgeFaultLost p tag s = .next out ∧ Secures s out := by
  refine Secures.request fun s => ?_
  try dsimp only
  repeat' first | exact Secures.refl _ | with_reducible refine Secures.lift (Keeps.resetLost (Keeps.refl _)) ?_ | with_reducible apply Secures.done | with_reducible apply Secures.refuse | split

theorem execFaultList_keeps (p : Port) (tag : Tag) (first : Nat) (s : State) : ∃ out, Machine.execFaultList p tag first s = .next out ∧ Secures s out := by
  refine Secures.request fun s => ?_
  try dsimp only
  repeat' first | exact Secures.refl _ | with_reducible refine Secures.lift (Keeps.spend (Keeps.refl _)) ?_ | with_reducible refine Secures.lift (Keeps.spend (Keeps.refl _)) ?_ | with_reducible apply Secures.done | with_reducible apply Secures.reply | split

theorem execLoopReply_keeps (f : LoopFrame) (s : State) : ∃ out, Machine.execLoopReply f s = .next out ∧ Secures s out := by
  refine Secures.command ?_
  try dsimp only
  repeat' first | exact Secures.refl _ | with_reducible refine Secures.liftG (KeepsG.takeOutcome _ _ (KeepsG.refl _)) ?_ | with_reducible refine Secures.lift (Keeps.refreshPresented (Keeps.refl _)) ?_ | split

theorem execReplyWindowExpiry_keeps (s : State) : ∃ out, Machine.execReplyWindowExpiry s = .next out ∧ Secures s out := by
  refine Secures.command ?_
  try dsimp only
  repeat' first | with_reducible refine Secures.lift ((Keeps.refl _).mapClock _) ?_ | exact Secures.refl _ | with_reducible refine Secures.liftG (KeepsG.takeOutcome _ _ (KeepsG.refl _)) ?_ | with_reducible refine Secures.lift (Keeps.refreshPresented (Keeps.refl _)) ?_ | split

theorem execLoopBroadcastSent_keeps (s : State) : ∃ out, Machine.execLoopBroadcastSent s = .next out ∧ Secures s out := by
  refine Secures.command ?_
  try dsimp only
  repeat' first | exact Secures.refl _ | with_reducible refine Secures.lift (Keeps.broadcastSent (Keeps.refl _)) ?_ | split

theorem execPollDue_keeps (a : Nat) (s : State) : ∃ out, Machine.execPollDue a s = .next out ∧ Secures s out := by
  refine Secures.command ?_
  try dsimp only
  repeat' first | with_reducible refine Secures.lift ((Keeps.refl _).mapClock _) ?_ | exact Secures.refl _ | with_reducible refine Secures.lift (Keeps.mapLoop _ (Keeps.refl _)) ?_ | split

theorem execSurveyPeriodEnd_keeps (s : State) : ∃ out, Machine.execSurveyPeriodEnd s = .next out ∧ Secures s out := by
  refine Secures.command ?_
  try dsimp only
  repeat' first | exact Secures.refl _ | with_reducible refine Secures.lift (Keeps.mapLoop _ (Keeps.refl _)) ?_ | split

theorem execRetrainLoop_keeps (p : Port) (tag : Tag) (s : State) : ∃ out, Machine.execRetrainLoop p tag s = .next out ∧ Secures s out := by
  refine Secures.request fun s => ?_
  try dsimp only
  repeat' first | exact Secures.refl _ | unfold stageRequest | unfold stageRequest | with_reducible apply Secures.refuse | with_reducible refine Secures.lift (Keeps.retrain (Keeps.refl _)) ?_ | with_reducible apply Secures.accept | split | dsimp only

theorem execUnitTable_keeps (p : Port) (tag : Tag) (first : Nat) (s : State) : ∃ out, Machine.execUnitTable p tag first s = .next out ∧ Secures s out := by
  refine Secures.request fun s => ?_
  try dsimp only
  repeat' first | exact Secures.refl _ | with_reducible refine Secures.lift (Keeps.spend (Keeps.refl _)) ?_ | with_reducible refine Secures.lift (Keeps.spend (Keeps.refl _)) ?_ | with_reducible apply Secures.done | with_reducible apply Secures.reply | split

theorem execConfig_keeps (p : Port) (tag : Tag) (n : Option SectionName) (fs : List ConfigField) (s : State) : ∃ out, Machine.execConfig p tag n fs s = .next out ∧ Secures s out := by
  refine Secures.request fun s => ?_
  try dsimp only
  repeat' first | exact Secures.refl _ | with_reducible refine Secures.liftG (KeepsG.applyConfig _ _ (KeepsG.refl _)) ?_ | unfold stageRequest | unfold stageRequest | with_reducible apply Secures.refuse | with_reducible apply Secures.done | split | dsimp only

theorem execGetConfig_keeps (p : Port) (tag : Tag) (n : Option SectionName) (first : Nat) (s : State) : ∃ out, Machine.execGetConfig p tag n first s = .next out ∧ Secures s out := by
  refine Secures.request fun s => ?_
  try dsimp only
  repeat' first | exact Secures.refl _ | with_reducible refine Secures.lift (Keeps.spend (Keeps.refl _)) ?_ | with_reducible refine Secures.lift (Keeps.spend (Keeps.refl _)) ?_ | with_reducible apply Secures.done | with_reducible apply Secures.refuse | with_reducible apply Secures.reply | split

theorem execStoreSection_keeps (p : Port) (tag : Tag) (n : Option SectionName) (s : State) : ∃ out, Machine.execStoreSection p tag n s = .next out ∧ Secures s out := by
  refine Secures.request fun s => ?_
  try dsimp only
  repeat' first | exact Secures.refl _ | unfold stageRequest | unfold stageRequest | with_reducible apply Secures.refuse | with_reducible refine Secures.lift (Keeps.beginStore _ (Keeps.refl _)) ?_ | with_reducible apply Secures.accept | split | dsimp only

theorem execStoreWriteEnd_keeps (s : State) : ∃ out, Machine.execStoreWriteEnd s = .next out ∧ Secures s out := by
  refine Secures.command ?_
  try dsimp only
  repeat' first | exact Secures.refl _ | with_reducible refine Secures.lift (Keeps.endStore _ (Keeps.refl _)) ?_ | split

theorem execRestart_keeps (p : Port) (tag : Tag) (s : State) : ∃ out, Machine.execRestart p tag s = .next out ∧ Secures s out := by
  refine Secures.request fun s => ?_
  try dsimp only
  repeat' first | exact Secures.refl _ | unfold stageRequest | unfold stageRequest | with_reducible apply Secures.refuse | with_reducible apply Secures.done | with_reducible apply Secures.reply | split | dsimp only

theorem execReceivedFrame_keeps (p : Port) (f : PortFrame) (s : State) : ∃ out, Machine.execReceivedFrame p f s = .next out ∧ Secures s out := Secures.command ((Secures.refl s).mapPort p _ fun _ h => receive_bounded _ _ _ h)

theorem execBadSync_keeps (p : Port) (s : State) : ∃ out, Machine.execBadSync p s = .next out ∧ Secures s out := Secures.command ((Secures.refl s).mapPort p PortUnit.frameError fun _ h => h)

theorem execBadLength_keeps (p : Port) (s : State) : ∃ out, Machine.execBadLength p s = .next out ∧ Secures s out := Secures.command ((Secures.refl s).mapPort p PortUnit.frameError fun _ h => h)

theorem execIncomplete_keeps (p : Port) (s : State) : ∃ out, Machine.execIncomplete p s = .next out ∧ Secures s out := Secures.command ((Secures.refl s).mapPort p PortUnit.frameError fun _ h => h)

theorem execBadCheck_keeps (p : Port) (s : State) : ∃ out, Machine.execBadCheck p s = .next out ∧ Secures s out := Secures.command ((Secures.refl s).mapPort p PortUnit.frameError fun _ h => h)

theorem execBadFraming_keeps (p : Port) (s : State) : ∃ out, Machine.execBadFraming p s = .next out ∧ Secures s out := Secures.command ((Secures.refl s).mapPort p PortUnit.frameError fun _ h => h)

theorem execRequestPassedOn_keeps (p : Port) (s : State) : ∃ out, Machine.execRequestPassedOn p s = .next out ∧ Secures s out := Secures.command ((Secures.refl s).mapPort p (fun u => { u with intake := passOn u.intake }) passOn_bounded)

theorem execSubscribe_keeps (p : Port) (tag : Tag) (families : List (Option Family × Bool)) (s : State) : ∃ out, Machine.execSubscribe p tag families s = .next out ∧ Secures s out := by
  refine Secures.request fun s => ?_
  try dsimp only
  repeat' first | exact Secures.refl _ | with_reducible refine Secures.lift (Keeps.setSubscriptions _ _ (Keeps.refl _)) ?_ | with_reducible apply Secures.done | with_reducible apply Secures.refuse | with_reducible apply Secures.reply | split

theorem execPortStatus_keeps (p : Port) (tag : Tag) (selectorKnown : Bool) (first : Nat) (s : State) : ∃ out, Machine.execPortStatus p tag selectorKnown first s = .next out ∧ Secures s out := by
  refine Secures.request fun s => ?_
  try dsimp only
  repeat' first | exact Secures.refl _ | with_reducible refine Secures.lift (Keeps.spend (Keeps.refl _)) ?_ | with_reducible refine Secures.lift (Keeps.spend (Keeps.refl _)) ?_ | with_reducible apply Secures.done | with_reducible apply Secures.refuse | with_reducible apply Secures.reply | split

theorem execPortStatusReadAndClear_keeps (p : Port) (tag : Tag) (first : Nat) (s : State) : ∃ out, Machine.execPortStatusReadAndClear p tag first s = .next out ∧ Secures s out := Secures.request fun s => ((((Keeps.refl s).spend.keepsG.secures).reply p tag _).mapPort p PortUnit.clearCounts fun _ h => h)

theorem execIdentify_keeps (p : Port) (tag : Tag) (s : State) : ∃ out, Machine.execIdentify p tag s = .next out ∧ Secures s out := by
  refine Secures.request fun s => ?_
  try dsimp only
  repeat' first | exact Secures.refl _ | with_reducible apply Secures.done | with_reducible apply Secures.reply | split

end Sys2Proof.Machine
end

