-- ==== Sys2Proof/Laws/LoopFrames.lean ====
section
/-! SUPPORT. A loop frame reads back as what it was laid out from (R158), and one that stops early is not complete. -/

namespace Sys2Proof.Laws

open Sys2Proof Sys2Proof.Machine

/-- The flags byte, by its four places and its kind code. -/
theorem loopFlags_places : ∀ (m : Fin 16) (last reply good : Bool),
    let b := BitVec.ofNat 8 ((if last then 128 else 0) + (if reply then 64 else 0) + (if good then 32 else 0) + m.val)
    b.getLsbD 7 = last ∧ b.getLsbD 6 = reply ∧ b.getLsbD 5 = good ∧ b.getLsbD 4 = false ∧ b.toNat % 16 = m.val := by decide

/-- R158: the flags of a frame laid out read back. -/
theorem loopFlags_read (last reply good : Bool) (k : LoopKind) :
    (loopFlags last reply good k).getLsbD 7 = last ∧ (loopFlags last reply good k).getLsbD 6 = reply ∧
      (loopFlags last reply good k).getLsbD 5 = good ∧ (loopFlags last reply good k).getLsbD 4 = false ∧
      (loopFlags last reply good k).toNat % 16 = loopKindCode k % 16 :=
  loopFlags_places ⟨loopKindCode k % 16, Nat.mod_lt _ (by decide)⟩ last reply good

theorem loopBody_length (a : Nat) (flags : Byte) (payload : List Byte) : (loopBody a flags payload).length = payload.length + 3 := rfl

theorem loopFrame_length (a : Nat) (flags : Byte) (payload : List Byte) : (loopFrame a flags payload).length = payload.length + 5 := by
  rw [loopFrame, List.length_append, loopBody_length]; rfl

/-- R158: the length that a frame laid out announces. -/
theorem loopFrame_announced (a : Nat) (flags : Byte) (payload : List Byte) (w : LoopWord) (h : payload.length ≤ 32) :
    (LoopFrame.mk (loopFrame a flags payload) w).length = payload.length := by
  show (BitVec.ofNat 8 payload.length).toNat = payload.length
  rw [BitVec.toNat_ofNat]; omega

/-- R158: a frame laid out reads back with its address, its flags, its kind and its payload, at its full length and with a good check. -/
theorem loopFrame_reads_back (a : Nat) (last reply good : Bool) (k : LoopKind) (payload : List Byte) (w : LoopWord) (ha : a ≤ 255)
    (hp : payload.length ≤ 32) :
    let f : LoopFrame := ⟨loopFrame a (loopFlags last reply good k) payload, w⟩
    f.address = a ∧ f.reply = reply ∧ f.good = good ∧ f.kind = loopKindOf (loopKindCode k % 16) ∧ f.payload = payload ∧
      f.complete = true ∧ f.checkGood = true := by
  obtain ⟨-, hr, hg, -, hk⟩ := loopFlags_read last reply good k
  have hl := loopFrame_announced a (loopFlags last reply good k) payload w hp
  have hb := loopBody_length a (loopFlags last reply good k) payload
  refine ⟨?_, hr, hg, congrArg loopKindOf hk, ?_, ?_, ?_⟩
  · show (BitVec.ofNat 8 a).toNat = a
    rw [BitVec.toNat_ofNat]; omega
  · rw [LoopFrame.payload, hl]
    exact List.take_left
  · rw [LoopFrame.complete, hl, loopFrame_length, decide_eq_true (Nat.le_refl _)]
  · rw [LoopFrame.checkGood, hl, ← hb, loopFrame, List.drop_left, List.take_left]
    exact beq_self_eq_true _

/-- R158: a frame that stops before its length is complete is seen to. -/
theorem loopFrame_cut_short (a n : Nat) (flags : Byte) (payload : List Byte) (w : LoopWord) (hp : payload.length ≤ 32)
    (hn : n < payload.length + 5) : (LoopFrame.mk ((loopFrame a flags payload).take n) w).complete = false := by
  have hl : ((loopFrame a flags payload).take n).length ≤ n := List.length_take_le _ _
  rw [LoopFrame.complete, decide_eq_false_iff_not]
  intro h
  have h5 : 5 ≤ n := by simp only at h; omega
  obtain ⟨m, rfl⟩ : ∃ m, n = m + 3 := ⟨n - 3, by omega⟩
  have ha : (LoopFrame.mk ((loopFrame a flags payload).take (m + 3)) w).length = payload.length := by
    show (BitVec.ofNat 8 payload.length).toNat = payload.length
    rw [BitVec.toNat_ofNat]; omega
  rw [ha] at h
  simp only at h
  omega

/-- R158: a kind of the table reads back from its code. -/
theorem loopKindOf_code (k : LoopKind) (h : ∀ c, k ≠ .other c) : loopKindOf (loopKindCode k % 16) = k := by
  cases k with
  | other c => exact absurd rfl (h c)
  | _ => rfl

end Sys2Proof.Laws
end

