-- ==== Sys2Proof/WellFormed.lean ====
section
/-! DEFINITION. The commands that the manual's numbering allows a sender to make (00_scope.md, Numbering; R158, R178). Requests whose values are out of range are well formed: the controller refuses them itself. -/

namespace Sys2Proof

/-- A frame of at most 120 payload bytes (R178). -/
def PortFrame.wellFormed (f : PortFrame) : Bool := decide (f.payload.length ≤ 120)

/-- A frame that has begun, of at most 32 payload bytes (R158). -/
def LoopFrame.wellFormed (f : LoopFrame) : Bool := decide (1 ≤ f.bytes.length) && decide (f.bytes.length ≤ 37)

/-- A command in range: channels 1 to 16, zones 1 to 12, lamp channels 1 to 48, loop addresses 1 to 31. -/
def Instr.wellFormed : Instr → Bool
  | .receivedFrame _ f => f.wellFormed
  | .loopReply f => f.wellFormed
  | .offTimeEnd n | .blankingEnd n | .verificationWindowEnd n => decide (1 ≤ n) && decide (n ≤ 16)
  | .ackWindowExpiry z | .investigationWindowExpiry z => decide (1 ≤ z) && decide (z ≤ 12)
  | .fadeEnd n => decide (1 ≤ n) && decide (n ≤ 48)
  | .pollDue a => decide (1 ≤ a) && decide (a ≤ 31)
  | _ => true

end Sys2Proof
end

