-- ==== Sys2Proof/Laws/PerInstr.lean ====
section
/-! SUPPORT. Statements made for every command as syntax, with one lemma per constructor. -/

namespace Sys2Proof.Laws

/-- Every request is well formed, whatever its values: the controller itself refuses values out of range (R181). -/
def RequestsWellFormed.Statement (i : Instr) : Prop := (i.request).isSome = true → i.wellFormed = true

theorem RequestsWellFormed.powerOn : Statement .powerOn := fun h => absurd h Bool.false_ne_true
theorem RequestsWellFormed.resetNAsserted : Statement .resetNAsserted := fun h => absurd h Bool.false_ne_true
theorem RequestsWellFormed.resetNReleased : Statement .resetNReleased := fun h => absurd h Bool.false_ne_true
theorem RequestsWellFormed.receivedFrame (p : Port) (frame : PortFrame) : Statement (.receivedFrame p frame) := fun h => absurd h Bool.false_ne_true
theorem RequestsWellFormed.badSync (p : Port) : Statement (.badSync p) := fun h => absurd h Bool.false_ne_true
theorem RequestsWellFormed.badLength (p : Port) : Statement (.badLength p) := fun h => absurd h Bool.false_ne_true
theorem RequestsWellFormed.incomplete (p : Port) : Statement (.incomplete p) := fun h => absurd h Bool.false_ne_true
theorem RequestsWellFormed.badCheck (p : Port) : Statement (.badCheck p) := fun h => absurd h Bool.false_ne_true
theorem RequestsWellFormed.badFraming (p : Port) : Statement (.badFraming p) := fun h => absurd h Bool.false_ne_true
theorem RequestsWellFormed.requestPassedOn (p : Port) : Statement (.requestPassedOn p) := fun h => absurd h Bool.false_ne_true
theorem RequestsWellFormed.frameSent (p : Port) : Statement (.frameSent p) := fun h => absurd h Bool.false_ne_true
theorem RequestsWellFormed.phase (p : Port) (tag : Tag) (target : Phase) (countdown : Option Nat) (length : Option Nat) (override : Bool) : Statement (.phase p tag target countdown length override) := fun _ => rfl
theorem RequestsWellFormed.giveClearance (p : Port) (tag : Tag) : Statement (.giveClearance p tag) := fun _ => rfl
theorem RequestsWellFormed.withdrawClearance (p : Port) (tag : Tag) : Statement (.withdrawClearance p tag) := fun _ => rfl
theorem RequestsWellFormed.setCountdown (p : Port) (tag : Tag) (value : Nat) : Statement (.setCountdown p tag value) := fun _ => rfl
theorem RequestsWellFormed.setCountdownClear (p : Port) (tag : Tag) : Statement (.setCountdownClear p tag) := fun _ => rfl
theorem RequestsWellFormed.extendInterval (p : Port) (tag : Tag) (seconds : Nat) : Statement (.extendInterval p tag seconds) := fun _ => rfl
theorem RequestsWellFormed.performanceStatus (p : Port) (tag : Tag) (first : Nat) : Statement (.performanceStatus p tag first) := fun _ => rfl
theorem RequestsWellFormed.clearanceLapse (which : ClearanceName) : Statement (.clearanceLapse which) := fun h => absurd h Bool.false_ne_true
theorem RequestsWellFormed.uptimeAdvance : Statement .uptimeAdvance := fun h => absurd h Bool.false_ne_true
theorem RequestsWellFormed.countdownReachesZero (which : CountdownName) : Statement (.countdownReachesZero which) := fun h => absurd h Bool.false_ne_true
theorem RequestsWellFormed.visit (reading : Byte) : Statement (.visit reading) := fun h => absurd h Bool.false_ne_true
theorem RequestsWellFormed.offTimeEnd (channel : Nat) : Statement (.offTimeEnd channel) := fun h => absurd h Bool.false_ne_true
theorem RequestsWellFormed.blankingEnd (channel : Nat) : Statement (.blankingEnd channel) := fun h => absurd h Bool.false_ne_true
theorem RequestsWellFormed.verificationWindowEnd (channel : Nat) : Statement (.verificationWindowEnd channel) := fun h => absurd h Bool.false_ne_true
theorem RequestsWellFormed.isolate (p : Port) (tag : Tag) (what : IsolationTarget) : Statement (.isolate p tag what) := fun _ => rfl
theorem RequestsWellFormed.restore (p : Port) (tag : Tag) (what : IsolationTarget) : Statement (.restore p tag what) := fun _ => rfl
theorem RequestsWellFormed.readChannel (p : Port) (tag : Tag) (channel : Nat) : Statement (.readChannel p tag channel) := fun _ => rfl
theorem RequestsWellFormed.acknowledge (p : Port) (tag : Tag) (zone : Nat) : Statement (.acknowledge p tag zone) := fun _ => rfl
theorem RequestsWellFormed.cancel (p : Port) (tag : Tag) (zone : Nat) : Statement (.cancel p tag zone) := fun _ => rfl
theorem RequestsWellFormed.silence (p : Port) (tag : Tag) : Statement (.silence p tag) := fun _ => rfl
theorem RequestsWellFormed.evacuate (p : Port) (tag : Tag) : Statement (.evacuate p tag) := fun _ => rfl
theorem RequestsWellFormed.resetAlarms (p : Port) (tag : Tag) : Statement (.resetAlarms p tag) := fun _ => rfl
theorem RequestsWellFormed.alarmList (p : Port) (tag : Tag) (first : Nat) : Statement (.alarmList p tag first) := fun _ => rfl
theorem RequestsWellFormed.ackWindowExpiry (zone : Nat) : Statement (.ackWindowExpiry zone) := fun h => absurd h Bool.false_ne_true
theorem RequestsWellFormed.investigationWindowExpiry (zone : Nat) : Statement (.investigationWindowExpiry zone) := fun h => absurd h Bool.false_ne_true
theorem RequestsWellFormed.curtainLower (p : Port) (tag : Tag) : Statement (.curtainLower p tag) := fun _ => rfl
theorem RequestsWellFormed.curtainRaise (p : Port) (tag : Tag) : Statement (.curtainRaise p tag) := fun _ => rfl
theorem RequestsWellFormed.curtainStop (p : Port) (tag : Tag) : Statement (.curtainStop p tag) := fun _ => rfl
theorem RequestsWellFormed.curtainDropTest (p : Port) (tag : Tag) : Statement (.curtainDropTest p tag) := fun _ => rfl
theorem RequestsWellFormed.curtainClearFault (p : Port) (tag : Tag) : Statement (.curtainClearFault p tag) := fun _ => rfl
theorem RequestsWellFormed.curtainStatus (p : Port) (tag : Tag) (first : Nat) : Statement (.curtainStatus p tag first) := fun _ => rfl
theorem RequestsWellFormed.curtainHold (p : Port) (tag : Tag) : Statement (.curtainHold p tag) := fun _ => rfl
theorem RequestsWellFormed.curtainDisplay (p : Port) (tag : Tag) : Statement (.curtainDisplay p tag) := fun _ => rfl
theorem RequestsWellFormed.limitBottomActive : Statement .limitBottomActive := fun h => absurd h Bool.false_ne_true
theorem RequestsWellFormed.limitBottomLost : Statement .limitBottomLost := fun h => absurd h Bool.false_ne_true
theorem RequestsWellFormed.limitTopActive : Statement .limitTopActive := fun h => absurd h Bool.false_ne_true
theorem RequestsWellFormed.limitTopLost : Statement .limitTopLost := fun h => absurd h Bool.false_ne_true
theorem RequestsWellFormed.encoderStep (line : EncoderLine) (interval : Nat) : Statement (.encoderStep line interval) := fun h => absurd h Bool.false_ne_true
theorem RequestsWellFormed.motionWatchEnd : Statement .motionWatchEnd := fun h => absurd h Bool.false_ne_true
theorem RequestsWellFormed.settingLineChange (beamUs : Bool) (beamDs : Bool) : Statement (.settingLineChange beamUs beamDs) := fun h => absurd h Bool.false_ne_true
theorem RequestsWellFormed.releaseExpiry : Statement .releaseExpiry := fun h => absurd h Bool.false_ne_true
theorem RequestsWellFormed.graceEnd : Statement .graceEnd := fun h => absurd h Bool.false_ne_true
theorem RequestsWellFormed.dropOverdue : Statement .dropOverdue := fun h => absurd h Bool.false_ne_true
theorem RequestsWellFormed.dwellEnd : Statement .dwellEnd := fun h => absurd h Bool.false_ne_true
theorem RequestsWellFormed.emergReleaseAsserted : Statement .emergReleaseAsserted := fun h => absurd h Bool.false_ne_true
theorem RequestsWellFormed.emergReleaseReleased : Statement .emergReleaseReleased := fun h => absurd h Bool.false_ne_true
theorem RequestsWellFormed.manualLevel (p : Port) (tag : Tag) (channels : List Nat) (level : Nat) (fade : Nat) : Statement (.manualLevel p tag channels level fade) := fun _ => rfl
theorem RequestsWellFormed.manualLevelRelease (p : Port) (tag : Tag) (channels : List Nat) (fade : Nat) : Statement (.manualLevelRelease p tag channels fade) := fun _ => rfl
theorem RequestsWellFormed.goPreset (p : Port) (tag : Tag) (number : Nat) : Statement (.goPreset p tag number) := fun _ => rfl
theorem RequestsWellFormed.lightStatus (p : Port) (tag : Tag) (first : Nat) : Statement (.lightStatus p tag first) := fun _ => rfl
theorem RequestsWellFormed.fadeAdvance : Statement .fadeAdvance := fun h => absurd h Bool.false_ne_true
theorem RequestsWellFormed.fadeEnd (channel : Nat) : Statement (.fadeEnd channel) := fun h => absurd h Bool.false_ne_true
theorem RequestsWellFormed.flashClockHalf : Statement .flashClockHalf := fun h => absurd h Bool.false_ne_true
theorem RequestsWellFormed.placeCall (p : Port) (tag : Tag) (cls : CallClass) (kind : CallKind) (target : Target) (repeats : Repeats) (anchor : Anchor) (offset : Option Nat) : Statement (.placeCall p tag cls kind target repeats anchor offset) := fun _ => rfl
theorem RequestsWellFormed.withdrawCall (p : Port) (tag : Tag) (named : Nat) : Statement (.withdrawCall p tag named) := fun _ => rfl
theorem RequestsWellFormed.callStatus (p : Port) (tag : Tag) (first : Nat) : Statement (.callStatus p tag first) := fun _ => rfl
theorem RequestsWellFormed.callTimeLimit : Statement .callTimeLimit := fun h => absurd h Bool.false_ne_true
theorem RequestsWellFormed.acknowledgeFault (p : Port) (tag : Tag) (source : FaultSource) (kind : Option FaultKind) : Statement (.acknowledgeFault p tag source kind) := fun _ => rfl
theorem RequestsWellFormed.acknowledgeFaultLost (p : Port) (tag : Tag) : Statement (.acknowledgeFaultLost p tag) := fun _ => rfl
theorem RequestsWellFormed.faultList (p : Port) (tag : Tag) (first : Nat) : Statement (.faultList p tag first) := fun _ => rfl
theorem RequestsWellFormed.loopReply (frame : LoopFrame) : Statement (.loopReply frame) := fun h => absurd h Bool.false_ne_true
theorem RequestsWellFormed.replyWindowExpiry : Statement .replyWindowExpiry := fun h => absurd h Bool.false_ne_true
theorem RequestsWellFormed.loopBroadcastSent : Statement .loopBroadcastSent := fun h => absurd h Bool.false_ne_true
theorem RequestsWellFormed.pollDue (address : Nat) : Statement (.pollDue address) := fun h => absurd h Bool.false_ne_true
theorem RequestsWellFormed.surveyPeriodEnd : Statement .surveyPeriodEnd := fun h => absurd h Bool.false_ne_true
theorem RequestsWellFormed.retrainLoop (p : Port) (tag : Tag) : Statement (.retrainLoop p tag) := fun _ => rfl
theorem RequestsWellFormed.unitTable (p : Port) (tag : Tag) (first : Nat) : Statement (.unitTable p tag first) := fun _ => rfl
theorem RequestsWellFormed.subscribe (p : Port) (tag : Tag) (families : List (Option Family × Bool)) : Statement (.subscribe p tag families) := fun _ => rfl
theorem RequestsWellFormed.portStatus (p : Port) (tag : Tag) (selectorKnown : Bool) (first : Nat) : Statement (.portStatus p tag selectorKnown first) := fun _ => rfl
theorem RequestsWellFormed.portStatusReadAndClear (p : Port) (tag : Tag) (first : Nat) : Statement (.portStatusReadAndClear p tag first) := fun _ => rfl
theorem RequestsWellFormed.identify (p : Port) (tag : Tag) : Statement (.identify p tag) := fun _ => rfl
theorem RequestsWellFormed.config (p : Port) (tag : Tag) (name : Option SectionName) (fields : List ConfigField) : Statement (.config p tag name fields) := fun _ => rfl
theorem RequestsWellFormed.getConfig (p : Port) (tag : Tag) (name : Option SectionName) (first : Nat) : Statement (.getConfig p tag name first) := fun _ => rfl
theorem RequestsWellFormed.storeSection (p : Port) (tag : Tag) (name : Option SectionName) : Statement (.storeSection p tag name) := fun _ => rfl
theorem RequestsWellFormed.storeWriteEnd : Statement .storeWriteEnd := fun h => absurd h Bool.false_ne_true
theorem RequestsWellFormed.restart (p : Port) (tag : Tag) : Statement (.restart p tag) := fun _ => rfl

end Sys2Proof.Laws
end

