-- ==== Sys2Proof/Laws/State.lean ====
section
/-! SUPPORT. One lemma per field per update of the state, so that no proof unfolds a record update; and what a notice can change. -/

namespace Sys2Proof.Machine

section
variable (s : State)

@[simp] theorem mapClock_get_pending (f : Clock → Clock) : (mapClock f s).pending = s.pending := rfl
@[simp] theorem mapClock_get_resetHeld (f : Clock → Clock) : (mapClock f s).resetHeld = s.resetHeld := rfl
@[simp] theorem mapClock_get_startStep (f : Clock → Clock) : (mapClock f s).startStep = s.startStep := rfl
@[simp] theorem mapClock_get_uptime (f : Clock → Clock) : (mapClock f s).uptime = s.uptime := rfl
@[simp] theorem mapClock_get_clock (f : Clock → Clock) : (mapClock f s).clock = f s.clock := rfl
@[simp] theorem mapClock_get_freeCount (f : Clock → Clock) : (mapClock f s).freeCount = s.freeCount := rfl
@[simp] theorem mapClock_get_lines (f : Clock → Clock) : (mapClock f s).lines = s.lines := rfl
@[simp] theorem mapClock_get_settings (f : Clock → Clock) : (mapClock f s).settings = s.settings := rfl
@[simp] theorem mapClock_get_store (f : Clock → Clock) : (mapClock f s).store = s.store := rfl
@[simp] theorem mapClock_get_perf (f : Clock → Clock) : (mapClock f s).perf = s.perf := rfl
@[simp] theorem mapClock_get_scanner (f : Clock → Clock) : (mapClock f s).scanner = s.scanner := rfl
@[simp] theorem mapClock_get_alarm (f : Clock → Clock) : (mapClock f s).alarm = s.alarm := rfl
@[simp] theorem mapClock_get_curtain (f : Clock → Clock) : (mapClock f s).curtain = s.curtain := rfl
@[simp] theorem mapClock_get_light (f : Clock → Clock) : (mapClock f s).light = s.light := rfl
@[simp] theorem mapClock_get_calls (f : Clock → Clock) : (mapClock f s).calls = s.calls := rfl
@[simp] theorem mapClock_get_sup (f : Clock → Clock) : (mapClock f s).sup = s.sup := rfl
@[simp] theorem mapClock_get_loop (f : Clock → Clock) : (mapClock f s).loop = s.loop := rfl
@[simp] theorem mapClock_get_ports (f : Clock → Clock) : (mapClock f s).ports = s.ports := rfl

@[simp] theorem bring_get_pending (p : Port) (tag : Tag) (k : RequestKind) : (s.bring p tag k).pending = s.pending := rfl
@[simp] theorem bring_get_resetHeld (p : Port) (tag : Tag) (k : RequestKind) : (s.bring p tag k).resetHeld = s.resetHeld := rfl
@[simp] theorem bring_get_startStep (p : Port) (tag : Tag) (k : RequestKind) : (s.bring p tag k).startStep = s.startStep := rfl
@[simp] theorem bring_get_uptime (p : Port) (tag : Tag) (k : RequestKind) : (s.bring p tag k).uptime = s.uptime := rfl
@[simp] theorem bring_get_clock (p : Port) (tag : Tag) (k : RequestKind) : (s.bring p tag k).clock = s.clock := rfl
@[simp] theorem bring_get_freeCount (p : Port) (tag : Tag) (k : RequestKind) : (s.bring p tag k).freeCount = s.freeCount := rfl
@[simp] theorem bring_get_lines (p : Port) (tag : Tag) (k : RequestKind) : (s.bring p tag k).lines = s.lines := rfl
@[simp] theorem bring_get_settings (p : Port) (tag : Tag) (k : RequestKind) : (s.bring p tag k).settings = s.settings := rfl
@[simp] theorem bring_get_store (p : Port) (tag : Tag) (k : RequestKind) : (s.bring p tag k).store = s.store := rfl
@[simp] theorem bring_get_perf (p : Port) (tag : Tag) (k : RequestKind) : (s.bring p tag k).perf = s.perf := rfl
@[simp] theorem bring_get_scanner (p : Port) (tag : Tag) (k : RequestKind) : (s.bring p tag k).scanner = s.scanner := rfl
@[simp] theorem bring_get_alarm (p : Port) (tag : Tag) (k : RequestKind) : (s.bring p tag k).alarm = s.alarm := rfl
@[simp] theorem bring_get_curtain (p : Port) (tag : Tag) (k : RequestKind) : (s.bring p tag k).curtain = s.curtain := rfl
@[simp] theorem bring_get_light (p : Port) (tag : Tag) (k : RequestKind) : (s.bring p tag k).light = s.light := rfl
@[simp] theorem bring_get_calls (p : Port) (tag : Tag) (k : RequestKind) : (s.bring p tag k).calls = s.calls := rfl
@[simp] theorem bring_get_sup (p : Port) (tag : Tag) (k : RequestKind) : (s.bring p tag k).sup = s.sup := rfl
@[simp] theorem bring_get_loop (p : Port) (tag : Tag) (k : RequestKind) : (s.bring p tag k).loop = s.loop := rfl
@[simp] theorem bring_get_ports (p : Port) (tag : Tag) (k : RequestKind) : (s.bring p tag k).ports = s.ports.put p (PortUnit.bring s.settings.ports.frontFitted p tag k (s.port p)) := rfl

@[simp] theorem mapLines_get_pending (f : Lines → Lines) : (mapLines f s).pending = s.pending := rfl
@[simp] theorem mapLines_get_resetHeld (f : Lines → Lines) : (mapLines f s).resetHeld = s.resetHeld := rfl
@[simp] theorem mapLines_get_startStep (f : Lines → Lines) : (mapLines f s).startStep = s.startStep := rfl
@[simp] theorem mapLines_get_uptime (f : Lines → Lines) : (mapLines f s).uptime = s.uptime := rfl
@[simp] theorem mapLines_get_clock (f : Lines → Lines) : (mapLines f s).clock = s.clock := rfl
@[simp] theorem mapLines_get_freeCount (f : Lines → Lines) : (mapLines f s).freeCount = s.freeCount := rfl
@[simp] theorem mapLines_get_lines (f : Lines → Lines) : (mapLines f s).lines = f s.lines := rfl
@[simp] theorem mapLines_get_settings (f : Lines → Lines) : (mapLines f s).settings = s.settings := rfl
@[simp] theorem mapLines_get_store (f : Lines → Lines) : (mapLines f s).store = s.store := rfl
@[simp] theorem mapLines_get_perf (f : Lines → Lines) : (mapLines f s).perf = s.perf := rfl
@[simp] theorem mapLines_get_scanner (f : Lines → Lines) : (mapLines f s).scanner = s.scanner := rfl
@[simp] theorem mapLines_get_alarm (f : Lines → Lines) : (mapLines f s).alarm = s.alarm := rfl
@[simp] theorem mapLines_get_curtain (f : Lines → Lines) : (mapLines f s).curtain = s.curtain := rfl
@[simp] theorem mapLines_get_light (f : Lines → Lines) : (mapLines f s).light = s.light := rfl
@[simp] theorem mapLines_get_calls (f : Lines → Lines) : (mapLines f s).calls = s.calls := rfl
@[simp] theorem mapLines_get_sup (f : Lines → Lines) : (mapLines f s).sup = s.sup := rfl
@[simp] theorem mapLines_get_loop (f : Lines → Lines) : (mapLines f s).loop = s.loop := rfl
@[simp] theorem mapLines_get_ports (f : Lines → Lines) : (mapLines f s).ports = s.ports := rfl

@[simp] theorem mapPerf_get_pending (f : PerfRecord → PerfRecord) : (mapPerf f s).pending = s.pending := rfl
@[simp] theorem mapPerf_get_resetHeld (f : PerfRecord → PerfRecord) : (mapPerf f s).resetHeld = s.resetHeld := rfl
@[simp] theorem mapPerf_get_startStep (f : PerfRecord → PerfRecord) : (mapPerf f s).startStep = s.startStep := rfl
@[simp] theorem mapPerf_get_uptime (f : PerfRecord → PerfRecord) : (mapPerf f s).uptime = s.uptime := rfl
@[simp] theorem mapPerf_get_clock (f : PerfRecord → PerfRecord) : (mapPerf f s).clock = s.clock := rfl
@[simp] theorem mapPerf_get_freeCount (f : PerfRecord → PerfRecord) : (mapPerf f s).freeCount = s.freeCount := rfl
@[simp] theorem mapPerf_get_lines (f : PerfRecord → PerfRecord) : (mapPerf f s).lines = s.lines := rfl
@[simp] theorem mapPerf_get_settings (f : PerfRecord → PerfRecord) : (mapPerf f s).settings = s.settings := rfl
@[simp] theorem mapPerf_get_store (f : PerfRecord → PerfRecord) : (mapPerf f s).store = s.store := rfl
@[simp] theorem mapPerf_get_perf (f : PerfRecord → PerfRecord) : (mapPerf f s).perf = f s.perf := rfl
@[simp] theorem mapPerf_get_scanner (f : PerfRecord → PerfRecord) : (mapPerf f s).scanner = s.scanner := rfl
@[simp] theorem mapPerf_get_alarm (f : PerfRecord → PerfRecord) : (mapPerf f s).alarm = s.alarm := rfl
@[simp] theorem mapPerf_get_curtain (f : PerfRecord → PerfRecord) : (mapPerf f s).curtain = s.curtain := rfl
@[simp] theorem mapPerf_get_light (f : PerfRecord → PerfRecord) : (mapPerf f s).light = s.light := rfl
@[simp] theorem mapPerf_get_calls (f : PerfRecord → PerfRecord) : (mapPerf f s).calls = s.calls := rfl
@[simp] theorem mapPerf_get_sup (f : PerfRecord → PerfRecord) : (mapPerf f s).sup = s.sup := rfl
@[simp] theorem mapPerf_get_loop (f : PerfRecord → PerfRecord) : (mapPerf f s).loop = s.loop := rfl
@[simp] theorem mapPerf_get_ports (f : PerfRecord → PerfRecord) : (mapPerf f s).ports = s.ports := rfl

@[simp] theorem mapScanner_get_pending (f : Scanner → Scanner) : (mapScanner f s).pending = s.pending := rfl
@[simp] theorem mapScanner_get_resetHeld (f : Scanner → Scanner) : (mapScanner f s).resetHeld = s.resetHeld := rfl
@[simp] theorem mapScanner_get_startStep (f : Scanner → Scanner) : (mapScanner f s).startStep = s.startStep := rfl
@[simp] theorem mapScanner_get_uptime (f : Scanner → Scanner) : (mapScanner f s).uptime = s.uptime := rfl
@[simp] theorem mapScanner_get_clock (f : Scanner → Scanner) : (mapScanner f s).clock = s.clock := rfl
@[simp] theorem mapScanner_get_freeCount (f : Scanner → Scanner) : (mapScanner f s).freeCount = s.freeCount := rfl
@[simp] theorem mapScanner_get_lines (f : Scanner → Scanner) : (mapScanner f s).lines = s.lines := rfl
@[simp] theorem mapScanner_get_settings (f : Scanner → Scanner) : (mapScanner f s).settings = s.settings := rfl
@[simp] theorem mapScanner_get_store (f : Scanner → Scanner) : (mapScanner f s).store = s.store := rfl
@[simp] theorem mapScanner_get_perf (f : Scanner → Scanner) : (mapScanner f s).perf = s.perf := rfl
@[simp] theorem mapScanner_get_scanner (f : Scanner → Scanner) : (mapScanner f s).scanner = f s.scanner := rfl
@[simp] theorem mapScanner_get_alarm (f : Scanner → Scanner) : (mapScanner f s).alarm = s.alarm := rfl
@[simp] theorem mapScanner_get_curtain (f : Scanner → Scanner) : (mapScanner f s).curtain = s.curtain := rfl
@[simp] theorem mapScanner_get_light (f : Scanner → Scanner) : (mapScanner f s).light = s.light := rfl
@[simp] theorem mapScanner_get_calls (f : Scanner → Scanner) : (mapScanner f s).calls = s.calls := rfl
@[simp] theorem mapScanner_get_sup (f : Scanner → Scanner) : (mapScanner f s).sup = s.sup := rfl
@[simp] theorem mapScanner_get_loop (f : Scanner → Scanner) : (mapScanner f s).loop = s.loop := rfl
@[simp] theorem mapScanner_get_ports (f : Scanner → Scanner) : (mapScanner f s).ports = s.ports := rfl

@[simp] theorem mapChannel_get_pending (n : Nat) (f : ChannelRecord → ChannelRecord) : (mapChannel n f s).pending = s.pending := rfl
@[simp] theorem mapChannel_get_resetHeld (n : Nat) (f : ChannelRecord → ChannelRecord) : (mapChannel n f s).resetHeld = s.resetHeld := rfl
@[simp] theorem mapChannel_get_startStep (n : Nat) (f : ChannelRecord → ChannelRecord) : (mapChannel n f s).startStep = s.startStep := rfl
@[simp] theorem mapChannel_get_uptime (n : Nat) (f : ChannelRecord → ChannelRecord) : (mapChannel n f s).uptime = s.uptime := rfl
@[simp] theorem mapChannel_get_clock (n : Nat) (f : ChannelRecord → ChannelRecord) : (mapChannel n f s).clock = s.clock := rfl
@[simp] theorem mapChannel_get_freeCount (n : Nat) (f : ChannelRecord → ChannelRecord) : (mapChannel n f s).freeCount = s.freeCount := rfl
@[simp] theorem mapChannel_get_lines (n : Nat) (f : ChannelRecord → ChannelRecord) : (mapChannel n f s).lines = s.lines := rfl
@[simp] theorem mapChannel_get_settings (n : Nat) (f : ChannelRecord → ChannelRecord) : (mapChannel n f s).settings = s.settings := rfl
@[simp] theorem mapChannel_get_store (n : Nat) (f : ChannelRecord → ChannelRecord) : (mapChannel n f s).store = s.store := rfl
@[simp] theorem mapChannel_get_perf (n : Nat) (f : ChannelRecord → ChannelRecord) : (mapChannel n f s).perf = s.perf := rfl
@[simp] theorem mapChannel_get_scanner (n : Nat) (f : ChannelRecord → ChannelRecord) : (mapChannel n f s).scanner = s.scanner.change n f := rfl
@[simp] theorem mapChannel_get_alarm (n : Nat) (f : ChannelRecord → ChannelRecord) : (mapChannel n f s).alarm = s.alarm := rfl
@[simp] theorem mapChannel_get_curtain (n : Nat) (f : ChannelRecord → ChannelRecord) : (mapChannel n f s).curtain = s.curtain := rfl
@[simp] theorem mapChannel_get_light (n : Nat) (f : ChannelRecord → ChannelRecord) : (mapChannel n f s).light = s.light := rfl
@[simp] theorem mapChannel_get_calls (n : Nat) (f : ChannelRecord → ChannelRecord) : (mapChannel n f s).calls = s.calls := rfl
@[simp] theorem mapChannel_get_sup (n : Nat) (f : ChannelRecord → ChannelRecord) : (mapChannel n f s).sup = s.sup := rfl
@[simp] theorem mapChannel_get_loop (n : Nat) (f : ChannelRecord → ChannelRecord) : (mapChannel n f s).loop = s.loop := rfl
@[simp] theorem mapChannel_get_ports (n : Nat) (f : ChannelRecord → ChannelRecord) : (mapChannel n f s).ports = s.ports := rfl

@[simp] theorem mapAlarm_get_pending (f : AlarmUnit → AlarmUnit) : (mapAlarm f s).pending = s.pending := rfl
@[simp] theorem mapAlarm_get_resetHeld (f : AlarmUnit → AlarmUnit) : (mapAlarm f s).resetHeld = s.resetHeld := rfl
@[simp] theorem mapAlarm_get_startStep (f : AlarmUnit → AlarmUnit) : (mapAlarm f s).startStep = s.startStep := rfl
@[simp] theorem mapAlarm_get_uptime (f : AlarmUnit → AlarmUnit) : (mapAlarm f s).uptime = s.uptime := rfl
@[simp] theorem mapAlarm_get_clock (f : AlarmUnit → AlarmUnit) : (mapAlarm f s).clock = s.clock := rfl
@[simp] theorem mapAlarm_get_freeCount (f : AlarmUnit → AlarmUnit) : (mapAlarm f s).freeCount = s.freeCount := rfl
@[simp] theorem mapAlarm_get_lines (f : AlarmUnit → AlarmUnit) : (mapAlarm f s).lines = s.lines := rfl
@[simp] theorem mapAlarm_get_settings (f : AlarmUnit → AlarmUnit) : (mapAlarm f s).settings = s.settings := rfl
@[simp] theorem mapAlarm_get_store (f : AlarmUnit → AlarmUnit) : (mapAlarm f s).store = s.store := rfl
@[simp] theorem mapAlarm_get_perf (f : AlarmUnit → AlarmUnit) : (mapAlarm f s).perf = s.perf := rfl
@[simp] theorem mapAlarm_get_scanner (f : AlarmUnit → AlarmUnit) : (mapAlarm f s).scanner = s.scanner := rfl
@[simp] theorem mapAlarm_get_alarm (f : AlarmUnit → AlarmUnit) : (mapAlarm f s).alarm = f s.alarm := rfl
@[simp] theorem mapAlarm_get_curtain (f : AlarmUnit → AlarmUnit) : (mapAlarm f s).curtain = s.curtain := rfl
@[simp] theorem mapAlarm_get_light (f : AlarmUnit → AlarmUnit) : (mapAlarm f s).light = s.light := rfl
@[simp] theorem mapAlarm_get_calls (f : AlarmUnit → AlarmUnit) : (mapAlarm f s).calls = s.calls := rfl
@[simp] theorem mapAlarm_get_sup (f : AlarmUnit → AlarmUnit) : (mapAlarm f s).sup = s.sup := rfl
@[simp] theorem mapAlarm_get_loop (f : AlarmUnit → AlarmUnit) : (mapAlarm f s).loop = s.loop := rfl
@[simp] theorem mapAlarm_get_ports (f : AlarmUnit → AlarmUnit) : (mapAlarm f s).ports = s.ports := rfl

@[simp] theorem mapCurtain_get_pending (f : Curtain → Curtain) : (mapCurtain f s).pending = s.pending := rfl
@[simp] theorem mapCurtain_get_resetHeld (f : Curtain → Curtain) : (mapCurtain f s).resetHeld = s.resetHeld := rfl
@[simp] theorem mapCurtain_get_startStep (f : Curtain → Curtain) : (mapCurtain f s).startStep = s.startStep := rfl
@[simp] theorem mapCurtain_get_uptime (f : Curtain → Curtain) : (mapCurtain f s).uptime = s.uptime := rfl
@[simp] theorem mapCurtain_get_clock (f : Curtain → Curtain) : (mapCurtain f s).clock = s.clock := rfl
@[simp] theorem mapCurtain_get_freeCount (f : Curtain → Curtain) : (mapCurtain f s).freeCount = s.freeCount := rfl
@[simp] theorem mapCurtain_get_lines (f : Curtain → Curtain) : (mapCurtain f s).lines = s.lines := rfl
@[simp] theorem mapCurtain_get_settings (f : Curtain → Curtain) : (mapCurtain f s).settings = s.settings := rfl
@[simp] theorem mapCurtain_get_store (f : Curtain → Curtain) : (mapCurtain f s).store = s.store := rfl
@[simp] theorem mapCurtain_get_perf (f : Curtain → Curtain) : (mapCurtain f s).perf = s.perf := rfl
@[simp] theorem mapCurtain_get_scanner (f : Curtain → Curtain) : (mapCurtain f s).scanner = s.scanner := rfl
@[simp] theorem mapCurtain_get_alarm (f : Curtain → Curtain) : (mapCurtain f s).alarm = s.alarm := rfl
@[simp] theorem mapCurtain_get_curtain (f : Curtain → Curtain) : (mapCurtain f s).curtain = f s.curtain := rfl
@[simp] theorem mapCurtain_get_light (f : Curtain → Curtain) : (mapCurtain f s).light = s.light := rfl
@[simp] theorem mapCurtain_get_calls (f : Curtain → Curtain) : (mapCurtain f s).calls = s.calls := rfl
@[simp] theorem mapCurtain_get_sup (f : Curtain → Curtain) : (mapCurtain f s).sup = s.sup := rfl
@[simp] theorem mapCurtain_get_loop (f : Curtain → Curtain) : (mapCurtain f s).loop = s.loop := rfl
@[simp] theorem mapCurtain_get_ports (f : Curtain → Curtain) : (mapCurtain f s).ports = s.ports := rfl

@[simp] theorem mapCalls_get_pending (f : Calls → Calls) : (mapCalls f s).pending = s.pending := rfl
@[simp] theorem mapCalls_get_resetHeld (f : Calls → Calls) : (mapCalls f s).resetHeld = s.resetHeld := rfl
@[simp] theorem mapCalls_get_startStep (f : Calls → Calls) : (mapCalls f s).startStep = s.startStep := rfl
@[simp] theorem mapCalls_get_uptime (f : Calls → Calls) : (mapCalls f s).uptime = s.uptime := rfl
@[simp] theorem mapCalls_get_clock (f : Calls → Calls) : (mapCalls f s).clock = s.clock := rfl
@[simp] theorem mapCalls_get_freeCount (f : Calls → Calls) : (mapCalls f s).freeCount = s.freeCount := rfl
@[simp] theorem mapCalls_get_lines (f : Calls → Calls) : (mapCalls f s).lines = s.lines := rfl
@[simp] theorem mapCalls_get_settings (f : Calls → Calls) : (mapCalls f s).settings = s.settings := rfl
@[simp] theorem mapCalls_get_store (f : Calls → Calls) : (mapCalls f s).store = s.store := rfl
@[simp] theorem mapCalls_get_perf (f : Calls → Calls) : (mapCalls f s).perf = s.perf := rfl
@[simp] theorem mapCalls_get_scanner (f : Calls → Calls) : (mapCalls f s).scanner = s.scanner := rfl
@[simp] theorem mapCalls_get_alarm (f : Calls → Calls) : (mapCalls f s).alarm = s.alarm := rfl
@[simp] theorem mapCalls_get_curtain (f : Calls → Calls) : (mapCalls f s).curtain = s.curtain := rfl
@[simp] theorem mapCalls_get_light (f : Calls → Calls) : (mapCalls f s).light = s.light := rfl
@[simp] theorem mapCalls_get_calls (f : Calls → Calls) : (mapCalls f s).calls = f s.calls := rfl
@[simp] theorem mapCalls_get_sup (f : Calls → Calls) : (mapCalls f s).sup = s.sup := rfl
@[simp] theorem mapCalls_get_loop (f : Calls → Calls) : (mapCalls f s).loop = s.loop := rfl
@[simp] theorem mapCalls_get_ports (f : Calls → Calls) : (mapCalls f s).ports = s.ports := rfl

@[simp] theorem mapLoop_get_pending (f : Loop → Loop) : (mapLoop f s).pending = s.pending := rfl
@[simp] theorem mapLoop_get_resetHeld (f : Loop → Loop) : (mapLoop f s).resetHeld = s.resetHeld := rfl
@[simp] theorem mapLoop_get_startStep (f : Loop → Loop) : (mapLoop f s).startStep = s.startStep := rfl
@[simp] theorem mapLoop_get_uptime (f : Loop → Loop) : (mapLoop f s).uptime = s.uptime := rfl
@[simp] theorem mapLoop_get_clock (f : Loop → Loop) : (mapLoop f s).clock = s.clock := rfl
@[simp] theorem mapLoop_get_freeCount (f : Loop → Loop) : (mapLoop f s).freeCount = s.freeCount := rfl
@[simp] theorem mapLoop_get_lines (f : Loop → Loop) : (mapLoop f s).lines = s.lines := rfl
@[simp] theorem mapLoop_get_settings (f : Loop → Loop) : (mapLoop f s).settings = s.settings := rfl
@[simp] theorem mapLoop_get_store (f : Loop → Loop) : (mapLoop f s).store = s.store := rfl
@[simp] theorem mapLoop_get_perf (f : Loop → Loop) : (mapLoop f s).perf = s.perf := rfl
@[simp] theorem mapLoop_get_scanner (f : Loop → Loop) : (mapLoop f s).scanner = s.scanner := rfl
@[simp] theorem mapLoop_get_alarm (f : Loop → Loop) : (mapLoop f s).alarm = s.alarm := rfl
@[simp] theorem mapLoop_get_curtain (f : Loop → Loop) : (mapLoop f s).curtain = s.curtain := rfl
@[simp] theorem mapLoop_get_light (f : Loop → Loop) : (mapLoop f s).light = s.light := rfl
@[simp] theorem mapLoop_get_calls (f : Loop → Loop) : (mapLoop f s).calls = s.calls := rfl
@[simp] theorem mapLoop_get_sup (f : Loop → Loop) : (mapLoop f s).sup = s.sup := rfl
@[simp] theorem mapLoop_get_loop (f : Loop → Loop) : (mapLoop f s).loop = f s.loop := rfl
@[simp] theorem mapLoop_get_ports (f : Loop → Loop) : (mapLoop f s).ports = s.ports := rfl

@[simp] theorem mapRow_get_pending (a : Nat) (f : UnitRow → UnitRow) : (mapRow a f s).pending = s.pending := rfl
@[simp] theorem mapRow_get_resetHeld (a : Nat) (f : UnitRow → UnitRow) : (mapRow a f s).resetHeld = s.resetHeld := rfl
@[simp] theorem mapRow_get_startStep (a : Nat) (f : UnitRow → UnitRow) : (mapRow a f s).startStep = s.startStep := rfl
@[simp] theorem mapRow_get_uptime (a : Nat) (f : UnitRow → UnitRow) : (mapRow a f s).uptime = s.uptime := rfl
@[simp] theorem mapRow_get_clock (a : Nat) (f : UnitRow → UnitRow) : (mapRow a f s).clock = s.clock := rfl
@[simp] theorem mapRow_get_freeCount (a : Nat) (f : UnitRow → UnitRow) : (mapRow a f s).freeCount = s.freeCount := rfl
@[simp] theorem mapRow_get_lines (a : Nat) (f : UnitRow → UnitRow) : (mapRow a f s).lines = s.lines := rfl
@[simp] theorem mapRow_get_settings (a : Nat) (f : UnitRow → UnitRow) : (mapRow a f s).settings = s.settings := rfl
@[simp] theorem mapRow_get_store (a : Nat) (f : UnitRow → UnitRow) : (mapRow a f s).store = s.store := rfl
@[simp] theorem mapRow_get_perf (a : Nat) (f : UnitRow → UnitRow) : (mapRow a f s).perf = s.perf := rfl
@[simp] theorem mapRow_get_scanner (a : Nat) (f : UnitRow → UnitRow) : (mapRow a f s).scanner = s.scanner := rfl
@[simp] theorem mapRow_get_alarm (a : Nat) (f : UnitRow → UnitRow) : (mapRow a f s).alarm = s.alarm := rfl
@[simp] theorem mapRow_get_curtain (a : Nat) (f : UnitRow → UnitRow) : (mapRow a f s).curtain = s.curtain := rfl
@[simp] theorem mapRow_get_light (a : Nat) (f : UnitRow → UnitRow) : (mapRow a f s).light = s.light := rfl
@[simp] theorem mapRow_get_calls (a : Nat) (f : UnitRow → UnitRow) : (mapRow a f s).calls = s.calls := rfl
@[simp] theorem mapRow_get_sup (a : Nat) (f : UnitRow → UnitRow) : (mapRow a f s).sup = s.sup := rfl
@[simp] theorem mapRow_get_loop (a : Nat) (f : UnitRow → UnitRow) : (mapRow a f s).loop = s.loop.change a f := rfl
@[simp] theorem mapRow_get_ports (a : Nat) (f : UnitRow → UnitRow) : (mapRow a f s).ports = s.ports := rfl

@[simp] theorem setSup_get_pending (u : Supervision) : (setSup u s).pending = s.pending := rfl
@[simp] theorem setSup_get_resetHeld (u : Supervision) : (setSup u s).resetHeld = s.resetHeld := rfl
@[simp] theorem setSup_get_startStep (u : Supervision) : (setSup u s).startStep = s.startStep := rfl
@[simp] theorem setSup_get_uptime (u : Supervision) : (setSup u s).uptime = s.uptime := rfl
@[simp] theorem setSup_get_clock (u : Supervision) : (setSup u s).clock = s.clock := rfl
@[simp] theorem setSup_get_freeCount (u : Supervision) : (setSup u s).freeCount = s.freeCount := rfl
@[simp] theorem setSup_get_lines (u : Supervision) : (setSup u s).lines = s.lines := rfl
@[simp] theorem setSup_get_settings (u : Supervision) : (setSup u s).settings = s.settings := rfl
@[simp] theorem setSup_get_store (u : Supervision) : (setSup u s).store = s.store := rfl
@[simp] theorem setSup_get_perf (u : Supervision) : (setSup u s).perf = s.perf := rfl
@[simp] theorem setSup_get_scanner (u : Supervision) : (setSup u s).scanner = s.scanner := rfl
@[simp] theorem setSup_get_alarm (u : Supervision) : (setSup u s).alarm = s.alarm := rfl
@[simp] theorem setSup_get_curtain (u : Supervision) : (setSup u s).curtain = s.curtain := rfl
@[simp] theorem setSup_get_light (u : Supervision) : (setSup u s).light = s.light := rfl
@[simp] theorem setSup_get_calls (u : Supervision) : (setSup u s).calls = s.calls := rfl
@[simp] theorem setSup_get_sup (u : Supervision) : (setSup u s).sup = u.judge := rfl
@[simp] theorem setSup_get_loop (u : Supervision) : (setSup u s).loop = s.loop := rfl
@[simp] theorem setSup_get_ports (u : Supervision) : (setSup u s).ports = s.ports := rfl

@[simp] theorem spend_get_pending : (spend s).pending = s.pending := rfl
@[simp] theorem spend_get_resetHeld : (spend s).resetHeld = s.resetHeld := rfl
@[simp] theorem spend_get_startStep : (spend s).startStep = s.startStep := rfl
@[simp] theorem spend_get_uptime : (spend s).uptime = s.uptime := rfl
@[simp] theorem spend_get_clock : (spend s).clock = s.clock := rfl
@[simp] theorem spend_get_freeCount : (spend s).freeCount = s.freeCount + 1 := rfl
@[simp] theorem spend_get_lines : (spend s).lines = s.lines := rfl
@[simp] theorem spend_get_settings : (spend s).settings = s.settings := rfl
@[simp] theorem spend_get_store : (spend s).store = s.store := rfl
@[simp] theorem spend_get_perf : (spend s).perf = s.perf := rfl
@[simp] theorem spend_get_scanner : (spend s).scanner = s.scanner := rfl
@[simp] theorem spend_get_alarm : (spend s).alarm = s.alarm := rfl
@[simp] theorem spend_get_curtain : (spend s).curtain = s.curtain := rfl
@[simp] theorem spend_get_light : (spend s).light = s.light := rfl
@[simp] theorem spend_get_calls : (spend s).calls = s.calls := rfl
@[simp] theorem spend_get_sup : (spend s).sup = s.sup := rfl
@[simp] theorem spend_get_loop : (spend s).loop = s.loop := rfl
@[simp] theorem spend_get_ports : (spend s).ports = s.ports := rfl

@[simp] theorem setOperation_get_pending (o : Option StoreOperation) : (setOperation o s).pending = s.pending := rfl
@[simp] theorem setOperation_get_resetHeld (o : Option StoreOperation) : (setOperation o s).resetHeld = s.resetHeld := rfl
@[simp] theorem setOperation_get_startStep (o : Option StoreOperation) : (setOperation o s).startStep = s.startStep := rfl
@[simp] theorem setOperation_get_uptime (o : Option StoreOperation) : (setOperation o s).uptime = s.uptime := rfl
@[simp] theorem setOperation_get_clock (o : Option StoreOperation) : (setOperation o s).clock = s.clock := rfl
@[simp] theorem setOperation_get_freeCount (o : Option StoreOperation) : (setOperation o s).freeCount = s.freeCount := rfl
@[simp] theorem setOperation_get_lines (o : Option StoreOperation) : (setOperation o s).lines = s.lines := rfl
@[simp] theorem setOperation_get_settings (o : Option StoreOperation) : (setOperation o s).settings = s.settings := rfl
@[simp] theorem setOperation_get_store (o : Option StoreOperation) : (setOperation o s).store = { s.store with operation := o } := rfl
@[simp] theorem setOperation_get_perf (o : Option StoreOperation) : (setOperation o s).perf = s.perf := rfl
@[simp] theorem setOperation_get_scanner (o : Option StoreOperation) : (setOperation o s).scanner = s.scanner := rfl
@[simp] theorem setOperation_get_alarm (o : Option StoreOperation) : (setOperation o s).alarm = s.alarm := rfl
@[simp] theorem setOperation_get_curtain (o : Option StoreOperation) : (setOperation o s).curtain = s.curtain := rfl
@[simp] theorem setOperation_get_light (o : Option StoreOperation) : (setOperation o s).light = s.light := rfl
@[simp] theorem setOperation_get_calls (o : Option StoreOperation) : (setOperation o s).calls = s.calls := rfl
@[simp] theorem setOperation_get_sup (o : Option StoreOperation) : (setOperation o s).sup = s.sup := rfl
@[simp] theorem setOperation_get_loop (o : Option StoreOperation) : (setOperation o s).loop = s.loop := rfl
@[simp] theorem setOperation_get_ports (o : Option StoreOperation) : (setOperation o s).ports = s.ports := rfl

@[simp] theorem mapStoreRow_get_pending (n : SectionName) (f : StoreRow → StoreRow) : (mapStoreRow n f s).pending = s.pending := rfl
@[simp] theorem mapStoreRow_get_resetHeld (n : SectionName) (f : StoreRow → StoreRow) : (mapStoreRow n f s).resetHeld = s.resetHeld := rfl
@[simp] theorem mapStoreRow_get_startStep (n : SectionName) (f : StoreRow → StoreRow) : (mapStoreRow n f s).startStep = s.startStep := rfl
@[simp] theorem mapStoreRow_get_uptime (n : SectionName) (f : StoreRow → StoreRow) : (mapStoreRow n f s).uptime = s.uptime := rfl
@[simp] theorem mapStoreRow_get_clock (n : SectionName) (f : StoreRow → StoreRow) : (mapStoreRow n f s).clock = s.clock := rfl
@[simp] theorem mapStoreRow_get_freeCount (n : SectionName) (f : StoreRow → StoreRow) : (mapStoreRow n f s).freeCount = s.freeCount := rfl
@[simp] theorem mapStoreRow_get_lines (n : SectionName) (f : StoreRow → StoreRow) : (mapStoreRow n f s).lines = s.lines := rfl
@[simp] theorem mapStoreRow_get_settings (n : SectionName) (f : StoreRow → StoreRow) : (mapStoreRow n f s).settings = s.settings := rfl
@[simp] theorem mapStoreRow_get_store (n : SectionName) (f : StoreRow → StoreRow) : (mapStoreRow n f s).store = { s.store with rows := s.store.rows.map (fun r => if r.name = n then f r else r) } := rfl
@[simp] theorem mapStoreRow_get_perf (n : SectionName) (f : StoreRow → StoreRow) : (mapStoreRow n f s).perf = s.perf := rfl
@[simp] theorem mapStoreRow_get_scanner (n : SectionName) (f : StoreRow → StoreRow) : (mapStoreRow n f s).scanner = s.scanner := rfl
@[simp] theorem mapStoreRow_get_alarm (n : SectionName) (f : StoreRow → StoreRow) : (mapStoreRow n f s).alarm = s.alarm := rfl
@[simp] theorem mapStoreRow_get_curtain (n : SectionName) (f : StoreRow → StoreRow) : (mapStoreRow n f s).curtain = s.curtain := rfl
@[simp] theorem mapStoreRow_get_light (n : SectionName) (f : StoreRow → StoreRow) : (mapStoreRow n f s).light = s.light := rfl
@[simp] theorem mapStoreRow_get_calls (n : SectionName) (f : StoreRow → StoreRow) : (mapStoreRow n f s).calls = s.calls := rfl
@[simp] theorem mapStoreRow_get_sup (n : SectionName) (f : StoreRow → StoreRow) : (mapStoreRow n f s).sup = s.sup := rfl
@[simp] theorem mapStoreRow_get_loop (n : SectionName) (f : StoreRow → StoreRow) : (mapStoreRow n f s).loop = s.loop := rfl
@[simp] theorem mapStoreRow_get_ports (n : SectionName) (f : StoreRow → StoreRow) : (mapStoreRow n f s).ports = s.ports := rfl

@[simp] theorem markChanged_get_pending (n : SectionName) : (markChanged n s).pending = s.pending := rfl
@[simp] theorem markChanged_get_resetHeld (n : SectionName) : (markChanged n s).resetHeld = s.resetHeld := rfl
@[simp] theorem markChanged_get_startStep (n : SectionName) : (markChanged n s).startStep = s.startStep := rfl
@[simp] theorem markChanged_get_uptime (n : SectionName) : (markChanged n s).uptime = s.uptime := rfl
@[simp] theorem markChanged_get_clock (n : SectionName) : (markChanged n s).clock = s.clock := rfl
@[simp] theorem markChanged_get_freeCount (n : SectionName) : (markChanged n s).freeCount = s.freeCount := rfl
@[simp] theorem markChanged_get_lines (n : SectionName) : (markChanged n s).lines = s.lines := rfl
@[simp] theorem markChanged_get_settings (n : SectionName) : (markChanged n s).settings = s.settings := rfl
@[simp] theorem markChanged_get_store (n : SectionName) : (markChanged n s).store = { s.store with rows := s.store.rows.map (fun r => if r.name = n then { r with changed := true } else r) } := rfl
@[simp] theorem markChanged_get_perf (n : SectionName) : (markChanged n s).perf = s.perf := rfl
@[simp] theorem markChanged_get_scanner (n : SectionName) : (markChanged n s).scanner = s.scanner := rfl
@[simp] theorem markChanged_get_alarm (n : SectionName) : (markChanged n s).alarm = s.alarm := rfl
@[simp] theorem markChanged_get_curtain (n : SectionName) : (markChanged n s).curtain = s.curtain := rfl
@[simp] theorem markChanged_get_light (n : SectionName) : (markChanged n s).light = s.light := rfl
@[simp] theorem markChanged_get_calls (n : SectionName) : (markChanged n s).calls = s.calls := rfl
@[simp] theorem markChanged_get_sup (n : SectionName) : (markChanged n s).sup = s.sup := rfl
@[simp] theorem markChanged_get_loop (n : SectionName) : (markChanged n s).loop = s.loop := rfl
@[simp] theorem markChanged_get_ports (n : SectionName) : (markChanged n s).ports = s.ports := rfl

@[simp] theorem withPending_get_pending (q : List Instr) : (s.withPending q).pending = q := rfl
@[simp] theorem withPending_get_resetHeld (q : List Instr) : (s.withPending q).resetHeld = s.resetHeld := rfl
@[simp] theorem withPending_get_startStep (q : List Instr) : (s.withPending q).startStep = s.startStep := rfl
@[simp] theorem withPending_get_uptime (q : List Instr) : (s.withPending q).uptime = s.uptime := rfl
@[simp] theorem withPending_get_clock (q : List Instr) : (s.withPending q).clock = s.clock := rfl
@[simp] theorem withPending_get_freeCount (q : List Instr) : (s.withPending q).freeCount = s.freeCount := rfl
@[simp] theorem withPending_get_lines (q : List Instr) : (s.withPending q).lines = s.lines := rfl
@[simp] theorem withPending_get_settings (q : List Instr) : (s.withPending q).settings = s.settings := rfl
@[simp] theorem withPending_get_store (q : List Instr) : (s.withPending q).store = s.store := rfl
@[simp] theorem withPending_get_perf (q : List Instr) : (s.withPending q).perf = s.perf := rfl
@[simp] theorem withPending_get_scanner (q : List Instr) : (s.withPending q).scanner = s.scanner := rfl
@[simp] theorem withPending_get_alarm (q : List Instr) : (s.withPending q).alarm = s.alarm := rfl
@[simp] theorem withPending_get_curtain (q : List Instr) : (s.withPending q).curtain = s.curtain := rfl
@[simp] theorem withPending_get_light (q : List Instr) : (s.withPending q).light = s.light := rfl
@[simp] theorem withPending_get_calls (q : List Instr) : (s.withPending q).calls = s.calls := rfl
@[simp] theorem withPending_get_sup (q : List Instr) : (s.withPending q).sup = s.sup := rfl
@[simp] theorem withPending_get_loop (q : List Instr) : (s.withPending q).loop = s.loop := rfl
@[simp] theorem withPending_get_ports (q : List Instr) : (s.withPending q).ports = s.ports := rfl

@[simp] theorem mapPort_get_pending (p : Port) (f : PortUnit → PortUnit) : (s.mapPort p f).pending = s.pending := rfl
@[simp] theorem mapPort_get_resetHeld (p : Port) (f : PortUnit → PortUnit) : (s.mapPort p f).resetHeld = s.resetHeld := rfl
@[simp] theorem mapPort_get_startStep (p : Port) (f : PortUnit → PortUnit) : (s.mapPort p f).startStep = s.startStep := rfl
@[simp] theorem mapPort_get_uptime (p : Port) (f : PortUnit → PortUnit) : (s.mapPort p f).uptime = s.uptime := rfl
@[simp] theorem mapPort_get_clock (p : Port) (f : PortUnit → PortUnit) : (s.mapPort p f).clock = s.clock := rfl
@[simp] theorem mapPort_get_freeCount (p : Port) (f : PortUnit → PortUnit) : (s.mapPort p f).freeCount = s.freeCount := rfl
@[simp] theorem mapPort_get_lines (p : Port) (f : PortUnit → PortUnit) : (s.mapPort p f).lines = s.lines := rfl
@[simp] theorem mapPort_get_settings (p : Port) (f : PortUnit → PortUnit) : (s.mapPort p f).settings = s.settings := rfl
@[simp] theorem mapPort_get_store (p : Port) (f : PortUnit → PortUnit) : (s.mapPort p f).store = s.store := rfl
@[simp] theorem mapPort_get_perf (p : Port) (f : PortUnit → PortUnit) : (s.mapPort p f).perf = s.perf := rfl
@[simp] theorem mapPort_get_scanner (p : Port) (f : PortUnit → PortUnit) : (s.mapPort p f).scanner = s.scanner := rfl
@[simp] theorem mapPort_get_alarm (p : Port) (f : PortUnit → PortUnit) : (s.mapPort p f).alarm = s.alarm := rfl
@[simp] theorem mapPort_get_curtain (p : Port) (f : PortUnit → PortUnit) : (s.mapPort p f).curtain = s.curtain := rfl
@[simp] theorem mapPort_get_light (p : Port) (f : PortUnit → PortUnit) : (s.mapPort p f).light = s.light := rfl
@[simp] theorem mapPort_get_calls (p : Port) (f : PortUnit → PortUnit) : (s.mapPort p f).calls = s.calls := rfl
@[simp] theorem mapPort_get_sup (p : Port) (f : PortUnit → PortUnit) : (s.mapPort p f).sup = s.sup := rfl
@[simp] theorem mapPort_get_loop (p : Port) (f : PortUnit → PortUnit) : (s.mapPort p f).loop = s.loop := rfl
@[simp] theorem mapPort_get_ports (p : Port) (f : PortUnit → PortUnit) : (s.mapPort p f).ports = s.ports.put p (f (s.port p)) := rfl

@[simp] theorem reply_get_pending (p : Port) (tag : Tag) (o : ReplyOutcome) : (reply p tag o s).pending = s.pending := rfl
@[simp] theorem reply_get_resetHeld (p : Port) (tag : Tag) (o : ReplyOutcome) : (reply p tag o s).resetHeld = s.resetHeld := rfl
@[simp] theorem reply_get_startStep (p : Port) (tag : Tag) (o : ReplyOutcome) : (reply p tag o s).startStep = s.startStep := rfl
@[simp] theorem reply_get_uptime (p : Port) (tag : Tag) (o : ReplyOutcome) : (reply p tag o s).uptime = s.uptime := rfl
@[simp] theorem reply_get_clock (p : Port) (tag : Tag) (o : ReplyOutcome) : (reply p tag o s).clock = s.clock := rfl
@[simp] theorem reply_get_freeCount (p : Port) (tag : Tag) (o : ReplyOutcome) : (reply p tag o s).freeCount = s.freeCount := rfl
@[simp] theorem reply_get_lines (p : Port) (tag : Tag) (o : ReplyOutcome) : (reply p tag o s).lines = s.lines := rfl
@[simp] theorem reply_get_settings (p : Port) (tag : Tag) (o : ReplyOutcome) : (reply p tag o s).settings = s.settings := rfl
@[simp] theorem reply_get_store (p : Port) (tag : Tag) (o : ReplyOutcome) : (reply p tag o s).store = s.store := rfl
@[simp] theorem reply_get_perf (p : Port) (tag : Tag) (o : ReplyOutcome) : (reply p tag o s).perf = s.perf := rfl
@[simp] theorem reply_get_scanner (p : Port) (tag : Tag) (o : ReplyOutcome) : (reply p tag o s).scanner = s.scanner := rfl
@[simp] theorem reply_get_alarm (p : Port) (tag : Tag) (o : ReplyOutcome) : (reply p tag o s).alarm = s.alarm := rfl
@[simp] theorem reply_get_curtain (p : Port) (tag : Tag) (o : ReplyOutcome) : (reply p tag o s).curtain = s.curtain := rfl
@[simp] theorem reply_get_light (p : Port) (tag : Tag) (o : ReplyOutcome) : (reply p tag o s).light = s.light := rfl
@[simp] theorem reply_get_calls (p : Port) (tag : Tag) (o : ReplyOutcome) : (reply p tag o s).calls = s.calls := rfl
@[simp] theorem reply_get_sup (p : Port) (tag : Tag) (o : ReplyOutcome) : (reply p tag o s).sup = s.sup := rfl
@[simp] theorem reply_get_loop (p : Port) (tag : Tag) (o : ReplyOutcome) : (reply p tag o s).loop = s.loop := rfl
@[simp] theorem reply_get_ports (p : Port) (tag : Tag) (o : ReplyOutcome) : (reply p tag o s).ports = s.ports.put p (PortUnit.placeReply tag o (s.port p)) := rfl

@[simp] theorem transmit_get_pending : (transmit s).pending = s.pending := rfl
@[simp] theorem transmit_get_resetHeld : (transmit s).resetHeld = s.resetHeld := rfl
@[simp] theorem transmit_get_startStep : (transmit s).startStep = s.startStep := rfl
@[simp] theorem transmit_get_uptime : (transmit s).uptime = s.uptime := rfl
@[simp] theorem transmit_get_clock : (transmit s).clock = s.clock := rfl
@[simp] theorem transmit_get_freeCount : (transmit s).freeCount = s.freeCount := rfl
@[simp] theorem transmit_get_lines : (transmit s).lines = s.lines := rfl
@[simp] theorem transmit_get_settings : (transmit s).settings = s.settings := rfl
@[simp] theorem transmit_get_store : (transmit s).store = s.store := rfl
@[simp] theorem transmit_get_perf : (transmit s).perf = s.perf := rfl
@[simp] theorem transmit_get_scanner : (transmit s).scanner = s.scanner := rfl
@[simp] theorem transmit_get_alarm : (transmit s).alarm = s.alarm := rfl
@[simp] theorem transmit_get_curtain : (transmit s).curtain = s.curtain := rfl
@[simp] theorem transmit_get_light : (transmit s).light = s.light := rfl
@[simp] theorem transmit_get_calls : (transmit s).calls = s.calls := rfl
@[simp] theorem transmit_get_sup : (transmit s).sup = s.sup := rfl
@[simp] theorem transmit_get_loop : (transmit s).loop = s.loop := rfl
@[simp] theorem transmit_get_ports : (transmit s).ports = ⟨s.ports.stage.transmit, s.ports.front.transmit⟩ := rfl

/-- The Light Engine's operations reach the loop and the lamps alone. -/
theorem onField_eq (f : Field → Field) : ∃ l u, onField f s = { s with light := l, loop := u } := ⟨_, _, rfl⟩

@[simp] theorem onField_get_pending (f : Field → Field) : (onField f s).pending = s.pending := rfl
@[simp] theorem onField_get_resetHeld (f : Field → Field) : (onField f s).resetHeld = s.resetHeld := rfl
@[simp] theorem onField_get_startStep (f : Field → Field) : (onField f s).startStep = s.startStep := rfl
@[simp] theorem onField_get_uptime (f : Field → Field) : (onField f s).uptime = s.uptime := rfl
@[simp] theorem onField_get_clock (f : Field → Field) : (onField f s).clock = s.clock := rfl
@[simp] theorem onField_get_freeCount (f : Field → Field) : (onField f s).freeCount = s.freeCount := rfl
@[simp] theorem onField_get_lines (f : Field → Field) : (onField f s).lines = s.lines := rfl
@[simp] theorem onField_get_settings (f : Field → Field) : (onField f s).settings = s.settings := rfl
@[simp] theorem onField_get_store (f : Field → Field) : (onField f s).store = s.store := rfl
@[simp] theorem onField_get_perf (f : Field → Field) : (onField f s).perf = s.perf := rfl
@[simp] theorem onField_get_scanner (f : Field → Field) : (onField f s).scanner = s.scanner := rfl
@[simp] theorem onField_get_alarm (f : Field → Field) : (onField f s).alarm = s.alarm := rfl
@[simp] theorem onField_get_curtain (f : Field → Field) : (onField f s).curtain = s.curtain := rfl
@[simp] theorem onField_get_calls (f : Field → Field) : (onField f s).calls = s.calls := rfl
@[simp] theorem onField_get_sup (f : Field → Field) : (onField f s).sup = s.sup := rfl
@[simp] theorem onField_get_ports (f : Field → Field) : (onField f s).ports = s.ports := rfl

/-- A notice reaches the two Port Units alone. -/
theorem placeOn_eq (p : Port) (f : Family) (n : Notice) : ∃ q, placeOn p f n s = { s with ports := q } := by
  unfold placeOn placeAlways
  split
  · split
    · exact ⟨_, rfl⟩
    · exact ⟨s.ports, rfl⟩
  · exact ⟨s.ports, rfl⟩

theorem notify_eq (f : Family) (n : Notice) : ∃ q, notify f n s = { s with ports := q } := by
  obtain ⟨q, hq⟩ := placeOn_eq s .stage f n
  obtain ⟨r, hr⟩ := placeOn_eq { s with ports := q } .front f n
  exact ⟨r, by unfold notify; rw [hq, hr]⟩

@[simp] theorem notify_get_pending (f : Family) (n : Notice) : (notify f n s).pending = s.pending := by
  obtain ⟨q, h⟩ := notify_eq s f n; rw [h]
@[simp] theorem notify_get_resetHeld (f : Family) (n : Notice) : (notify f n s).resetHeld = s.resetHeld := by
  obtain ⟨q, h⟩ := notify_eq s f n; rw [h]
@[simp] theorem notify_get_startStep (f : Family) (n : Notice) : (notify f n s).startStep = s.startStep := by
  obtain ⟨q, h⟩ := notify_eq s f n; rw [h]
@[simp] theorem notify_get_uptime (f : Family) (n : Notice) : (notify f n s).uptime = s.uptime := by
  obtain ⟨q, h⟩ := notify_eq s f n; rw [h]
@[simp] theorem notify_get_clock (f : Family) (n : Notice) : (notify f n s).clock = s.clock := by
  obtain ⟨q, h⟩ := notify_eq s f n; rw [h]
@[simp] theorem notify_get_freeCount (f : Family) (n : Notice) : (notify f n s).freeCount = s.freeCount := by
  obtain ⟨q, h⟩ := notify_eq s f n; rw [h]
@[simp] theorem notify_get_lines (f : Family) (n : Notice) : (notify f n s).lines = s.lines := by
  obtain ⟨q, h⟩ := notify_eq s f n; rw [h]
@[simp] theorem notify_get_settings (f : Family) (n : Notice) : (notify f n s).settings = s.settings := by
  obtain ⟨q, h⟩ := notify_eq s f n; rw [h]
@[simp] theorem notify_get_store (f : Family) (n : Notice) : (notify f n s).store = s.store := by
  obtain ⟨q, h⟩ := notify_eq s f n; rw [h]
@[simp] theorem notify_get_perf (f : Family) (n : Notice) : (notify f n s).perf = s.perf := by
  obtain ⟨q, h⟩ := notify_eq s f n; rw [h]
@[simp] theorem notify_get_scanner (f : Family) (n : Notice) : (notify f n s).scanner = s.scanner := by
  obtain ⟨q, h⟩ := notify_eq s f n; rw [h]
@[simp] theorem notify_get_alarm (f : Family) (n : Notice) : (notify f n s).alarm = s.alarm := by
  obtain ⟨q, h⟩ := notify_eq s f n; rw [h]
@[simp] theorem notify_get_curtain (f : Family) (n : Notice) : (notify f n s).curtain = s.curtain := by
  obtain ⟨q, h⟩ := notify_eq s f n; rw [h]
@[simp] theorem notify_get_light (f : Family) (n : Notice) : (notify f n s).light = s.light := by
  obtain ⟨q, h⟩ := notify_eq s f n; rw [h]
@[simp] theorem notify_get_calls (f : Family) (n : Notice) : (notify f n s).calls = s.calls := by
  obtain ⟨q, h⟩ := notify_eq s f n; rw [h]
@[simp] theorem notify_get_sup (f : Family) (n : Notice) : (notify f n s).sup = s.sup := by
  obtain ⟨q, h⟩ := notify_eq s f n; rw [h]
@[simp] theorem notify_get_loop (f : Family) (n : Notice) : (notify f n s).loop = s.loop := by
  obtain ⟨q, h⟩ := notify_eq s f n; rw [h]

end

/-- One Port Unit changed, and the other as it was. -/
@[simp] theorem mapPort_port_self (s : State) (p : Port) (f : PortUnit → PortUnit) : (s.mapPort p f).port p = f (s.port p) := by
  cases p <;> rfl

theorem mapPort_port_other (s : State) (p q : Port) (f : PortUnit → PortUnit) (h : q ≠ p) : (s.mapPort p f).port q = s.port q := by
  cases p <;> cases q <;> first | rfl | exact absurd rfl h

end Sys2Proof.Machine
end

