-- ==== Sys2Proof/Tests/Slice0.lean ====
section
/-! SUPPORT. Small tests: the well-formedness checks, states that meet the hypotheses of each statement, and one step of each shape. -/

namespace Sys2Proof.Tests

open Sys2Proof Sys2Proof.Machine

set_option maxRecDepth 20000

/-- A command's next state satisfies a test. -/
def answers (c : Instr) (s : State) (p : State → Bool) : Bool :=
  match exec c s with
  | .next t => p t
  | .fault _ => false
  | .refused _ => false

/-- A state with one request, tag 1, with its owner on a port. -/
def asking (p : Port) (k : RequestKind) (s : State) : State :=
  s.mapPort p (fun u => { u with intake := [⟨1#8, .request k, .withOwner, none⟩] })

/-- RESET_N is not asserted, no event is under way, and a test holds. -/
def stands (s : State) (q : State → Bool) : Bool := !s.resetHeld && decide (settle s = s) && q s

/-- So it is of a state with one request, tag 1, with its owner. -/
def meets (p : Port) (k : RequestKind) (s : State) (q : State → Bool) : Bool :=
  (asking p k s).owns p 1#8 k && stands (asking p k s) q

/-- A running controller with nothing to do: the curtain UP, the house DARK, no unit on the loop. -/
def quiet : State :=
  { State.reset with
    startStep := .done
    lines := { State.reset.lines with limitTop := true }
    scanner := { State.reset.scanner with scanning := true, path := some 1 }
    curtain := { Curtain.unresolved with state := .up, resolved := true, position := some 20000, hold := true }
    loop := { State.reset.loop with state := .running, transaction := none, survey := none }
    sup := .reset
    ports := ⟨.reset, .reset⟩ }

/-- `quiet` in a phase, at an uptime. -/
def during (ph : Phase) (t : Nat) : State := { quiet with uptime := t, perf := { quiet.perf with phase := ph, number := 1, act := some 1 } }

/-- `quiet` with its curtain in a state and its limits as given. -/
def withCurtain (st : CurtainState) (top bottom : Bool) : State :=
  { quiet with
    lines := { quiet.lines with limitTop := top, limitBottom := bottom }
    curtain := Curtain.setOutputs { quiet.curtain with state := st } }

/-- `quiet` with an alarm list. -/
def withEntries (l : List AlarmEntry) : State := { quiet with alarm := { quiet.alarm with entries := l } }

/-- An entry of zone 1, opened by channel 2. -/
def entry (st : AlarmStage) : AlarmEntry := ⟨1, some 2, [2], st, none, 0, none⟩

/-- `quiet` with channel 1's record changed. -/
def withChannel (f : ChannelRecord → ChannelRecord) : State :=
  { quiet with scanner := { quiet.scanner with channels := quiet.scanner.channels.map (fun c => if c.num = 1 then f c else c) } }

/-- `quiet` with a work on the loop. -/
def withLoop (f : Loop → Loop) : State := { quiet with loop := f quiet.loop }

/-- One unit's row made PRESENT, its poll due at 250. -/
def withUnit (a : Nat) (u : Loop) : Loop :=
  { u with rows := u.rows.map (fun r => if r.address = a then { r with present := true, nextPoll := some 250 } else r) }

/-- `quiet` at a time of the model's clock, with two units PRESENT whose polls are due at 250. -/
def twoDue (now : Nat) : State := { withLoop (fun u => withUnit 9 (withUnit 8 u)) with clock := ⟨now, 0, 0, 0⟩ }

/-- An order of class SHOW that sounds with serial 1. -/
def soundingOrder : Order := ⟨7, 9, .stage, .showing, .chime 1, allAreas, .times 1, .now, none, .sounding 0 1, 0, false, []⟩

/-- `quiet` with that order on the line. -/
def lineBusy : State :=
  { quiet with
    uptime := 20
    calls := { quiet.calls with queue := [soundingOrder], repetition := some ⟨[⟨9, 0, true⟩], [9], some 10⟩, reachable := [⟨9, 0, true⟩], nextId := 8 } }

/-- One request waiting in the intake of Stage. -/
def withIntake (l : List IntakeEntry) : State := { quiet with ports := { quiet.ports with stage := { quiet.ports.stage with intake := l } } }

/-- A request in the intake. -/
def held (st : IntakeStep) : IntakeEntry := ⟨5#8, .request .identify, st, none⟩

/-- A frame of Stage being sent. -/
def sendingState (q : List OutFrame) (x : Sending) : State :=
  { quiet with ports := { quiet.ports with stage := { quiet.ports.stage with queue := q, sending := some x, refusals := [4#8] } } }

/-- A fault entry of the curtain. -/
def faultEntry (st : FaultState) (acked : Bool) : FaultEntry := ⟨.curtain, .creep, .major, st, acked, 0, 1⟩

/-- `quiet` with that entry in the fault list. -/
def withFault (st : FaultState) (acked : Bool) : State :=
  { quiet with sup := ⟨[faultEntry st acked], 0, !(faultEntry st acked).troubles⟩ }

/-! ## Well-formedness: what each check refuses -/

theorem test_wf_payload : (Instr.receivedFrame .stage ⟨0#8, .request .identify, List.replicate 121 0#8, true⟩).wellFormed = false ∧
    (Instr.receivedFrame .stage ⟨0#8, .request .identify, List.replicate 120 0#8, true⟩).wellFormed = true := by decide
theorem test_wf_loop_frame : (Instr.loopReply ⟨[], .meaningless⟩).wellFormed = false ∧
    (Instr.loopReply ⟨List.replicate 38 0#8, .meaningless⟩).wellFormed = false ∧
    (Instr.loopReply ⟨List.replicate 37 0#8, .meaningless⟩).wellFormed = true := by decide
theorem test_wf_channel : (Instr.offTimeEnd 0).wellFormed = false ∧ (Instr.blankingEnd 17).wellFormed = false ∧
    (Instr.verificationWindowEnd 16).wellFormed = true := by decide
theorem test_wf_zone : (Instr.ackWindowExpiry 0).wellFormed = false ∧ (Instr.investigationWindowExpiry 13).wellFormed = false := by decide
theorem test_wf_lamp : (Instr.fadeEnd 0).wellFormed = false ∧ (Instr.fadeEnd 49).wellFormed = false := by decide
theorem test_wf_unit : (Instr.pollDue 0).wellFormed = false ∧ (Instr.pollDue 32).wellFormed = false := by decide
theorem test_no_word_spells_a_command : decodeTableWord 8 1 = none := by decide

/-! ## The step and the invariants -/

theorem test_quiet_awake : quiet.awake := by unfold State.awake State.idle; decide
theorem test_quiet_sound : quiet.sup.sound ∧ quiet.curtain.sound ∧ quiet.ports.bounded ∧ quiet.numbered := by
  unfold Supervision.sound Curtain.sound Ports.bounded PortUnit.bounded State.numbered; decide
theorem test_quiet_safe : quiet.showSafe ∧ quiet.generalSafe ∧ quiet.calm := by unfold State.showSafe State.generalSafe State.calm; decide
theorem test_during_awake : (during .prepare 5).awake ∧ (during .inShow 5).showSafe := by
  unfold State.awake State.idle State.showSafe; decide
theorem test_meets_StepRunsFrontCommand : (quiet.withPending [.uptimeAdvance, .flashClockHalf]).pending = [.uptimeAdvance, .flashClockHalf] ∧
    quiet.pending = [] ∧ quiet.resetHeld = false ∧ (assertReset quiet).pending = [] ∧ (assertReset quiet).resetHeld = true := by decide
theorem test_idle_step : (match step quiet with
    | .next t => t == { quiet with clock := ⟨1, 0, 0, 0⟩ }
    | .fault _ => false
    | .refused _ => false) = true := by decide
theorem test_step_takes_the_front : (match step (quiet.withPending [.uptimeAdvance, .flashClockHalf]) with
    | .next t => t.pending == [Instr.flashClockHalf] && t.uptime == 1
    | .fault _ => false
    | .refused _ => false) = true := by decide
theorem test_meets_RequestTakenInTurn : (quiet.bring .stage 1#8 .identify).owns .stage 1#8 .identify = true ∧
    (asking .stage .phase quiet).owns .stage 1#8 .phase = true ∧
    ((asking .stage .phase quiet).bring .stage 1#8 .identify).owns .stage 1#8 .identify = false ∧
    (Instr.identify .stage 1#8).request = some (.stage, 1#8, .identify) := by decide
theorem test_request_waits_its_turn : answers (.identify .stage 1#8) (asking .stage .phase quiet) (fun t =>
    t.ports.stage.intake.map (·.step) == [.withOwner, .waiting] && t.ports.stage.queue.isEmpty) = true := by decide
theorem test_meets_passed_on : (withIntake [held .replyQueued, held .waiting]).bring .stage 5#8 .identify =
      withIntake [held .replyQueued, held .withOwner] ∧
    (((withIntake [held .replyQueued]).bring .stage 1#8 .identify).port .stage).intake.map (·.step) = [.replyQueued, .withOwner] ∧
    ((withIntake [held .replyQueued]).bring .front 1#8 .identify).port .stage = (withIntake [held .replyQueued]).port .stage := by decide
theorem test_powerOn_from_reset : answers .powerOn State.reset (· == State.reset) = true := by decide
theorem test_meets_held : (assertReset quiet).heldSafe ∧ Instr.uptimeAdvance ≠ .powerOn ∧ Instr.uptimeAdvance ≠ .resetNReleased := by
  unfold State.heldSafe; decide
theorem test_meets_generalSafe : (withEntries [entry (.general 0)]).anyGeneral = true := by decide

/-! ## Resets and start-up -/

theorem test_meets_LostSectionIsReported : loadRow ((stopStore quiet.store).row .zones) = none := by decide
theorem test_LostSectionIsReported : answers .powerOn quiet (fun t => !t.sup.relay && t.sup.entries.any (fun e => e.source == .store .zones)) = true := by
  decide
theorem test_StartUpRebuildsEveryBlock : answers .powerOn quiet (fun t =>
    t.startStep == .survey && t.perf == PerfRecord.reset && t.loop.transaction == some (.probe 1 .survey)) = true := by decide
theorem test_meets_ResetLine : quiet.resetHeld = false ∧ (assertReset quiet).resetHeld = true ∧ (assertReset quiet).heldSafe := by
  unfold State.heldSafe; decide
theorem test_resetNReleased : answers .resetNReleased (assertReset quiet) (fun t => !t.resetHeld && t.startStep == .survey) = true := by decide

/-- The start-up survey at its last probe. -/
def lastProbe : State :=
  { State.reset with loop := { State.reset.loop with transaction := some (.probe 31 .survey), survey := some ⟨.startUp, 31, 2, 0⟩ } }

theorem test_meets_SurveyEnd : lastProbe.awake ∧ lastProbe.loop.survey = some ⟨.startUp, 31, 2, 0⟩ := by
  unfold State.awake State.idle; decide
theorem test_SurveyEnd : answers .replyWindowExpiry lastProbe (fun t =>
    t.startStep == .done && t.loop.state == .running && t.scanner.scanning && t.curtain.resolved) = true := by decide

/-! ## The performance record -/

theorem test_meets_PhaseRequest : meets .stage .phase quiet (fun s => (judgePhase .stage .prepare none none false s).isNone) = true ∧
    meets .stage .phase (during .evacuation 5) (fun s => (judgePhase .stage .prepare none none false s).isNone) = true ∧
    (during .evacuation 5).numbered := by unfold State.numbered; decide
theorem test_phase : answers (.phase .stage 1#8 .prepare none none false) quiet (fun t => t.perf.phase == .prepare) = true := by decide
theorem test_meets_PhaseRefused : meets .stage .phase quiet (fun s => judgePhase .stage .interval none none false s == some .badTransition) = true ∧
    (quiet.perf.phase, Phase.interval) ∉ [(Phase.dark, Phase.prepare), (.prepare, .dark)] := by decide
theorem test_meets_Clearances : meets .front .giveClearance (during .houseOpen 5) (fun s => mayGive .front s.perf.phase) = true ∧
    meets .stage .giveClearance quiet (fun s => !mayGive .stage s.perf.phase) = true ∧
    meets .stage .withdrawClearance quiet (fun s => (s.perf.clearance .stage).isNone) = true ∧
    meets .stage .withdrawClearance { during .prepare 5 with perf := (during .prepare 5).perf.setClearance .stage (some 3) } (fun s =>
      (s.perf.clearance .stage).isSome) = true := by decide
theorem test_giveClearance : answers (.giveClearance .front 1#8) (during .houseOpen 5) (fun t => t.perf.houseClearance == some 5) = true := by decide
theorem test_meets_ClearanceLapses : ((during .prepare 305).perf.setClearance .stage (some 5)).clearance .stage = some 5 ∧
    5 + (during .prepare 305).settings.ports.clearanceLife ≤ (during .prepare 305).uptime := by decide

/-- A clearance given at 5 and a house countdown, at an uptime. -/
def lapsing (t : Nat) (left : Nat) : State :=
  { during .prepare t with perf := { (during .prepare t).perf with stageClearance := some 5, houseCountdown := some left } }

theorem test_meets_Lapse : stands (lapsing 304 9) (fun s => s.perf.clearance .stage == some 5) = true ∧
    stands (lapsing 305 9) (fun s => s.perf.clearance .stage == some 5) = true := by decide
theorem test_clearanceLapse : answers (.clearanceLapse .stage) (lapsing 305 9) (fun t => t.perf.stageClearance.isNone) = true ∧
    answers (.clearanceLapse .stage) (lapsing 304 9) (· == lapsing 304 9) = true := by decide
theorem test_countdownReachesZero : answers (.countdownReachesZero .house) (lapsing 5 1) (fun t =>
      t.uptime == 6 && t.perf.houseCountdown == some 0 && t.ports.stage.queue == [.notice 0 (.countdown .house .curtainUpDue 0)]) = true ∧
    answers (.countdownReachesZero .house) (lapsing 5 0) (· == lapsing 5 0) = true := by decide
theorem test_setCountdown : answers (.setCountdown .stage 1#8 7200) (during .houseOpen 5) (fun t => t.perf.houseCountdown == some 7200) = true := by
  decide

/-- An interval with a countdown running. -/
def inInterval : State :=
  { during .interval 5 with perf := { (during .interval 5).perf with intervalCountdown := some 2700 } }

theorem test_meets_Countdowns : meets .stage .setCountdown (during .prepare 5) (fun s => s.perf.phase == .prepare) = true ∧
    meets .front .setCountdown (during .houseOpen 5) (fun s => s.perf.phase == .houseOpen) = true ∧
    meets .stage .extendInterval inInterval (fun s => s.perf.intervalCountdown == some 2700) = true ∧ 2700 + 900 ≤ 3600 := by decide
theorem test_extendInterval : answers (.extendInterval .stage 1#8 900) inInterval (fun t => t.perf.intervalCountdown == some 3600) = true := by
  decide
theorem test_meets_UptimeAdvances : quiet.startStep = .done ∧ quiet.uptime < 4294967295 ∧ stands (lapsing 5 0) (fun _ => true) = true ∧
    (lapsing 5 1).portOpen .front = true ∧ (lapsing 5 1).settings.ports.frontSubs.get .countdown = true ∧
    (lapsing 5 1).perf.countdown .house = some 1 ∧ (lapsing 5 0).perf.countdown .house ≠ some 1 ∧
    inInterval.perf.houseCountdown = none ∧ inInterval.portOpen .stage = true ∧ (inInterval.port .stage).noticeCount < 12 := by decide
theorem test_uptimeAdvance : answers .uptimeAdvance inInterval (fun t => t.uptime == 6 && t.perf.intervalCountdown == some 2699) = true ∧
    answers .uptimeAdvance { inInterval with perf := { inInterval.perf with intervalCountdown := some 1 } } (fun t =>
      t.ports.front.queue == [.notice 0 (.countdown .interval .intervalEndDue 0)]) = true := by decide
/-! ## Status requests -/

/-- A lowering curtain whose stall window runs. -/
def stalled : State := { withCurtain .lowering false false with curtain := { (withCurtain .lowering false false).curtain with motionWatch := some 1000 } }

theorem test_meets_status : meets .front .performanceStatus quiet (fun _ => true) = true ∧ meets .front .curtainStatus quiet (fun _ => true) = true ∧
    meets .stage .readChannel quiet (fun s => (s.scanner.record 16).isSome && (s.scanner.record 17).isNone) = true ∧
    meets .front .readChannel quiet (fun _ => true) = true ∧ meets .front .identify quiet (fun _ => true) = true := by decide
theorem test_meets_long_status : meets .front .alarmList quiet (fun _ => true) = true ∧ meets .stage .lightStatus quiet (fun _ => true) = true ∧
    meets .front .callStatus quiet (fun _ => true) = true ∧ meets .stage .faultList quiet (fun _ => true) = true ∧
    meets .front .unitTable quiet (fun _ => true) = true ∧ meets .stage .portStatus quiet (fun _ => true) = true ∧
    meets .front .getConfig quiet (fun _ => true) = true := by decide
theorem test_curtainStatus : answers (.curtainStatus .front 1#8 9) { stalled with clock := ⟨400, 0, 0, 0⟩ } (fun t =>
    t.ports.front.queue.any (fun f => match f with
      | .reply _ (.done (.curtain r)) => r.motionLeft == some 600
      | _ => false)) = true := by decide
theorem test_readChannel : answers (.readChannel .stage 1#8 16) quiet (fun t => t.ports.stage.queue.length == 1 &&
      t.ports.stage.queue.all (fun f => !f.isNotice && f != .reply 1#8 (.refused .invalid))) = true ∧
    answers (.readChannel .stage 1#8 17) quiet (fun t => t.ports.stage.queue == [.reply 1#8 (.refused .invalid)]) = true := by decide

/-! ## The Scanner -/

theorem test_meets_VisitTakesReading : quiet.scanner.path = some 1 ∧ (quiet.scanner.record 1).all (fun c =>
    !c.confirms (bandOf (quiet.settings.channel 1) 50#8) (quiet.settings.channel 1).confirm) = true := by decide
theorem test_visit : answers (.visit 50#8) quiet (fun t => (t.scanner.record 1).any (fun c => c.run == 1) && t.scanner.path == some 2) = true := by decide

/-- Channel 1 with two readings in ALARM. -/
def nearAlarm : State := withChannel (fun c => { c with candidate := some .alarm, run := 2 })

theorem test_meets_ConfirmedAlarm : (nearAlarm.scanner.record 1).all (fun c => c.confirms .alarm (nearAlarm.settings.channel 1).confirm) = true ∧
    bandOf (nearAlarm.settings.channel 1) 200#8 = .alarm ∧ nearAlarm.settings.isolatedInEffect 1 = false ∧
    (nearAlarm.settings.zone 1).verify = false ∧ nearAlarm.perf.phase = .dark ∧ nearAlarm.alarm.entries = [] := by decide
theorem test_store_aborted : answers (.visit 200#8)
    { nearAlarm with store := { nearAlarm.store with operation := some ⟨.zones, nearAlarm.settings.value .zones, 0⟩ } } (fun t =>
      t.store.operation.isNone && t.store.rows.any (fun r => r.name == .zones && r.stored == .blank)) = true := by decide
theorem test_ConfirmedAlarm : answers (.visit 200#8) nearAlarm (fun t =>
    t.perf.phase == .evacuation && t.alarm.relay && t.alarm.entries.any (fun e => e.stage == .general 0)) = true := by decide

/-- Channel 1 with two readings in a band, not at its first confirm. -/
def nearBand (b : Band) (f : ChannelRecord → ChannelRecord) : State :=
  withChannel (fun c => f { c with candidate := some b, run := 2, firstPending := false })

/-- Zone 1's settings changed. -/
def withZone (f : ZoneSettings → ZoneSettings) (s : State) : State :=
  { s with settings := { s.settings with zones := { s.settings.zones with zones := s.settings.zones.zones.map (fun z => if z.num = 1 then f z else z) } } }

theorem test_meets_Bands : (nearBand .openBand (fun c => { c with loopFault := some .shortLoop })).awake ∧
    ((nearBand .openBand id).scanner.record 1).any (fun c => c.confirms .openBand 3 && c.cut.isNone && c.state != .openState) = true ∧
    [5#8, 50#8, 130#8, 200#8, 250#8].map (bandOf (quiet.settings.channel 1)) = [.openBand, .normal, .prealarm, .alarm, .short] ∧
    (withZone (fun z => { z with verify := true }) nearAlarm).awake ∧
    (withZone (fun z => { z with verify := true }) nearAlarm).scanner.channels.all (fun x => !x.alarmReported && !x.inCut .verification) = true := by
  unfold State.awake State.idle; decide
theorem test_wiring : answers (.visit 5#8) (nearBand .openBand (fun c => { c with loopFault := some .shortLoop })) (fun t =>
      (t.scanner.record 1).any (fun c => c.state == .openState && c.loopFault == some .openLoop) && t.sup.entries.any (·.kind == .loopOpen)) = true ∧
    answers (.visit 250#8) (nearBand .short id) (fun t => (t.scanner.record 1).any (fun c => c.loopFault == some .shortLoop)) = true := by decide
theorem test_out_of_alarm :
    answers (.visit 130#8) { nearBand .prealarm (fun c => { c with state := .alarm, alarmReported := true }) with
      alarm := { quiet.alarm with entries := [{ entry (.general 0) with channels := [1, 2] }] } } (fun t =>
        t.alarm.entries.map (·.channels) == [[2]] && (t.scanner.record 1).any (fun c => c.state == .prealarm && !c.alarmReported)) = true := by decide
theorem test_verification_begins : answers (.visit 200#8) (withZone (fun z => { z with verify := true }) nearAlarm) (fun t =>
    t.alarm.entries.isEmpty && (t.scanner.record 1).any (fun c => c.state == .verifying && !c.supply)) = true := by decide

/-- Channel 1 at the last visit of its recovery check, for a stand-down of zone 1. -/
def checking (b : Band) : State :=
  let s := withChannel (fun c => { c with candidate := some b, run := 2, alarmReported := true, cut := some ⟨.loopReset, .recoveryCheck, none, 2⟩ })
  { s with
    scanner := { s.scanner with claims := [⟨.standDown 1, [1], [1], [], false⟩] }
    alarm := { quiet.alarm with entries := [{ entry .standingDown with channels := [1] }] } }

theorem test_recovery_check : answers (.visit 200#8) (checking .alarm) (fun t => t.scanner.claims.isEmpty &&
      (t.scanner.record 1).any (fun c => c.cut.isNone && c.state == .alarm) && t.alarm.entries.map (·.stage) == [.general 0]) = true ∧
    answers (.visit 50#8) (checking .normal) (fun t => t.scanner.claims.isEmpty && t.alarm.entries.isEmpty) = true ∧
    answers (.visit 50#8) (checking .alarm) (fun t => t.scanner.claims.isEmpty && (t.scanner.record 1).any (fun c => c.cut.isNone && c.run == 1)) = true := by
  decide

theorem test_meets_channelsSettled : (withZone (fun z => { z with verify := true }) nearAlarm).channelsSettled ∧ (checking .alarm).channelsSettled ∧
    State.reset.channelsSettled := by unfold State.channelsSettled; decide

/-- R56: the result of a set-aside claim leaves the zone's newer entry where it stands. -/
theorem test_set_aside :
    answers (.visit 50#8) { checking .normal with scanner := { (checking .normal).scanner with claims := [⟨.standDown 1, [1], [1], [], true⟩] } }
      (fun t => t.scanner.claims.isEmpty && t.alarm.entries.map (·.stage) == [.standingDown]) = true ∧
    (resetSucceeds (checking .normal)).scanner.claims.map (·.setAside) = [true] := by decide

/-- R41: a claim that a CONFIG completes hands its result before the channel's notice. -/
theorem test_config_completes_claim :
    let s := { quiet with
      alarm := { quiet.alarm with resetting := some ⟨[1], false⟩ }
      scanner := { (checking .normal).scanner with claims := [⟨.alarmReset, [1], [1], [], false⟩], scanning := true }
      ports := ⟨.reset, .reset⟩ }
    let t := reconfigureChannel (mapChannel 1 (fun c => { c with state := .blanked, cut := some ⟨.loopReset, .blanking, some 9, 0⟩ }) s) 1
    t.alarm.resetting.isNone && t.scanner.claims.isEmpty &&
      (match t.ports.stage.queue with
       | [.notice _ .alarmReset, .notice _ (.channel 1 _ .normal .blanked _ _ .state _)] => true
       | _ => false) = true := by decide

/-- An open house with an order on the line, zone 1 staged, channel 1 about to confirm ALARM. -/
def stagedAlarm : State :=
  withZone (fun z => { z with staged := true }) { nearAlarm with perf := (during .houseOpen 5).perf, calls := { lineBusy.calls with queue := [soundingOrder] } }

theorem test_meets_StaffAlert : stagedAlarm.awake ∧ stagedAlarm.lineHeld ∧ (stagedAlarm.settings.zone 1).staged = true ∧
    stagedAlarm.perf.phase ∉ [Phase.dark, .prepare, .evacuation] ∧ (stagedAlarm.settings.channel 1).type = .detectorLoop ∧
    stagedAlarm.scanner.channels.all (fun x => !x.inCut .verification) = true := by
  unfold State.awake State.idle State.lineHeld; decide
theorem test_StaffAlert : answers (.visit 200#8) stagedAlarm (fun t => t.alarm.entries.map (·.stage) == [.staffAlert 30] &&
    t.perf.phase == .houseOpen && t.calls.queue.any (fun o => o.cls == .staff && o.tag == stagedAlarm.nextInternalTag)) = true := by decide

/-- Channel 1 with its supply cut, at uptime 30. -/
def cutChannel (p : CutPurpose) (st : CutStep) : State :=
  { withChannel (fun c => { c with supply := st != .off, state := if p = .verification then .verifying else .blanked, cut := some ⟨p, st, some 30, 0⟩ }) with
    uptime := 30 }

theorem test_meets_CutGoesOn : ((cutChannel .loopReset .off).scanner.record 1).bind (·.cut) = some ⟨.loopReset, .off, some 30, 0⟩ ∧
    ((cutChannel .verification .window).scanner.record 1).map (·.windowBand) = some none := by decide
theorem test_offTimeEnd : answers (.offTimeEnd 1) (cutChannel .verification .off) (fun t =>
    (t.scanner.record 1).any (fun c => c.supply && c.cut == some ⟨.verification, .blanking, some 40, 0⟩)) = true := by decide
theorem test_blankingEnd : answers (.blankingEnd 1) (cutChannel .loopReset .blanking) (fun t =>
      (t.scanner.record 1).any (fun c => c.cut == some ⟨.loopReset, .recoveryCheck, none, 0⟩ && c.state == .normal)) = true ∧
    answers (.blankingEnd 1) (cutChannel .verification .blanking) (fun t =>
      (t.scanner.record 1).any (fun c => c.cut == some ⟨.verification, .window, some 90, 0⟩)) = true := by decide
theorem test_verificationWindowEnd : answers (.verificationWindowEnd 1) (cutChannel .verification .window) (fun t =>
    (t.scanner.record 1).any (fun c => c.cut.isNone && c.unconfirmed == 1 && c.state == .normal && c.firstPending)) = true := by decide

/-- A verification at the end of its window, with a band confirmed in it. -/
def confirmedInWindow (b : Band) : State :=
  { cutChannel .verification .window with
    scanner := { (cutChannel .verification .window).scanner with
      channels := (cutChannel .verification .window).scanner.channels.map (fun c => if c.num = 1 then { c with windowBand := some b } else c) } }

theorem test_window_band : answers (.verificationWindowEnd 1) (confirmedInWindow .prealarm) (fun t =>
      (t.scanner.record 1).any (fun c => c.cut.isNone && c.state == .prealarm && !c.firstPending)) = true ∧
    answers (.verificationWindowEnd 1) (confirmedInWindow .normal) (fun t =>
      (t.scanner.record 1).any (fun c => c.cut.isNone && c.state == .normal && !c.firstPending)) = true := by decide
theorem test_meets_Isolate : targetInRange (.channel 16) = true ∧ targetInRange (.zone 12) = true ∧
    meets .stage .isolate quiet (fun s => !zoneInAlarm (targetZone s.settings (.channel 16)) s && !targetIsolated s.settings (.channel 16)) = true ∧
    meets .stage .isolate quiet (fun s => !zoneInAlarm (targetZone s.settings (.zone 12)) s && !targetIsolated s.settings (.zone 12)) = true := by
  decide
theorem test_isolate : answers (.isolate .stage 1#8 (.zone 12)) quiet (fun t => t.settings.channels.isolatedZones == [12]) = true := by decide

/-- `quiet` with channel 16 isolated. -/
def isolatedChannel : State := { quiet with settings := { quiet.settings with channels := quiet.settings.channels.setIsolation true (.channel 16) } }

theorem test_meets_Restore : meets .stage .restore isolatedChannel (fun s => targetIsolated s.settings (.channel 16)) = true := by decide
theorem test_restore : answers (.restore .stage 1#8 (.channel 16)) isolatedChannel (fun t => t.settings == quiet.settings) = true := by decide

/-! ## The alarm list -/

theorem test_meets_Acknowledge : meets .front .acknowledge (withEntries [entry (.staffAlert 30)]) (fun s =>
    s.alarm.presented == some (entry (.staffAlert 30))) = true := by decide
theorem test_acknowledge : answers (.acknowledge .front 1#8 1) (withEntries [entry (.staffAlert 30)]) (fun t =>
    t.alarm.entries.any (fun e => e.acked == some .front && e.stage == .investigating 180)) = true := by decide
theorem test_meets_Cancel : meets .stage .cancel (withEntries [entry (.investigating 30)]) (fun s =>
      s.alarm.entry 1 == some (entry (.investigating 30)) && s.scanner.results.isEmpty &&
      decide (usedOf s.settings (standDownChannels s.settings (entry (.investigating 30))) ≠ [])) = true ∧
    meets .front .cancel (withEntries [entry (.staffAlert 30)]) (fun s => s.alarm.entry 1 == some (entry (.staffAlert 30))) = true ∧
    meets .front .cancel (withEntries [entry (.general 0)]) (fun s => s.alarm.entry 1 == some (entry (.general 0))) = true ∧
    meets .front .cancel (withEntries [entry .standingDown]) (fun s => s.alarm.entry 1 == some (entry .standingDown)) = true := by decide
theorem test_cancel : answers (.cancel .stage 1#8 1) (withEntries [entry (.investigating 30)]) (fun t =>
    t.alarm.entries.any (fun e => e.stage == .standingDown)) = true := by decide
/-- A general alarm, acknowledged, with the sounders on. -/
def general : State :=
  { during .evacuation 50 with alarm := { quiet.alarm with entries := [{ entry (.general 0) with acked := some .stage }], relay := true, sounder := .sounding } }

theorem test_meets_Silence : meets .front .silence general (fun s => s.anyGeneral && s.alarm.sounder == .sounding) = true ∧
    general.alarm.sounderStage = true ∧ general.alarm.sounderFront = true := by decide
theorem test_silence : answers (.silence .front 1#8) general (fun t => t.alarm.sounder == .silenced && t.alarm.relay) = true := by decide
theorem test_meets_Evacuate : meets .front .evacuate quiet (fun s => s.perf.phase != .evacuation) = true ∧ quiet.generalSafe ∧ quiet.numbered := by
  unfold State.generalSafe State.numbered; decide
theorem test_evacuate : answers (.evacuate .front 1#8) quiet (fun t => t.perf.phase == .evacuation && t.alarm.relay &&
    t.alarm.entries.length == 1 && (t.light.lamp 1).any (fun l => l.safety == some ⟨100, quiet.settings.lights.panicFade⟩)) = true := by
  decide
theorem test_meets_ResetAlarms : meets .stage .resetAlarms general (fun s => s.alarm.resetting.isNone && s.alarm.entries.all (·.acked.isSome) &&
      decide (resetChannels s ≠ []) && s.scanner.results.isEmpty && (resetChannels s).all (fun n => (s.scanner.record n).isSome)) = true ∧
    (general.settings.channels.channels.map (·.num)).Nodup ∧ (quiet.settings.channels.channels.map (·.num)).Nodup ∧
    meets .stage .resetAlarms quiet (fun s => s.alarm.resetting.isNone && s.alarm.entries.isEmpty) = true := by decide
theorem test_resetAlarms : answers (.resetAlarms .stage 1#8) general (fun t => t.alarm.resetting.isSome) = true := by decide
theorem test_meets_WindowExpiry : (withEntries [entry (.staffAlert 0)]).alarm.entry 1 = some (entry (.staffAlert 0)) ∧
    (withEntries [entry (.investigating 0)]).alarm.entry 1 = some (entry (.investigating 0)) := by decide
theorem test_ackWindowExpiry :
    answers (.ackWindowExpiry 1) (withEntries [entry (.staffAlert 0)]) (fun t => t.perf.phase == .evacuation && t.alarm.relay) = true := by
  decide
theorem test_investigationWindowExpiry : answers (.investigationWindowExpiry 1) (withEntries [entry (.investigating 0)]) (fun t =>
    t.perf.phase == .evacuation && t.alarm.relay) = true := by decide

/-! ## The curtain -/

theorem test_meets_PoweredMotion : meets .stage .curtainLower quiet (fun s => (gateLower s).isNone) = true ∧
    meets .stage .curtainRaise (withCurtain .down false true) (fun s => (gateRaise s).isNone) = true := by decide
theorem test_curtainLower : answers (.curtainLower .stage 1#8) quiet (fun t => t.curtain.state == .lowering && t.curtain.driveDown &&
    t.curtain.motionWatch == some 10000) = true := by decide
theorem test_curtainRaise :
    answers (.curtainRaise .stage 1#8) (withCurtain .down false true) (fun t => t.curtain.state == .raising && t.curtain.driveUp) = true := by
  decide
theorem test_meets_CurtainStop : meets .front .curtainStop (withCurtain .raising false false) (fun s => s.curtain.state == .raising) = true ∧
    meets .front .curtainStop (withCurtain .dropping false false) (fun s => s.curtain.state == .dropping) = true ∧
    meets .front .curtainStop (withCurtain .faultLocked false false) (fun s => s.curtain.state == .faultLocked) = true := by decide
theorem test_curtainStop :
    answers (.curtainStop .front 1#8) (withCurtain .lowering false false) (fun t => t.curtain.state == .halted && !t.curtain.driveDown) = true := by
  decide

/-- The hold-off, or the grace, of a release at its end, with the curtain UP. -/
def releasing (x : ReleaseTimer) : State := { quiet with uptime := 10, curtain := { quiet.curtain with timer := x } }

theorem test_meets_DropBegins :
    meets .stage .curtainDropTest quiet (fun s => (gateDropTest s).isNone) = true ∧ quiet.lines.limitBottom = false ∧ quiet.lines.obstructed = false ∧
    (releasing (.running 10)).curtain.timer = .running 10 ∧ (releasing (.grace 10)).curtain.timer = .grace 10 := by decide
theorem test_dropTest : answers (.curtainDropTest .stage 1#8) quiet (fun t => t.curtain.state == .dropping && !t.curtain.hold) = true := by decide
theorem test_releaseExpiry :
    answers .releaseExpiry (releasing (.running 10)) (fun t => t.curtain.drop.any (fun d => d.cause == .release && d.startedAt == 10)) = true := by
  decide
theorem test_graceEnd : answers .graceEnd (releasing (.grace 10)) (fun t => t.curtain.drop.any (fun d => d.cause == .graceEnd)) = true := by decide
theorem test_emergRelease : answers .emergReleaseAsserted (withCurtain .halted false false) (fun t =>
    t.curtain.drop.any (fun d => d.cause == .emergency) && t.lines.emergRelease) = true := by decide

/-- A drop at its limit. -/
def dropping : State :=
  { withCurtain .dropping false false with
    uptime := 30, curtain := { (withCurtain .dropping false false).curtain with drop := some ⟨.test, 0, 30, false, none, false⟩ } }

theorem test_meets_DropIsWatched :
    stands dropping (fun s => s.curtain.state == .dropping && s.curtain.drop == some ⟨.test, 0, 30, false, none, false⟩) = true := by
  decide
theorem test_overspeed : answers (.encoderStep .encA 3) dropping (fun t =>
      t.curtain.faultsHeld == [.dropOverspeed] && t.curtain.drop == some ⟨.test, 0, 30, true, some 3, false⟩) = true ∧
    answers (.encoderStep .encA 300) dropping (fun t =>
      t.curtain.faultsHeld == [] && t.curtain.drop == some ⟨.test, 0, 30, false, some 255, false⟩) = true := by decide
theorem test_dropOverdue : answers .dropOverdue dropping (fun t => t.curtain.faultsHeld == [.dropOverdue] && !t.sup.relay) = true := by decide
theorem test_limitBottomActive : answers .limitBottomActive dropping (fun t => t.curtain.state == .down && t.curtain.position == some 0) = true := by decide
theorem test_limitTopActive : answers .limitTopActive (withCurtain .raising false false) (fun t => t.curtain.state == .up) = true ∧
    answers .limitTopActive (withCurtain .down false true) (fun t => t.curtain.state == .faultLocked) = true ∧
    answers .limitBottomActive (withCurtain .up true false) (fun t => t.curtain.state == .faultLocked) = true := by decide
theorem test_meets_LimitLost : (withCurtain .down false true).triggerEntries = [] ∧ (withCurtain .down false true).lines.emergRelease = false := by decide
theorem test_limitBottomLost : answers .limitBottomLost (withCurtain .down false true) (fun t => t.curtain.state == .halted) = true := by decide
theorem test_limitTopLost : answers .limitTopLost quiet (fun t => t.curtain.state == .halted && t.curtain.faultsHeld == [.creep]) = true := by decide
theorem test_meets_EncoderStep : { twoDue 249 with lines := { quiet.lines with lastStepAt := some 100 } }.awake ∧
    { twoDue 249 with lines := { quiet.lines with lastStepAt := some 100 } }.loop.duePoll 400 = some 8 := by unfold State.awake State.idle; decide
theorem test_step_makes_poll_due : answers (.encoderStep .encA 300) { twoDue 249 with lines := { quiet.lines with lastStepAt := some 100 } } (fun t =>
    t.loop.transaction == some (.poll 8 .lamp 400)) = true := by decide
theorem test_encoderStep : answers (.encoderStep .encA 300) (withCurtain .lowering false false) (fun t =>
    t.curtain.lastInterval == some 255 && t.curtain.motionWatch == some 10000 && t.lines.encA && t.lines.lastStepAt == some 0) = true ∧
    stands (withCurtain .lowering false false) (fun s => s.curtain.state != .dropping) = true := by decide
theorem test_step_holds_position : stepPosition true 500 (some 20000) = some 500 ∧ stepPosition false 500 (some 20000) = some 500 ∧
    stepPosition false 500 (some 0) = some 0 ∧ stepPosition true 500 none = none := by decide
theorem test_meets_Stall : stalled.curtain.motionWatch.isSome = true ∧ stalled.curtain.state = .lowering ∧ stalled.lines.emergRelease = false ∧
    meets .stage .curtainClearFault (withCurtain .faultLocked true false) (fun s => (gateClear s).isNone) = true ∧
    (withCurtain .faultLocked true false).calm := by unfold State.calm; decide
theorem test_motionWatchEnd : answers .motionWatchEnd stalled (fun t => t.curtain.state == .faultLocked && t.curtain.faultsHeld == [.curtainStall]) = true := by
  decide
theorem test_clearFault : answers (.curtainClearFault .stage 1#8) (withCurtain .faultLocked true false) (fun t => t.curtain.state == .up) = true := by decide
/-- `releasing` in GRACE, with the line obstructed. -/
def inGrace : State := { releasing (.grace 20) with lines := { quiet.lines with beamUs := true } }

theorem test_meets_SettingLine : inGrace.lines.obstructed = true ∧ inGrace.lines.limitBottom = false ∧ inGrace.curtain.state ≠ .dropping ∧
    inGrace.curtain.timer = .grace 20 ∧ inGrace.resetHeld = false := by decide
theorem test_settingLine :
    answers (.settingLineChange true false) (withCurtain .lowering false false) (fun t => t.curtain.state == .halted && t.lines.beamUs) = true ∧
    answers (.settingLineChange false false) inGrace (fun t =>
      t.curtain.drop.any (fun d => d.cause == .release) && t.curtain.timer == .idle && t.sup == inGrace.sup) = true := by
  decide
theorem test_emergReleaseReleased : answers .emergReleaseReleased quiet (fun t => !t.lines.emergRelease) = true := by decide
theorem test_meets_CurtainHold : meets .stage .curtainHold (releasing (.running 20)) (fun s => s.curtain.holdsUsed < s.settings.curtain.maxHolds) = true ∧
    meets .stage .curtainHold { releasing (.running 20) with curtain := { (releasing (.running 20)).curtain with holdsUsed := 255 } } (fun s =>
      s.settings.curtain.maxHolds ≤ s.curtain.holdsUsed) = true ∧
    meets .stage .curtainHold (releasing (.grace 20)) (fun _ => true) = true ∧ meets .stage .curtainHold quiet (fun _ => true) = true ∧
    meets .front .curtainHold quiet (fun _ => true) = true ∧ stands (releasing (.running 11)) (fun s => s.uptime < 11) = true ∧
    stands (releasing (.running 10)) (fun s => !s.lines.limitBottom) = true := by decide
theorem test_curtainHold :
    answers (.curtainHold .stage 1#8) (releasing (.running 12)) (fun t => t.curtain.timer == .running 20 && t.curtain.holdsUsed == 1) = true := by
  decide

/-- INTERVAL with the call line held by a sounding order. -/
def intervalBusy : State := { lineBusy with perf := (during .interval 20).perf }

theorem test_meets_Display : meets .stage .curtainDisplay intervalBusy (fun s => (gateDisplay s).isNone) = true ∧ intervalBusy.lineHeld := by
  unfold State.lineHeld; decide
theorem test_curtainDisplay : answers (.curtainDisplay .stage 1#8) intervalBusy (fun t => t.curtain.display == some .announcing &&
    t.calls.queue.map (·.tag) == [9, intervalBusy.nextInternalTag]) = true := by
  decide

/-- The dwell of a display drop at its end. -/
def dwelling : State := { withCurtain .down false true with uptime := 30, curtain := { (withCurtain .down false true).curtain with display := some (.dwell 30) } }

theorem test_dwellEnd :
    dwelling.anyGeneral = false ∧ answers .dwellEnd dwelling (fun t => t.curtain.state == .raising && t.curtain.display == some .raising) = true := by
  decide

/-! ## The lights -/

theorem test_meets_Manual : meets .stage .manualLevel quiet (fun s => (gateManual .stage [1, 48] (decide (100 ≤ 100)) 20 s).isNone) = true ∧
    meets .front .manualLevel quiet (fun s => (gateManual .front [1] true 0 s).isNone) = true := by decide
theorem test_manualLevel :
    answers (.manualLevel .stage 1#8 [1, 48] 50 0) quiet (fun t => (t.light.lamp 48).any (fun l => l.manual == some ⟨50, 0⟩)) = true := by
  decide
theorem test_manualLevelRelease : answers (.manualLevelRelease .stage 1#8 [1] 0) quiet (fun t => (t.light.lamp 1).any (fun l => l.manual.isNone)) = true := by
  decide

/-- `quiet` with preset 16 defined. -/
def withPreset : State :=
  { quiet with settings := { quiet.settings with lights := { quiet.settings.lights with presets := [⟨16, some ⟨[(3, 40)], 0⟩⟩] } } }

theorem test_goPreset : meets .stage .goPreset withPreset (fun s => s.settings.preset 16 == some ⟨[(3, 40)], 0⟩ && s.perf.phase != .evacuation) = true ∧
    answers (.goPreset .stage 1#8 16) withPreset (fun t => (t.light.lamp 3).any (fun l => l.cue == some ⟨40, 0⟩)) = true := by decide

/-- Lamp channel 1 in a fade of 200 ms from 70 to 0. -/
def fading (elapsed : Nat) : State :=
  { quiet with light := { quiet.light with lamps := quiet.light.lamps.map (fun l =>
      if l.num = 1 then { l with fade := some ⟨70, 0, 200, elapsed⟩ } else l) } }

theorem test_meets_Lamps : stands (fading 100) (fun s => (s.light.lamp 1).bind (·.fade) == some ⟨70, 0, 200, 100⟩) = true ∧
    ((fading 150).light.lamp 1).bind (·.fade) = some ⟨70, 0, 200, 150⟩ ∧ (fading 150).numbered ∧ (fading 150).calm := by
  unfold State.numbered State.calm; decide
theorem test_fadeAdvance :
    answers .fadeAdvance (fading 100) (fun t => (t.light.lamp 1).any (fun l => l.current == 18 && l.fade == some ⟨70, 0, 200, 150⟩)) = true ∧
    answers .fadeAdvance (fading 150) (fun t => (t.light.lamp 1).any (fun l => l.current == 0 && l.fade.isNone)) = true := by decide
theorem test_fadeEnd : answers (.fadeEnd 1) (fading 150) (fun t => (t.light.lamp 1).any (fun l => l.current == 0 && l.fade.isNone)) = true ∧
    answers (.fadeEnd 1) (fading 100) (· == fading 100) = true := by decide
theorem test_flashClockHalf : answers .flashClockHalf quiet (fun t => t.light.lit == !quiet.light.lit) = true := by decide

/-! ## The calls -/

theorem test_meets_PlaceCall : meets .front .placeCall lineBusy (fun s => (gatePlaceCall .showing (.chime 1) allAreas (.times 1) .now none s).isNone) = true ∧
    lineBusy.lineHeld := by unfold State.lineHeld; decide
theorem test_placeCall :
    answers (.placeCall .front 3#8 .showing (.chime 1) allAreas (.times 1) .now none) lineBusy (fun t => t.calls.queue.length == 2) = true := by
  decide
theorem test_placeCall_answered_first : answers (.placeCall .stage 3#8 .showing (.chime 1) allAreas (.times 1) .now none) quiet (fun t =>
    t.ports.stage.queue.head? == some (.reply 3#8 (.done .empty)) && t.ports.stage.queue.length == 2) = true := by decide
theorem test_meets_WithdrawCall : meets .stage .withdrawCall lineBusy (fun _ => true) = true ∧ meets .front .withdrawCall lineBusy (fun _ => true) = true ∧
    portOrders .stage 9 lineBusy.calls ≠ [] ∧ portOrders .front 9 lineBusy.calls = [] ∧
    (lineBusy.calls.queue.map Order.id).Nodup := by decide
theorem test_withdrawCall : answers (.withdrawCall .stage 3#8 9) lineBusy (fun t => t.calls.queue.all (·.withdrawn)) = true := by decide
theorem test_meets_CallTimeLimit : lineBusy.calls.sounding = some soundingOrder ∧ soundingOrder.repeats = .times (soundingOrder.done + 1) := by decide
theorem test_callTimeLimit : answers .callTimeLimit lineBusy (fun t => t.calls.queue.isEmpty) = true := by decide

/-- The line busy with an order of another number of repetitions, or withdrawn. -/
def lineBusyWith (o : Order) : State := { lineBusy with calls := { lineBusy.calls with queue := [o] } }

theorem test_meets_CallTimeLimit_more : expectedUnits { soundingOrder with repeats := .times 3 } (lineBusyWith { soundingOrder with repeats := .times 3 }).rowsNow ≠ [] ∧
    ((lineBusyWith { soundingOrder with repeats := .times 3 }).calls.queue.map Order.id).Nodup ∧
    (lineBusyWith { soundingOrder with withdrawn := true }).calls.sounding.map (·.withdrawn) = some true := by decide
theorem test_repetition_ends : answers .callTimeLimit (lineBusyWith { soundingOrder with repeats := .times 3 }) (fun t =>
      t.calls.queue.map (fun o => (o.done, o.missing, o.state)) == [(1, [0], .sounding 0 1)] && t.sup.entries.map (·.kind) == [.callNotReported]) = true ∧
    answers .callTimeLimit (lineBusyWith { soundingOrder with repeats := .untilReleased, withdrawn := true }) (fun t => t.calls.queue.isEmpty) = true := by
  decide

/-- The order's CALL on the loop. -/
def broadcasting : State :=
  { lineBusy with loop := { lineBusy.loop with transaction := some .broadcast, drives := true, ordinary := [⟨.call ⟨1, .showing, .chime 1, allAreas⟩, true⟩] } }

theorem test_meets_BroadcastSent : broadcasting.loop.sendingSerial = some 1 ∧ soundingOrder.serial = some 1 ∧ broadcasting.loop.roomOwed = false := by decide
theorem test_broadcastSent :
    answers .loopBroadcastSent broadcasting (fun t => t.calls.repetition == some ⟨[⟨9, 0, true⟩], [9], some 30⟩ && t.loop.ordinary.isEmpty) = true := by
  decide

/-- A CANCEL on the loop. -/
def cancelling : State := { lineBusy with loop := { lineBusy.loop with transaction := some .broadcast, drives := true, urgent := [⟨.cancel [4], true⟩] } }

theorem test_cancelSent : (cancelling.loop.urgent ++ cancelling.loop.ordinary).find? (·.sending) = some ⟨.cancel [4], true⟩ ∧
    answers .loopBroadcastSent cancelling (fun t => t.loop.urgent.isEmpty && t.calls == cancelling.calls) = true := by decide

/-! ## The faults -/

theorem test_meets_AcknowledgeFault : (withFault .active false).sup.sound ∧ (withFault .cleared false).sup.sound ∧ allowedAt .creep .curtain = true ∧
    allowedAt .creep .loop = false ∧ (withFault .active true).sup.find .curtain .creep = some (faultEntry .active true) := by
  unfold Supervision.sound; decide
theorem test_meets_fault_states : meets .stage .acknowledgeFault (withFault .active false) (fun _ => true) = true ∧
    meets .front .acknowledgeFault (withFault .active true) (fun _ => true) = true ∧
    meets .stage .acknowledgeFault (withFault .cleared false) (fun _ => true) = true ∧
    meets .stage .acknowledgeFault quiet (fun s => (s.sup.find .curtain .creep).isNone && s.sup.lost == 0) = true ∧
    meets .stage .acknowledgeFault { quiet with sup := ⟨[], 3, false⟩ } (fun s => 0 < s.sup.lost) = true := by decide
theorem test_acknowledgeFault :
    answers (.acknowledgeFault .stage 1#8 .curtain (some .creep)) (withFault .active false) (fun t => t.sup.entries.all (·.acked)) = true ∧
    answers (.acknowledgeFault .stage 1#8 .curtain (some .creep)) (withFault .cleared false) (fun t => t.sup.entries.isEmpty) = true := by decide
theorem test_acknowledgeLost : answers (.acknowledgeFaultLost .stage 1#8) { quiet with sup := ⟨[], 3, false⟩ } (fun t => t.sup == ⟨[], 0, true⟩) = true ∧
    answers (.acknowledgeFaultLost .stage 1#8) { quiet with sup := ⟨List.replicate 32 (faultEntry .active false), 3, false⟩ } (fun t => t.sup.lost == 3) = true := by
  decide

/-! ## The House Loop -/

/-- A unit PRESENT at an address, with a transaction on the loop. -/
def onLoop (a misses : Nat) (x : Option Transaction) : State := withLoop (fun u => withUnit a
  { u with transaction := x, rows := u.rows.map (fun r => if r.address = a then { r with misses := misses } else r) })

/-- Address 8 PRESENT, a lamp unit, with its POLL, begun at 3, on the loop. -/
def polling (misses : Nat) : State := onLoop 8 misses (some (.poll 8 .lamp 3))

/-- The payload of a reply whose coded byte is 7. -/
def payloadOf : LoopBody → List Byte
  | .lampPoll _ | .setAnswer _ => [7#8]
  | .callPoll serial _ => [BitVec.ofNat 8 serial, 7#8]
  | .levels ls => ls.map (BitVec.ofNat 8)
  | .identity _ outputs area => [7#8, BitVec.ofNat 8 outputs, BitVec.ofNat 8 area]
  | .malformed => []

/-- What that byte stands for. -/
def wordOf : LoopBody → LoopWord
  | .lampPoll r => .room r
  | .callPoll _ p => .progress p
  | .setAnswer x => .answer x
  | .identity k _ _ => .unit k
  | .levels _ | .malformed => .meaningless

/-- The frame of a unit's reply, or the same with its last byte changed. -/
def frame (a : Nat) (good : Bool) (k : LoopKind) (b : LoopBody) (checkGood : Bool) : LoopFrame :=
  let l := loopFrame a (loopFlags false true good k) (payloadOf b)
  ⟨if checkGood then l else l.dropLast ++ [l.getLastD 0#8 ^^^ 1#8], wordOf b⟩

/-- The fields that the statements name, read from such frames. -/
theorem test_meets_frames :
    let f := frame 24 false .poll (.callPoll 4 .finished) true
    f.kind = .poll ∧ f.address = 24 ∧ f.reply = true ∧ f.good = false ∧ f.complete = true ∧ f.checkGood = true ∧
    f.body = .callPoll 4 .finished ∧ (frame 8 true .poll (.lampPoll .full) true).body = .lampPoll .full ∧
    (frame 8 true .set (.setAnswer .refused) true).body = .setAnswer .refused ∧ (frame 8 true .read (.levels [100, 0]) true).body = .levels [100, 0] ∧
    (frame 24 true .survey (.identity .call 0 15) true).body = .identity .call 0 15 ∧
    (frame 8 true .poll (.lampPoll .full) false).checkGood = false ∧ (frame 8 true .poll (.lampPoll .full) false).complete = true := by decide

theorem test_meets_PollAnswers : stillPresent 8 (polling 2) = true ∧ ((polling 2).settings.loopRow 8).expected = .lamp ∧
    (polling 2).loop.transaction = some (.poll 8 .lamp 3) ∧ stillPresent 24 (onLoop 24 1 (some (.poll 24 .call 3))) = true ∧
    ((onLoop 24 2 (some (.poll 24 .call 3))).settings.loopRow 24).expected = .call := by decide
theorem test_loopReply : answers (.loopReply (frame 8 true .poll (.lampPoll .full) true)) (polling 2) (fun t =>
      (t.loop.row 8).any (fun r => r.room == .full && r.misses == 0 && r.nextPoll == some 2503)) = true ∧
    answers (.loopReply (frame 8 false .poll (.lampPoll .full) true)) (polling 2) (fun t =>
      (t.loop.row 8).any (fun r => r.room == .room && r.misses == 0 && r.faultsHeld == [.unitBadData])) = true := by decide
theorem test_loopReply_more : answers (.loopReply (frame 24 true .poll (.callPoll 4 .finished) true)) (onLoop 24 1 (some (.poll 24 .call 3))) (fun t =>
      (t.loop.row 24).any (fun r => r.lastSerial == 4 && r.progress == .finished)) = true ∧
    answers (.loopReply (frame 8 true .poll (.lampPoll .full) false)) (polling 1) (fun t =>
      (t.loop.row 8).any (fun r => r.misses == 2 && r.checkErrors == 1)) = true := by decide
theorem test_replyWindowExpiry : answers .replyWindowExpiry (polling 1) (fun t => (t.loop.row 8).any (fun r => r.present && r.misses == 2)) = true ∧
    answers .replyWindowExpiry (polling 2) (fun t => (t.loop.row 8).any (fun r => !r.present && r.misses == 0 && r.nextPoll.isNone)) = true := by decide
/-- A POLL on the loop whose unit a CONFIG has made ABSENT. -/
def lostUnit (a : Nat) (kind : UnitKind) : State := withLoop (fun u => { u with transaction := some (.poll a kind 3) })

theorem test_meets_lost_unit : ((lostUnit 30 .lamp).loop.row 30).map (fun r => (r.present, r.nextPoll)) = some (false, none) ∧
    ((lostUnit 30 .call).loop.row 30).map (fun r => (r.present, r.nextPoll)) = some (false, none) := by decide
theorem test_lost_unit : answers (.loopReply (frame 30 false .poll (.lampPoll .full) true)) (lostUnit 30 .lamp) (fun t =>
      (t.loop.row 30).any (fun r => !r.present && r.room == .room && r.faultsHeld == [.unitBadData])) = true ∧
    answers (.loopReply (frame 30 true .poll (.callPoll 4 .finished) true)) (lostUnit 30 .call) (fun t =>
      (t.loop.row 30).any (fun r => !r.present && r.lastSerial == 4 && r.progress == .finished)) = true := by decide
theorem test_meets_PollDue : stands (polling 0) (fun s => (s.loop.row 8).bind UnitRow.nextPoll == some 250 && s.loop.transaction.isSome) = true ∧
    stands (onLoop 8 0 none) (fun s => (s.loop.row 8).bind UnitRow.nextPoll == some 250 && s.loop.transaction.isNone &&
      (s.loop.urgent.find? s.loop.eligible).isNone && s.loop.state == .running && s.clock.now < 250) = true := by decide
theorem test_pollDue : answers (.pollDue 8) (polling 0) (fun t => t.clock.now == 250 && t.loop == (polling 0).loop) = true ∧
    answers (.pollDue 8) (onLoop 8 0 none) (fun t => t.loop.transaction == some (.poll 8 .lamp 250)) = true := by decide

/-- A CANCEL, of which either lane may hold one. -/
def aCancel : LaneItem := ⟨.cancel [1], false⟩

/-- The loop's transaction after a step with no command. -/
def workTaken (s : State) : Option Transaction :=
  match step s with
  | .next t => t.loop.transaction
  | .fault _ => none
  | .refused _ => none

theorem test_meets_LoopTakesWork : (twoDue 249).pending = [] ∧ (twoDue 249).loop.transaction = none ∧ (twoDue 249).loop.roomOwed = false ∧
    ((twoDue 249).loop.rows.map UnitRow.address).Pairwise (· < ·) := by decide
theorem test_work_urgent_then_polls : workTaken { twoDue 249 with loop := { (twoDue 249).loop with urgent := [aCancel] } } = some .broadcast ∧
    workTaken (twoDue 249) = some (.poll 8 .lamp 250) ∧ workTaken (twoDue 248) = none := by decide
theorem test_work_probes_then_ordinary :
    workTaken (withLoop (fun u => { u with reprobes := [5], survey := some ⟨.retrain, 7, 0, 1⟩ })) = some (.probe 5 .reprobe) ∧
    workTaken (withLoop (fun u => { u with survey := some ⟨.retrain, 7, 0, 1⟩ })) = some (.probe 7 .survey) ∧
    workTaken (withLoop (fun u => { u with ordinary := [aCancel] })) = some .broadcast := by decide
theorem test_meets_sweep : (withLoop (fun u => { u with sweepDue := true })).loop.sweepsNext 1 ∧ quiet.loop.sweepPosition = 31 ∧
    ∀ a, ¬(withLoop (fun u => { u with rows := u.rows.map (fun r => { r with present := true }) })).loop.absentAt a := by
  refine ⟨⟨⟨by decide, by decide, by decide⟩, fun _ _ => Nat.zero_le _⟩, rfl, fun a h => ?_⟩
  have key : ∀ a, a < 32 →
      ((withLoop (fun u => { u with rows := u.rows.map (fun r => { r with present := true }) })).loop.row a).map UnitRow.present ≠ some false := by decide
  exact key a (Nat.lt_succ_of_le h.2.1) h.2.2
theorem test_sweep_taken : workTaken (withLoop (fun u => { u with sweepDue := true })) = some (.probe 1 .sweep) ∧
    workTaken (withLoop (fun u => { withUnit 6 u with sweepDue := true, sweepPosition := 5 })) = some (.probe 7 .sweep) := by decide
theorem test_work_in_starting : workTaken (withLoop (fun u =>
    { u with state := .starting, reprobes := [5], survey := some ⟨.startUp, 7, 0, 0⟩, urgent := [aCancel] })) = some (.probe 7 .survey) := by decide

/-- A SET of unit 8 in URGENT, channel 1 at its output 1 with a SAFETY claim. -/
def setWaits : State :=
  { onLoop 8 0 none with
    loop := { (onLoop 8 0 none).loop with urgent := [⟨.set 8 .safety, false⟩] }
    settings := { quiet.settings with lights := { quiet.settings.lights with
      lamps := quiet.settings.lights.lamps.map (fun l => if l.num = 1 then { l with unit := 8, output := 1 } else l) } }
    light := { quiet.light with
      units := [⟨8, true, 2, .queued .safety (some .light), false⟩]
      lamps := quiet.light.lamps.map (fun l => if l.num = 1 then { l with safety := some ⟨100, 0⟩, current := 70, placed := true } else l) } }

theorem test_set_issued : workTaken setWaits = some (.set 8 [70, 0] true) ∧ (match step setWaits with
    | .next t => (t.light.lamp 1).bind (·.sent) == some 70 && (t.light.unit 8).any (fun u => u.refresh == .queued .safety none)
    | .fault _ => false
    | .refused _ => false) = true := by decide

/-- Address 8 PRESENT with its SET, or the READ of its held exchange, on the loop. -/
def exchange (x : Transaction) (changed : Option TrafficClass) : State :=
  { onLoop 8 0 (some x) with
    loop := { (onLoop 8 0 (some x)).loop with urgent := [⟨.set 8 .safety, true⟩] }
    light := { quiet.light with units := [⟨8, true, 8, .queued .safety changed, false⟩] } }

/-- The levels that the tests send. -/
def sent : List Nat := [100, 0]

theorem test_meets_SetAndRead : stillPresent 8 (exchange (.set 8 sent true) none) = true ∧ (exchange (.set 8 sent false) (some .light)).calm ∧
    (exchange (.read 8 sent) none).loop.transaction = some (.read 8 sent) ∧ sent.all (· ≤ 100) = true ∧
    ((exchange (.set 8 sent false) none).light.unit 8).map LightUnit.refresh = some (.queued .safety none) ∧
    (exchange (.set 8 sent false) (some .light)).awake ∧ (exchange (.set 8 sent true) none).awake ∧ (exchange (.read 8 sent) none).awake := by
  unfold State.calm State.awake State.idle; decide
theorem test_setAnswer : answers (.loopReply (frame 8 true .set (.setAnswer .taken) true)) (exchange (.set 8 sent false) none) (fun t =>
      !t.loop.holdsSet 8 && (t.light.unit 8).any (fun u => u.refresh == .clean)) = true ∧
    answers (.loopReply (frame 8 true .set (.setAnswer .refused) true)) (exchange (.set 8 sent false) none) (fun t =>
      t.loop.holdsSet 8 && (t.loop.row 8).any (fun r => r.room == .full)) = true := by decide
theorem test_heldExchange : answers (.loopReply (frame 8 true .set (.setAnswer .taken) true)) (exchange (.set 8 sent true) none) (fun t =>
      t.loop.transaction == some (.read 8 sent) && t.loop.holdsSet 8) = true ∧
    answers (.loopReply (frame 8 true .set (.setAnswer .takenFull) true)) (exchange (.set 8 sent false) (some .light)) (fun t =>
      (t.loop.row 8).any (fun r => r.room == .full) && (t.light.unit 8).any (fun u => u.refresh == .queued .light none)) = true := by decide
theorem test_readBack : answers (.loopReply (frame 8 true .read (.levels sent) true)) (exchange (.read 8 sent) none) (fun t =>
      !t.loop.holdsSet 8 && (t.light.unit 8).any (fun u => !u.retryUsed)) = true ∧
    answers (.loopReply (frame 8 true .read (.levels [99, 0]) true)) (exchange (.read 8 sent) none) (fun t =>
      (t.loop.row 8).any (fun r => r.faultsHeld == [.levelUnconfirmed]) && (t.light.unit 8).any (·.retryUsed)) = true := by decide
theorem test_readMissed : answers .replyWindowExpiry (exchange (.read 8 sent) none) (fun t => t.loop.transaction == some (.read 8 sent)) = true := by decide

/-- The same at its third miss. -/
def lastMiss (x : Transaction) : State :=
  { exchange x none with loop := { (onLoop 8 2 (some x)).loop with urgent := [⟨.set 8 .safety, true⟩] } }

theorem test_meets_misses : (lastMiss (.read 8 sent)).awake ∧ (lastMiss (.set 8 sent true)).awake ∧
    ((lastMiss (.read 8 sent)).loop.row 8).map UnitRow.misses = some 2 ∧ ((lastMiss (.read 8 sent)).settings.loopRow 8).expected = .lamp := by
  unfold State.awake State.idle; decide
theorem test_setMissed : answers .replyWindowExpiry (exchange (.set 8 sent true) none) (fun t => t.loop.holdsSet 8 &&
      (t.loop.row 8).any (fun r => r.present && r.misses == 1)) = true ∧
    answers (.loopReply (frame 8 true .set .malformed false)) (exchange (.set 8 sent true) none) (fun t => t.loop.holdsSet 8 &&
      (t.loop.row 8).any (fun r => r.misses == 1 && r.checkErrors == 1)) = true := by decide
theorem test_thirdMiss : answers .replyWindowExpiry (lastMiss (.read 8 sent)) (fun t => !t.loop.holdsSet 8 && t.loop.transaction.isNone &&
      (t.loop.row 8).any (fun r => !r.present && r.faultsHeld == [.unitAbsent]) && (t.light.unit 8).any (fun u => u.refresh == .clean)) = true ∧
    answers (.loopReply (frame 8 true .set .malformed false)) (lastMiss (.set 8 sent true)) (fun t => !t.loop.holdsSet 8 &&
      (t.loop.row 8).any (fun r => !r.present)) = true := by decide

/-- The read-back of channel 1 of unit 8, whose sent level is unknown already (a CONFIG has moved it there). -/
def movedDuringRead : State :=
  { exchange (.read 8 sent) none with
    settings := setWaits.settings
    light := { (exchange (.read 8 sent) none).light with lamps := quiet.light.lamps.map (fun l => if l.num = 1 then { l with safety := some ⟨100, 0⟩, placed := true } else l) } }

theorem test_verdict_marks_every_placed_channel : answers (.loopReply (frame 8 true .read (.levels [99, 0]) true)) movedDuringRead (fun t =>
    (t.light.unit 8).any (fun u => u.retryUsed && u.refresh == .queued .safety none) && t.loop.holdsSet 8) = true := by decide

/-- A probe of an address on the loop, where nothing is PRESENT. -/
def probing (a : Nat) : State := withLoop (fun u => { u with transaction := some (.probe a .sweep) })

theorem test_meets_Probe : ((probing 8).loop.row 8).any (fun r => !r.present && !r.faultsHeld.contains .unitKindMismatch) = true ∧
    (probing 8).loop.state = .running ∧ matchesExpected quiet.settings 8 .lamp 0 = true ∧ matchesExpected quiet.settings 8 .call 0 = false ∧
    (quiet.settings.loopRow 31).expected = .none ∧ (quiet.settings.callUnit 24).any (fun c => matchesExpected quiet.settings 24 .call c.area) = true := by
  decide
theorem test_probe_lamp : answers (.loopReply (frame 8 true .survey (.identity .lamp 8 0) true)) (probing 8) (fun t =>
      (t.loop.row 8).any (fun r => r.present && r.outputs == some 8 && r.nextPoll == some 0) && (t.light.unit 8).any (·.present)) = true ∧
    answers (.loopReply (frame 8 true .survey (.identity .call 0 0) true)) (probing 8) (fun t =>
      (t.loop.row 8).any (fun r => !r.present && r.faultsHeld == [.unitKindMismatch])) = true := by decide
theorem test_probe_others : answers (.loopReply (frame 31 true .survey (.identity .lamp 8 0) true)) (probing 31) (fun t =>
      (t.loop.row 31).any (fun r => !r.present && r.faultsHeld == [.unexpectedUnit])) = true ∧
    answers (.loopReply (frame 24 true .survey (.identity .call 0 ((quiet.settings.callUnit 24).elim 0 (·.area))) true)) (probing 24) (fun t =>
      t.calls.reachable.map (·.address) == [24]) = true ∧
    answers .replyWindowExpiry (probing 8) (fun t => (t.loop.row 8).any (fun r => !r.present && r.found == .none)) = true := by decide

theorem test_meets_Found : stillPresent 8 (onLoop 8 2 (some (.probe 8 .reprobe))) = true ∧
    ((onLoop 8 2 (some (.probe 8 .reprobe))).loop.row 8).map UnitRow.outputs = some none := by decide
theorem test_found_again : answers (.loopReply (frame 8 true .survey (.identity .lamp 4 0) true)) (onLoop 8 2 (some (.probe 8 .reprobe))) (fun t =>
      (t.loop.row 8).any (fun r => r.present && r.misses == 0 && r.outputs == some 4) && (t.light.unit 8).any (fun u => u.outputs == 4)) = true ∧
    answers (.loopReply (frame 8 true .survey (.identity .call 0 0) true)) (onLoop 8 2 (some (.probe 8 .reprobe))) (fun t =>
      (t.loop.row 8).any (fun r => !r.present && r.faultsHeld == [.unitKindMismatch])) = true := by decide
theorem test_found_missed : answers .replyWindowExpiry (onLoop 8 1 (some (.probe 8 .reprobe))) (fun t =>
      (t.loop.row 8).any (fun r => r.present && r.misses == 2)) = true ∧
    answers (.loopReply (frame 8 true .survey .malformed false)) (onLoop 8 2 (some (.probe 8 .reprobe))) (fun t =>
      (t.loop.row 8).any (fun r => !r.present && r.faultsHeld == [.unitAbsent] && r.checkErrors == 1)) = true := by decide

/-- `quiet` at the end of its survey period. -/
def periodEnds : State := { quiet with uptime := quiet.loop.periodBegan + quiet.loop.periodLength }

theorem test_surveyPeriodEnd :
    answers .surveyPeriodEnd periodEnds (fun t => t.loop.periodBegan == periodEnds.uptime && t.loop.checkErrors == 0) = true := by decide
theorem test_meets_period : stands periodEnds (fun s => s.loop.transaction.isNone && s.loop.survey.isNone && s.loop.periodBegan + s.loop.periodLength ≤ s.uptime) = true := by
  decide
theorem test_sweep_due : answers .surveyPeriodEnd periodEnds (fun t => t.loop.transaction == some (.probe 1 .sweep) && t.loop.sweepPosition == 1) = true ∧
    answers .surveyPeriodEnd { periodEnds with loop := { periodEnds.loop with transaction := some .broadcast } } (fun t => t.loop.sweepDue) = true := by
  decide
theorem test_retrainLoop : meets .stage .retrainLoop quiet (fun _ => true) = true ∧
    answers (.retrainLoop .stage 1#8) quiet (fun t => t.loop.survey == some ⟨.retrain, 1, 0, 1⟩ && t.loop.rate == .fast) = true := by decide

/-! ## The Port Units -/

/-- A request frame of tag 5. -/
def aRequest : PortFrame := ⟨5#8, .request .identify, [], true⟩

theorem test_frame_errors : answers (.badSync .stage) quiet (fun t => t.ports.stage.frameErrors == 1) = true ∧
    answers (.badLength .front) quiet (fun t => t.ports.front.frameErrors == 1) = true ∧
    answers (.incomplete .front) quiet (fun t => t.ports.front.frameErrors == 1) = true ∧
    answers (.badCheck .stage) quiet (fun t => t.ports.stage.frameErrors == 1) = true ∧
    answers (.badFraming .stage) quiet (fun t => t.ports.stage.frameErrors == 1) = true := by decide
theorem test_meets_FramesReceived : (withIntake [held .replyQueued]).awake ∧ (withIntake (List.replicate 4 (held .waiting))).awake ∧
    answerOwn (withIntake [held .replyQueued]).ports.stage.intake = ([held .replyQueued], []) ∧ quiet.settings.ports.frontFitted = true ∧
    answerOwn (withIntake [held .withOwner]).ports.stage.intake = ([held .withOwner], []) ∧ (withIntake [held .withOwner]).awake := by
  unfold State.awake State.idle; decide
theorem test_own_answers : answers (.receivedFrame .stage { aRequest with kind := .unknown 3#8 }) (withIntake [held .replyQueued]) (fun t =>
      t.ports.stage.queue == [.reply 5#8 (.refused .unknownKind)]) = true ∧
    answers (.receivedFrame .stage { aRequest with lengthAllowed := false }) (withIntake [held .withOwner]) (fun t =>
      t.ports.stage.queue.isEmpty && t.ports.stage.intake == [held .withOwner, { held .waiting with answer := some .invalid }]) = true := by decide
theorem test_refusals_bounded : addRefusal 9#8 (List.replicate 24 0#8) = List.replicate 24 0#8 ∧ addRefusal 9#8 [0#8] = [0#8, 9#8] := by decide
theorem test_receivedFrame :
    answers (.receivedFrame .stage aRequest) (withIntake (List.replicate 4 (held .waiting))) (fun t => t.ports.stage.fullRefusals == 1) = true ∧
    answers (.receivedFrame .stage aRequest) (withIntake [held .replyQueued]) (fun t => t.ports.stage.intake == [held .replyQueued, held .waiting]) = true := by
  decide
/-- Two requests held and a flow notice pending, the output queue being sent. -/
def flowPending (f : Option PendingFlow) (heldOff : Bool) (l : List IntakeEntry) : State :=
  { quiet with ports := { quiet.ports with stage := { quiet.ports.stage with
      intake := l, heldOff := heldOff, flow := f, sending := some .queued, queue := [.reply 5#8 .accepted] } } }

theorem test_meets_flow : (flowPending none false [held .replyQueued, held .waiting]).awake ∧
    (flowPending (some ⟨.resume, 1, 0⟩) false [held .replyQueued, held .waiting]).awake ∧
    (flowPending (some ⟨.holdOff, 3, 0⟩) true [held .replyQueued, held .waiting]).awake ∧
    answerOwn [held .replyQueued, held .waiting] = ([held .replyQueued, held .waiting], []) := by unfold State.awake State.idle; decide
theorem test_flow_raised : answers (.receivedFrame .stage aRequest) (flowPending none false [held .replyQueued, held .waiting]) (fun t =>
      t.ports.stage.heldOff && t.ports.stage.flow == some ⟨.holdOff, 3, 0⟩) = true ∧
    answers (.frameSent .stage) (flowPending none true [held .replyQueued, held .waiting]) (fun t =>
      !t.ports.stage.heldOff && t.ports.stage.sending == some (.flow ⟨.resume, 1, 0⟩)) = true := by decide
theorem test_flow_cancelled : answers (.receivedFrame .stage aRequest) (flowPending (some ⟨.resume, 1, 0⟩) false [held .replyQueued, held .waiting])
      (fun t => t.ports.stage.heldOff && t.ports.stage.flow.isNone) = true ∧
    answers (.frameSent .stage) (flowPending (some ⟨.holdOff, 3, 0⟩) true [held .replyQueued, held .waiting]) (fun t =>
      !t.ports.stage.heldOff && t.ports.stage.flow.isNone) = true := by decide
theorem test_requestPassedOn : answers (.requestPassedOn .stage) (withIntake [held .replyQueued, held .waiting]) (fun t =>
    t.ports.stage.intake == [held .replyQueued, held .withOwner]) = true := by decide
theorem test_meets_FrameSent : (sendingState [.notice 0 .alarmReset] .queued).awake ∧ (sendingState [.reply 5#8 .accepted] .queued).awake ∧
    (sendingState [] .fullRefusal).awake ∧ (sendingState [] (.flow ⟨.resume, 1, 0⟩)).awake := by unfold State.awake State.idle; decide
theorem test_frameSent : answers (.frameSent .stage) (sendingState [.notice 0 .alarmReset] .queued) (fun t => t.ports.stage.queue.isEmpty) = true ∧
    answers (.frameSent .stage) (sendingState [] .fullRefusal) (fun t => t.ports.stage.refusals.isEmpty) = true ∧
    answers (.frameSent .stage) (sendingState [] (.flow ⟨.resume, 1, 0⟩)) (fun t => t.ports.stage.sending == some .fullRefusal) = true := by decide
theorem test_subscribe : meets .front .subscribe quiet (fun _ => familiesKnown [(some .loop, true)] && !familiesKnown []) = true ∧
    answers (.subscribe .front 1#8 [(some .loop, true)]) quiet (fun t => t.settings.ports.frontSubs.loop) = true := by decide

/-! ## The settings store -/

theorem test_meets_Config : meets .stage .config quiet (fun s => (gateConfig (some .channels) [.channelZone 1 3] s).isNone) = true ∧
    meets .stage .storeSection quiet (fun s => (gateStore (some .zones) s).isNone) = true ∧
    meets .stage .restart quiet (fun s => (gateRestart s).isNone) = true := by decide
theorem test_meets_FrontMayNot : meets .front .restart quiet (fun _ => true) = true ∧ meets .front .isolate quiet (fun _ => true) = true ∧
    meets .front .curtainDisplay quiet (fun _ => true) = true ∧ (Instr.restart .front 1#8).request = some (.front, 1#8, .restart) := by decide
theorem test_config : answers (.config .stage 1#8 (some .channels) [.channelZone 1 3]) quiet (fun t => (t.settings.channel 1).zone == 3) = true := by decide
theorem test_meets_applied : meets .stage .config quiet (fun s => (gateConfig (some .loop) [.expectedKind 8 .none] s).isNone &&
      (gateConfig (some .lights) [.lampRest 1 30, .lampUnit 2 7] s).isNone && (s.light.lamp 1).any (fun l => l.unclaimed && l.target == .level 100)) = true ∧
    quiet.calm ∧ quiet.numbered := by unfold State.calm State.numbered; decide
theorem test_config_channel : answers (.config .stage 1#8 (some .channels) [.channelType 1 .notUsed]) (cutChannel .loopReset .off) (fun t =>
    (t.scanner.record 1).any (fun c => c.supply && c.cut.isNone && c.state == .notUsed)) = true := by decide
theorem test_config_loop : answers (.config .stage 1#8 (some .loop) [.expectedKind 8 .none]) (polling 0) (fun t =>
    (t.loop.row 8).any (fun r => !r.present && r.room == .room) && t.loop.reprobes == [8]) = true := by decide
theorem test_late_room_forgotten : answers (.config .stage 1#8 (some .loop) [.expectedKind 8 .none])
      (withLoop (fun u => { u with rows := u.rows.map (fun r => if r.address = 8 then { r with room := .full } else r) })) (fun t =>
    (t.loop.row 8).any (fun r => r.room == .room)) = true := by decide
theorem test_config_lights : answers (.config .stage 1#8 (some .lights) [.lampRest 1 30, .lampUnit 2 7]) quiet (fun t =>
    (t.light.lamp 1).any (fun l => l.current == 30 && l.fade.isNone) && (t.light.lamp 2).any (fun l => l.sent.isNone && !l.placed)) = true := by decide
theorem test_getConfig_items : (sectionItems quiet.settings .zones).length = 13 ∧ (sectionItems quiet.settings .lights).length = 48 + 16 + 7 ∧
    (sectionItems quiet.settings .calls).length = 16 + 6 + 6 ∧ (sectionItems quiet.settings .loop).length = 31 + 5 ∧
    sectionItems quiet.settings .curtain = [] ∧ (sectionFields quiet.settings .curtain).length = 10 := by decide
theorem test_meets_refused : meets .stage .config quiet (fun s => gateConfig none [.grace 5] s == some .invalid) = true ∧
    meets .stage .config (during .prepare 5) (fun s => gateConfig none [.grace 5] s == some .wrongPhase) = true ∧
    meets .stage .storeSection quiet (fun s => gateStore none s == some .invalid) = true := by decide
theorem test_config_of_no_section : answers (.config .stage 1#8 none [.grace 5]) quiet (fun t =>
    t.ports.stage.queue == [.reply 1#8 (.refused .invalid)] && t.settings == quiet.settings) = true := by decide
theorem test_storeSection : answers (.storeSection .stage 1#8 (some .zones)) quiet (fun t => t.store.operation.isSome) = true := by decide
theorem test_storeWriteEnd :
    answers .storeWriteEnd { quiet with store := { quiet.store with operation := some ⟨.zones, quiet.settings.value .zones, 0⟩ } } (fun t =>
    t.store.operation.isNone && t.store.rows.any (fun r => r.name == .zones && r.stored == .valid) &&
      t.ports.stage.queue == [.notice 0 (.storeDone .zones 0)]) = true ∧
    answers .storeWriteEnd { quiet with
      store := { quiet.store with operation := some ⟨.zones, quiet.settings.value .zones, 0⟩ }, sup := State.reset.sup } (fun t =>
      t.sup.entries.all (fun e => e.source != .store .zones || e.state == .cleared)) = true := by decide
theorem test_restart : answers (.restart .stage 1#8) quiet (fun t => t.ports.stage.queue == [.reply 1#8 (.done .restart)]) = true ∧
    answers (.frameSent .stage) (sendingState [.reply 1#8 (.done .restart)] .queued) (fun t =>
      t.startStep == .survey && t.curtain.state == .up && t.curtain.position == some 20000) = true := by decide

/-! ## The frames -/

theorem test_portFrame : readPortFrame ((portFrame 0x21#8 0x05#8 [1#8, 2#8]).drop 1) = .received 0x21#8 0x05#8 [1#8, 2#8] ∧
    readPortFrame [121#8] = .badLength ∧ readPortFrame [0#8, 1#8] = .incomplete ∧ readPortFrame [0#8, 1#8, 2#8, 0#8, 0#8] = .badCheck := by decide
theorem test_frame_heads : (OutFrame.notice 3 .alarmReset).head = ⟨.notice, 0⟩ ∧ (OutFrame.reply 7#8 .accepted).head = ⟨.reply, 7#8⟩ ∧
    frameClass 63#8 = some .request ∧ frameClass 64#8 = some .reply ∧ frameClass 191#8 = some .notice ∧ frameClass 192#8 = none := by decide
/-- R158: the POLL of unit 8, LAST set; the held SET of its two outputs, LAST clear; the CANCEL of serials 4 and 9. The check bytes are those of
CRC-16/CCITT-FALSE (log entry 32), computed outside the model. -/
theorem test_controller_frames : (polling 0).loop.controllerFrame = some [0x08#8, 0x81#8, 0x00#8, 0x4D#8, 0x94#8] ∧
    (exchange (.set 8 sent true) none).loop.controllerFrame = some [0x08#8, 0x02#8, 0x02#8, 0x64#8, 0x00#8, 0x57#8, 0xC7#8] ∧
    cancelFrame [4, 9] = [0x00#8, 0x85#8, 0x02#8, 0x04#8, 0x09#8, 0x43#8, 0xFC#8] ∧ quiet.loop.controllerFrame = none := by decide

/-- R158, R159: the CALL on the loop, up to its serial, and its base area and free mask; the codes between are free values (log entry 7). -/
theorem test_call_frame : broadcasting.loop.controllerFrame.map (·.take 4) = some [0x00#8, 0x84#8, 0x06#8, 0x01#8] ∧
    (callFrame ⟨1, .showing, .chime 3, ⟨8, 1⟩⟩).length = 11 ∧
    ((callFrame ⟨1, .showing, .chime 3, ⟨8, 1⟩⟩).drop 6).take 3 = [0x03#8, 0x08#8, 0x01#8] := by decide

/-- R158: the reply of call unit 24 to its POLL, serial 4, GOOD set; the same cut short, and with another address or kind. -/
theorem test_reply_read :
    let f : LoopFrame := ⟨[0x18#8, 0x61#8, 0x02#8, 0x04#8, 0x07#8, 0xEA#8, 0x5E#8], .progress .finished⟩
    judgeFrame (.poll 24 .call 0) f = .valid (.callPoll 4 .finished) true ∧ judgeFrame (.poll 24 .call 0) { f with bytes := f.bytes.dropLast } = .garbled ∧
    judgeFrame (.poll 23 .call 0) f = .garbled ∧ judgeFrame (.probe 24 .sweep) f = .garbled ∧
    judgeFrame (.poll 24 .call 0) { f with word := .meaningless } = .garbled := by decide
theorem test_check_value : crc [0x31#8, 0x32#8, 0x33#8, 0x34#8, 0x35#8, 0x36#8, 0x37#8, 0x38#8, 0x39#8] = 0x29B1#16 := by decide

end Sys2Proof.Tests
end

/-! What a step can do: it secures the invariants, asserts RESET_N, or begins start-up; and from it R11 and R13 as invariants. -/

namespace Sys2Proof.Machine

/-! ## A change of phase -/

/-- After the record and its notices, a change of phase hands off to blocks that keep everything. -/
theorem changePhase_afterRecord (c : PhaseChange) (s : State) : Keeps (enterRecord c s) (changePhase c s) := by
  unfold changePhase; dsimp only
  exact ((((((Keeps.refl _).handClear _ _ _).handClear _ _ _).callsPhaseEntry _).onField _).handStart _ _).handStart _ _

/-- The notices of a change of phase keep everything that the changed record keeps. -/
theorem enterRecord_afterPerf (c : PhaseChange) (s : State) : Keeps { s with perf := s.perf.after c s.uptime } (enterRecord c s) := by
  unfold enterRecord; dsimp only
  exact (((((((Keeps.refl _).notify _ _).noticeClearanceEnd _ _ _).noticeClearanceEnd _ _ _).noticeCountdownClear _ _ _).noticeCountdownClear
    _ _ _).noticeCountdownStart _ _).noticeCountdownStart _ _

/-- R11, R13: a change of phase that enters SHOW only with the curtain UP, and leaves EVACUATION only with no entry at GENERAL. -/
theorem Secures.changePhase (c : PhaseChange) (s : State) (hShow : c.target = .inShow → s.curtain.state = .up)
    (hGeneral : s.generalSafe → s.anyGeneral = true → c.target = .evacuation) : Secures s (changePhase c s) := by
  refine Secures.lift ((enterRecord_afterPerf c s).trans (changePhase_afterRecord c s))
    ⟨rfl, rfl, id, id, id, fun _ _ h => hShow h, fun h hg => ?_⟩
  exact ⟨hGeneral h hg, (h hg).2⟩

/-- R3: the request a judgement accepts is one of the table, from a port that may make it, with its fields in range and its gates passed. -/
theorem judgePhase_none_iff (p : Port) (target : Phase) (countdown length : Option Nat) (override : Bool) (s : State) :
    judgePhase p target countdown length override s = none ↔
      requestable s.perf.phase target = true ∧ authorised s.settings.ports.frontFitted p s.perf.phase target = true ∧
        fieldsInRange s.perf.phase target countdown length = true ∧ phaseGates s.perf.phase target override s = none := by
  unfold judgePhase; dsimp only
  split_ifs <;> simp_all

theorem gate_none_iff (ok : Bool) (r : Reason) : gate ok r = none ↔ ok = true := by
  cases ok <;> simp [gate]

/-- R3 test 4, R11: the gates of a transition into SHOW ask for the curtain UP. -/
theorem phaseGates_toShow {a : Phase} {override : Bool} {s : State} (hr : requestable a .inShow = true)
    (hg : phaseGates a .inShow override s = none) : s.curtain.state = .up := by
  cases a <;> simp_all [requestable, phaseGates, gate_none_iff]

/-- R3 test 4, R13: the gates of a transition out of EVACUATION ask for an empty alarm list. -/
theorem phaseGates_fromEvacuation {b : Phase} {override : Bool} {s : State} (hr : requestable .evacuation b = true)
    (hg : phaseGates .evacuation b override s = none) : s.alarm.entries = [] := by
  cases b <;> simp_all [requestable, phaseGates, gate_none_iff]

/-- The transition that a PHASE request makes is to the phase it names. -/
@[simp] theorem phaseEffects_target (a b : Phase) (cause : PhaseCause) (countdown length : Option Nat) (v : Settings) (r : PerfRecord) :
    (phaseEffects a b cause countdown length v r).target = b := by
  unfold phaseEffects; split <;> rfl

/-- R11, R13: an accepted PHASE request. -/
theorem Secures.performPhase {p : Port} {target : Phase} {countdown length : Option Nat} {override : Bool} {s : State}
    (h : judgePhase p target countdown length override s = none) : Secures s (performPhase p target countdown length s) := by
  obtain ⟨hr, -, -, hg⟩ := (judgePhase_none_iff ..).1 h
  refine Secures.lift ((Keeps.refl _).handNumber _ _) (Secures.changePhase _ s (fun ht => ?_) fun hs ha => ?_)
  · rw [phaseEffects_target] at ht; subst ht
    exact phaseGates_toShow hr hg
  · rw [(hs ha).1] at hr hg
    have he := phaseGates_fromEvacuation hr hg
    simp [State.anyGeneral, he] at ha

theorem execPhase_keeps (p : Port) (tag : Tag) (target : Phase) (countdown length : Option Nat) (override : Bool) (s : State) :
    ∃ out, Machine.execPhase p tag target countdown length override s = .next out ∧ Secures s out := by
  refine Secures.request fun s => ?_
  split
  · exact (Secures.refl s).refuse _ _ _
  · rename_i h
    exact (Secures.performPhase h).done _ _

/-! ## Start-up -/

theorem Keeps.raiseLost {s0 s : State} (h : Keeps s0 s) : Keeps s0 (Machine.raiseLost s) :=
  Keeps.foldl _ (fun _ _ _ h => h.raiseFault _ _) _ h

theorem Keeps.raiseIsolated {s0 s : State} (h : Keeps s0 s) : Keeps s0 (Machine.raiseIsolated s) :=
  Keeps.foldl _ (fun _ _ _ h => h.raiseFault _ _) _ (Keeps.foldl _ (fun _ _ _ h => h.raiseFault _ _) _ h)

theorem Keeps.restartNotice {s0 s : State} (d : Option DisplayStep) (h : Keeps s0 s) : Keeps s0 (Machine.restartNotice d s) := by
  unfold Machine.restartNotice; split
  · exact h.curtainNotice _
  · exact h

theorem startUp_afterRebuild (c : Curtain) (s : State) : Keeps (rebuild c s) (settle (startUp c s)) :=
  (Keeps.refl _).raiseLost.raiseIsolated.settle

theorem restart_afterRebuild (s : State) : Keeps (rebuild (restartCurtain s.curtain) s) (settle (restartController s)) :=
  ((Keeps.refl _).restartNotice _).raiseLost.raiseIsolated.settle

theorem unresolvedWith_sound (last : Option Nat) : (unresolvedWith last).sound := ⟨rfl, rfl, rfl, fun h => absurd rfl h⟩

/-- R72, R100: the curtain kept through a RESTART keeps its outputs. -/
theorem restartCurtain_sound (c : Curtain) (h : c.sound) : (restartCurtain c).sound := by
  obtain ⟨hhold, -, -, -⟩ := h
  unfold restartCurtain
  split
  · rename_i hk
    refine ⟨hhold, ?_, ?_, fun _ => rfl⟩ <;> cases hs : c.state <;> simp_all [keptState, Curtain.unresolved]
  · exact unresolvedWith_sound _

/-! ## What a command can do -/

/-- Start-up has begun in a step from `s`: the state came from the first steps of it, with a curtain record that is sound if that of `s` is. -/
def Begins (s t : State) : Prop := ∃ c b, (s.curtain.sound → Curtain.sound c) ∧ Keeps (rebuild c b) t

/-- Start-up leaves the phase DARK. -/
theorem Begins.showUp {s t : State} (h : Begins s t) (hs : s.curtain.sound) : t.showSafe := by
  obtain ⟨c, b, hc, hk⟩ := h
  exact hk.showUp (hc hs) (fun hp => by cases hp)

/-- Start-up leaves the alarm list empty. -/
theorem Begins.general {s t : State} (h : Begins s t) : t.generalSafe := by
  obtain ⟨c, b, -, hk⟩ := h
  exact hk.general (fun hg => by cases hg)

/-- What a command leaves behind: it secures the invariants, it asserts RESET_N, or start-up has begun. -/
def Outcomes (s t : State) : Prop := Secures s t ∨ t = assertReset s ∨ Begins s t

theorem execFrameSent_outcomes (p : Port) (s : State) : ∃ t, execFrameSent p s = .next t ∧ Outcomes s t := by
  by_cases hr : s.resetHeld = false ∧ (s.port p).sendsRestart = true
  · refine ⟨_, ?_, .inr (.inr ⟨_, s, restartCurtain_sound _, restart_afterRebuild s⟩)⟩
    simp [execFrameSent, command, hr]
  · suffices ∃ t, execFrameSent p s = .next t ∧ Secures s t from this.imp fun _ h => ⟨h.1, .inl h.2⟩
    unfold execFrameSent command
    split
    · exact ⟨s, rfl, Secures.refl s⟩
    · rename_i hh
      dsimp only
      rw [if_neg fun hs => hr ⟨by simpa using hh, hs⟩]
      exact ⟨_, rfl, Secures.lift (Keeps.refl _).settle ((Secures.refl s).mapPort p _ frameDone_bounded)⟩

/-- Every command's outcome. -/
theorem exec_outcomes (c : Instr) (s : State) : ∃ t, exec c s = .next t ∧ Outcomes s t := by
  have keeps : (∃ t, exec c s = .next t ∧ Secures s t) → ∃ t, exec c s = .next t ∧ Outcomes s t :=
    Exists.imp fun _ h => ⟨h.1, .inl h.2⟩
  cases c with
  | powerOn => exact ⟨_, rfl, .inr (.inr ⟨_, _, fun _ => unresolvedWith_sound none, startUp_afterRebuild _ _⟩)⟩
  | resetNAsserted =>
    refine ⟨_, rfl, ?_⟩
    split
    · exact .inl (Secures.refl s)
    · exact .inr (.inl rfl)
  | resetNReleased =>
    refine ⟨_, rfl, ?_⟩
    split
    · exact .inr (.inr ⟨_, _, fun _ => unresolvedWith_sound _, startUp_afterRebuild _ _⟩)
    · exact .inl (Secures.refl s)
  | frameSent p => exact execFrameSent_outcomes p s
  | phase p tag target countdown length override => exact keeps (execPhase_keeps ..)
  | receivedFrame => exact keeps (execReceivedFrame_keeps ..)
  | badSync => exact keeps (execBadSync_keeps ..)
  | badLength => exact keeps (execBadLength_keeps ..)
  | incomplete => exact keeps (execIncomplete_keeps ..)
  | badCheck => exact keeps (execBadCheck_keeps ..)
  | badFraming => exact keeps (execBadFraming_keeps ..)
  | requestPassedOn => exact keeps (execRequestPassedOn_keeps ..)
  | giveClearance => exact keeps (execGiveClearance_keeps ..)
  | withdrawClearance => exact keeps (execWithdrawClearance_keeps ..)
  | setCountdown => exact keeps (execSetCountdown_keeps ..)
  | setCountdownClear => exact keeps (execSetCountdownClear_keeps ..)
  | extendInterval => exact keeps (execExtendInterval_keeps ..)
  | performanceStatus p tag first => exact keeps (execPerformanceStatus_keeps p tag first s)
  | clearanceLapse => exact keeps (execClearanceLapse_keeps ..)
  | uptimeAdvance => exact keeps (execUptimeAdvance_keeps ..)
  | countdownReachesZero => exact keeps (execCountdownReachesZero_keeps ..)
  | visit => exact keeps (execVisit_keeps ..)
  | offTimeEnd => exact keeps (execOffTimeEnd_keeps ..)
  | blankingEnd => exact keeps (execBlankingEnd_keeps ..)
  | verificationWindowEnd => exact keeps (execVerificationWindowEnd_keeps ..)
  | isolate => exact keeps (execIsolate_keeps ..)
  | restore => exact keeps (execRestore_keeps ..)
  | readChannel => exact keeps (execReadChannel_keeps ..)
  | acknowledge => exact keeps (execAcknowledge_keeps ..)
  | cancel => exact keeps (execCancel_keeps ..)
  | silence => exact keeps (execSilence_keeps ..)
  | evacuate => exact keeps (execEvacuate_keeps ..)
  | resetAlarms => exact keeps (execResetAlarms_keeps ..)
  | alarmList => exact keeps (execAlarmList_keeps ..)
  | ackWindowExpiry => exact keeps (execAckWindowExpiry_keeps ..)
  | investigationWindowExpiry => exact keeps (execInvestigationWindowExpiry_keeps ..)
  | curtainLower => exact keeps (execCurtainLower_keeps ..)
  | curtainRaise => exact keeps (execCurtainRaise_keeps ..)
  | curtainStop => exact keeps (execCurtainStop_keeps ..)
  | curtainDropTest => exact keeps (execCurtainDropTest_keeps ..)
  | curtainClearFault => exact keeps (execCurtainClearFault_keeps ..)
  | curtainStatus p tag first => exact keeps (execCurtainStatus_keeps p tag first s)
  | curtainHold => exact keeps (execCurtainHold_keeps ..)
  | curtainDisplay => exact keeps (execCurtainDisplay_keeps ..)
  | limitBottomActive => exact keeps (execLimitBottomActive_keeps ..)
  | limitBottomLost => exact keeps (execLimitBottomLost_keeps ..)
  | limitTopActive => exact keeps (execLimitTopActive_keeps ..)
  | limitTopLost => exact keeps (execLimitTopLost_keeps ..)
  | encoderStep => exact keeps (execEncoderStep_keeps ..)
  | motionWatchEnd => exact keeps (execMotionWatchEnd_keeps ..)
  | settingLineChange => exact keeps (execSettingLineChange_keeps ..)
  | releaseExpiry => exact keeps (execReleaseExpiry_keeps ..)
  | graceEnd => exact keeps (execGraceEnd_keeps ..)
  | dropOverdue => exact keeps (execDropOverdue_keeps ..)
  | dwellEnd => exact keeps (execDwellEnd_keeps ..)
  | emergReleaseAsserted => exact keeps (execEmergReleaseAsserted_keeps ..)
  | emergReleaseReleased => exact keeps (execEmergReleaseReleased_keeps ..)
  | manualLevel => exact keeps (execManualLevel_keeps ..)
  | manualLevelRelease => exact keeps (execManualLevelRelease_keeps ..)
  | goPreset => exact keeps (execGoPreset_keeps ..)
  | lightStatus => exact keeps (execLightStatus_keeps ..)
  | fadeAdvance => exact keeps (execFadeAdvance_keeps ..)
  | fadeEnd => exact keeps (execFadeEnd_keeps ..)
  | flashClockHalf => exact keeps (execFlashClockHalf_keeps ..)
  | placeCall => exact keeps (execPlaceCall_keeps ..)
  | withdrawCall => exact keeps (execWithdrawCall_keeps ..)
  | callStatus => exact keeps (execCallStatus_keeps ..)
  | callTimeLimit => exact keeps (execCallTimeLimit_keeps ..)
  | acknowledgeFault => exact keeps (execAcknowledgeFault_keeps ..)
  | acknowledgeFaultLost => exact keeps (execAcknowledgeFaultLost_keeps ..)
  | faultList => exact keeps (execFaultList_keeps ..)
  | loopReply => exact keeps (execLoopReply_keeps ..)
  | replyWindowExpiry => exact keeps (execReplyWindowExpiry_keeps ..)
  | loopBroadcastSent => exact keeps (execLoopBroadcastSent_keeps ..)
  | pollDue => exact keeps (execPollDue_keeps ..)
  | surveyPeriodEnd => exact keeps (execSurveyPeriodEnd_keeps ..)
  | retrainLoop => exact keeps (execRetrainLoop_keeps ..)
  | unitTable => exact keeps (execUnitTable_keeps ..)
  | subscribe => exact keeps (execSubscribe_keeps ..)
  | portStatus => exact keeps (execPortStatus_keeps ..)
  | portStatusReadAndClear => exact keeps (execPortStatusReadAndClear_keeps ..)
  | identify => exact keeps (execIdentify_keeps ..)
  | config => exact keeps (execConfig_keeps ..)
  | getConfig => exact keeps (execGetConfig_keeps ..)
  | storeSection => exact keeps (execStoreSection_keeps ..)
  | storeWriteEnd => exact keeps (execStoreWriteEnd_keeps ..)
  | restart => exact keeps (execRestart_keeps ..)

/-- A step's outcome, once its command has been taken from the queue. -/
theorem step_outcomes (s t : State) (h : step s = .next t) :
    ∃ q, Outcomes (s.withPending q) t := by
  unfold step at h
  split at h
  · refine ⟨s.pending, .inl ?_⟩
    cases h
    show Secures s (idleTick s)
    unfold idleTick
    split
    · exact ((Keeps.refl s).mapClock _).keepsG.secures
    · exact ((Keeps.refl s).mapClock _).settle.keepsG.secures
  · rename_i c q _
    obtain ⟨u, hu, ho⟩ := exec_outcomes c (s.withPending q)
    rw [h] at hu; cases hu
    exact ⟨q, ho⟩

/-- Settles O7: R11 as an invariant of the step. -/
theorem showKeepsCurtainUp : Obligations.ShowKeepsCurtainUp := by
  intro s t hc hs h ht
  obtain ⟨q, hk | rfl | hb⟩ := step_outcomes s t h
  · exact hk.showUp hc (hs (hk.held.symm.trans ht))
  · cases ht
  · exact hb.showUp hc

/-- Settles O8: R13 and R59 as an invariant of the step. -/
theorem generalAlarmHoldsEvacuation : Obligations.GeneralAlarmHoldsEvacuation := by
  intro s t hs h ht
  obtain ⟨q, hk | rfl | hb⟩ := step_outcomes s t h
  · exact hk.general (hs (hk.held.symm.trans ht))
  · cases ht
  · exact hb.general

end Sys2Proof.Machine

/-! Requests that are with their owner, on a controller with no event under way: the judgement of PHASE (R3), the clearances (R15 to R17), the status replies (R22, R86), and the state after reset. -/

namespace Sys2Proof.Machine

/-! ## The end of a command -/

/-- A command on a controller that takes commands. -/
theorem command_next {s : State} (f : State → State) (h : s.resetHeld = false) : command f s = .next (settle (f s)) := by
  rw [command, h]; rfl

/-- R180: a request that is with its owner is taken by it. -/
theorem request_owned {p : Port} {tag : Tag} {k : RequestKind} {s : State} (f : State → State) (h : s.resetHeld = false)
    (ho : s.owns p tag k = true) : request p tag k f s = .next (settle (f s)) := by
  rw [request, command_next _ h, bring_of_owns ho, if_pos ho]

/-- On an idle controller a reply has only its frame to send. -/
theorem settle_reply (p : Port) (tag : Tag) (o : ReplyOutcome) {s : State} (h : s.idle) : settle (reply p tag o s) = transmit (reply p tag o s) :=
  settle_frames s _ h rfl rfl rfl rfl rfl

/-- R181: on an idle controller a request answered with nothing done sends its reply alone. -/
theorem request_replied {p : Port} {tag : Tag} {k : RequestKind} {s : State} {f : State → State} {o : ReplyOutcome} (h : s.awake)
    (ho : s.owns p tag k = true) (hf : f s = reply p tag o s) : request p tag k f s = .next (transmit (reply p tag o s)) := by
  rw [request_owned f h.1 ho, hf, settle_reply p tag o h.2]

/-! ## PHASE -/

/-- R3 test 1: the table of transitions that may be requested. -/
theorem requestable_iff (a b : Phase) : requestable a b = true ↔
    (a, b) ∈ [(Phase.dark, Phase.prepare), (.prepare, .dark), (.prepare, .houseOpen), (.houseOpen, .inShow),
      (.inShow, .interval), (.interval, .inShow), (.inShow, .showStop), (.showStop, .inShow), (.inShow, .showOut), (.showStop, .showOut),
      (.interval, .showOut), (.showOut, .prepare), (.showOut, .dark), (.evacuation, .prepare), (.evacuation, .dark)] := by
  cases a <;> cases b <;> decide

/-- Settles O16: a refusal is a reply alone, and the first test refuses every pair outside the table. -/
theorem phaseRequestRefused : Obligations.PhaseRequestRefused := by
  intro s p tag target countdown length override h
  constructor
  · intro r ho hj
    show execPhase p tag target countdown length override s = _
    rw [execPhase, request_replied h ho]
    rw [hj]; rfl
  · intro hpair
    rw [judgePhase, if_pos fun hr => hpair ((requestable_iff _ _).1 hr)]

/-! ## Clearances -/

/-- On an idle controller a change of the performance record with its notice has only frames to send. -/
theorem settle_perf_notice {s : State} (h : s.idle) (f : Family) (n : Notice) (r : PerfRecord) :
    settle (notify f n { s with perf := r }) = transmit (notify f n { s with perf := r }) :=
  settle_frames s _ h (by simp) (by simp) (by simp) (by simp) (by simp)

/-- The same with a reply after the notice. -/
theorem settle_perf_notice_reply {s : State} (h : s.idle) (p : Port) (tag : Tag) (o : ReplyOutcome) (f : Family) (n : Notice) (r : PerfRecord) :
    settle (reply p tag o (notify f n { s with perf := r })) = transmit (reply p tag o (notify f n { s with perf := r })) :=
  settle_frames s _ h (by simp) (by simp) (by simp) (by simp) (by simp)

/-- R15: GIVE CLEARANCE. -/
theorem execGiveClearance_owned {s : State} {p : Port} {tag : Tag} (h : s.awake) (ho : s.owns p tag .giveClearance = true) :
    (mayGive p s.perf.phase = true → exec (.giveClearance p tag) s = .next (transmit (reply p tag (.done .empty)
      (notify .clearance (.clearance (clearanceOf p) (if (s.perf.clearance (clearanceOf p)).isSome then .refreshed else .given) s.uptime)
        { s with perf := s.perf.setClearance (clearanceOf p) (some s.uptime) })))) ∧
    (mayGive p s.perf.phase = false → exec (.giveClearance p tag) s = .next (transmit (reply p tag (.refused .wrongPhase) s))) := by
  constructor
  · intro hm
    show execGiveClearance p tag s = _
    rw [execGiveClearance, request_owned _ h.1 ho, if_pos hm]
    exact congrArg Host.Outcome.next (settle_perf_notice_reply h.2 ..)
  · intro hm
    show execGiveClearance p tag s = _
    rw [execGiveClearance, request_replied h ho]
    rw [hm]; rfl

/-- R16: WITHDRAW CLEARANCE. -/
theorem execWithdrawClearance_owned {s : State} {p : Port} {tag : Tag} (h : s.awake) (ho : s.owns p tag .withdrawClearance = true) :
    ((s.perf.clearance (clearanceOf p)).isSome = true → exec (.withdrawClearance p tag) s = .next (transmit (reply p tag (.done .empty)
      (notify .clearance (.clearance (clearanceOf p) .withdrawn s.uptime) { s with perf := s.perf.setClearance (clearanceOf p) none })))) ∧
    (s.perf.clearance (clearanceOf p) = none →
      exec (.withdrawClearance p tag) s = .next (transmit (reply p tag (.refused .nothingToWithdraw) s))) := by
  constructor
  · intro hc
    show execWithdrawClearance p tag s = _
    rw [execWithdrawClearance, request_owned _ h.1 ho]
    dsimp only
    rw [if_pos hc]
    exact congrArg Host.Outcome.next (settle_perf_notice_reply h.2 ..)
  · intro hc
    show execWithdrawClearance p tag s = _
    rw [execWithdrawClearance, request_replied h ho]
    dsimp only
    rw [hc]; rfl

/-- R17: a clearance's life. -/
theorem execClearanceLapse_awake {s : State} {w : ClearanceName} {given : Nat} (h : s.awake) (hw : s.perf.clearance w = some given) :
    (given + s.settings.ports.clearanceLife ≤ s.uptime → exec (.clearanceLapse w) s = .next (transmit
      (notify .clearance (.clearance w .lapsed s.uptime) { s with perf := s.perf.setClearance w none }))) ∧
    (s.uptime < given + s.settings.ports.clearanceLife → exec (.clearanceLapse w) s = .next s) := by
  have hexec : exec (.clearanceLapse w) s = .next (settle (if given + s.settings.ports.clearanceLife ≤ s.uptime then
      notifyClearance w .lapsed (mapPerf (fun r => r.setClearance w none) s) else s)) := by
    show execClearanceLapse w s = _
    rw [execClearanceLapse, command_next _ h.1, hw]
  constructor
  · intro hl
    rw [hexec, if_pos hl]
    exact congrArg Host.Outcome.next (settle_perf_notice h.2 ..)
  · intro hl
    rw [hexec, if_neg (by omega)]
    exact congrArg Host.Outcome.next h.2

/-- Settles O17, by the three commands in turn. -/
theorem clearanceRequests : Obligations.ClearanceRequests :=
  ⟨fun _ _ _ => execGiveClearance_owned, fun _ _ _ => execWithdrawClearance_owned, fun _ _ _ => execClearanceLapse_awake⟩

/-! ## Status -/

/-- Settles O20: both requests are replies alone. -/
theorem performanceAndCurtainStatus : Obligations.PerformanceAndCurtainStatus :=
  ⟨fun _ _ _ _ h ho => request_replied h ho rfl, fun _ _ _ _ h ho => request_replied h ho rfl⟩

/-! ## The state after reset -/

/-- After reset the start-up survey's first probe is on the loop and a notice is being sent on each port, so nothing is left to begin. -/
theorem reset_idle : State.reset.idle := (idle_iff _).2 ⟨rfl, rfl, takeWork_of_busy _ (by decide), rfl⟩

theorem reset_sup_sound : State.reset.sup.sound := by unfold Supervision.sound; decide

theorem reset_ports_bounded : State.reset.ports.bounded := by unfold Ports.bounded PortUnit.bounded; decide

theorem reset_numbered : State.reset.numbered := by unfold State.numbered; decide

/-- Settles O10, invariant by invariant. -/
theorem resetStateIsSafe : Obligations.ResetStateIsSafe :=
  ⟨⟨rfl, reset_idle⟩, reset_sup_sound, unresolvedWith_sound none, fun h => absurd h (by decide), fun h => absurd h (by decide),
    reset_ports_bounded, reset_numbered⟩

end Sys2Proof.Machine

/-! `Spares s t`: what the blocks leave alone outside the Alarm Unit's and the Settings Store's own operations. They keep the alarm list but for the fields that refer to ended orders, and to the output queues they only add. One lemma per function, in the form that backward chaining uses. -/

namespace Sys2Proof.Machine

/-- The times, the settings, the store and the alarm list are as they were, and the frames queued on each port still stand ahead of all that
has joined since. -/
structure Spares (s t : State) : Prop where
  startStep : t.startStep = s.startStep
  uptime : t.uptime = s.uptime
  settings : t.settings = s.settings
  store : t.store = s.store
  entries : t.alarm.entries.map AlarmEntry.core = s.alarm.entries.map AlarmEntry.core
  queues : ∀ p, (s.port p).queue <+: (t.port p).queue

theorem Spares.refl (s : State) : Spares s s := ⟨rfl, rfl, rfl, rfl, rfl, fun _ => List.prefix_rfl⟩

theorem Spares.trans {a b c : State} (h : Spares a b) (k : Spares b c) : Spares a c :=
  ⟨k.startStep.trans h.startStep, k.uptime.trans h.uptime, k.settings.trans h.settings, k.store.trans h.store, k.entries.trans h.entries,
    fun p => (h.queues p).trans (k.queues p)⟩

/-- What `Spares` speaks of. -/
def State.spared (s : State) : StartStep × Nat × Settings × Store × List AlarmEntry × Ports :=
  (s.startStep, s.uptime, s.settings, s.store, s.alarm.entries, s.ports)

/-- A change of nothing that is spared. -/
theorem Spares.same {s0 s t : State} (h : Spares s0 s) (e : t.spared = s.spared) : Spares s0 t := by
  simp only [State.spared, Prod.mk.injEq] at e
  obtain ⟨e1, e2, e3, e4, e5, e6⟩ := e
  exact h.trans ⟨e1, e2, e3, e4, by rw [e5], fun p => by cases p <;> simp only [State.port, e6, List.prefix_rfl]⟩

theorem Spares.foldl {s0 : State} {α : Type} (g : State → α → State) (hg : ∀ (s0 s : State) (a : α), Spares s0 s → Spares s0 (g s a)) (l : List α) :
    ∀ {s : State}, Spares s0 s → Spares s0 (l.foldl g s) := by
  induction l with
  | nil => exact id
  | cons a l ih => exact fun h => ih (hg _ _ a h)

section
variable {s0 s : State}

theorem Spares.mapCalls (f : Calls → Calls) (h : Spares s0 s) : Spares s0 (Machine.mapCalls f s) := h.same rfl
theorem Spares.mapLoop (f : Loop → Loop) (h : Spares s0 s) : Spares s0 (Machine.mapLoop f s) := h.same rfl
theorem Spares.mapCurtain (f : Curtain → Curtain) (h : Spares s0 s) : Spares s0 (Machine.mapCurtain f s) := h.same rfl
theorem Spares.mapPerf (f : PerfRecord → PerfRecord) (h : Spares s0 s) : Spares s0 (Machine.mapPerf f s) := h.same rfl
theorem Spares.onField (f : Field → Field) (h : Spares s0 s) : Spares s0 (Machine.onField f s) := h.same rfl

/-! ## Notices and faults -/

/-- A change of one Port Unit that keeps the frames queued in front. -/
theorem Spares.mapPort (p : Port) (f : PortUnit → PortUnit) (h : Spares s0 s) (hf : (s.port p).queue <+: (f (s.port p)).queue) :
    Spares s0 (s.mapPort p f) :=
  h.trans ⟨rfl, rfl, rfl, rfl, rfl, fun q => by
    by_cases e : q = p
    · subst e; rw [mapPort_port_self]; exact hf
    · rw [mapPort_port_other s p q f e]⟩

theorem placeNotice_prefix (n : Notice) (u : PortUnit) : u.queue <+: (u.placeNotice n).queue := by
  unfold PortUnit.placeNotice; split
  · exact List.prefix_rfl
  · exact List.prefix_append _ _

theorem Spares.placeAlways (p : Port) (n : Notice) (h : Spares s0 s) : Spares s0 (Machine.placeAlways p n s) := by
  unfold Machine.placeAlways; split
  · exact h.mapPort p _ (placeNotice_prefix n _)
  · exact h

theorem Spares.placeOn (p : Port) (f : Family) (n : Notice) (h : Spares s0 s) : Spares s0 (Machine.placeOn p f n s) := by
  unfold Machine.placeOn; split
  · exact h.placeAlways p n
  · exact h

theorem Spares.notify (f : Family) (n : Notice) (h : Spares s0 s) : Spares s0 (Machine.notify f n s) := (h.placeOn _ _ _).placeOn _ _ _
theorem Spares.notifyAlways (n : Notice) (h : Spares s0 s) : Spares s0 (Machine.notifyAlways n s) := (h.placeAlways _ _).placeAlways _ _
theorem Spares.curtainNotice (n : Notice) (h : Spares s0 s) : Spares s0 (Machine.curtainNotice n s) := h.notify _ _

theorem Spares.transmit (h : Spares s0 s) : Spares s0 (Machine.transmit s) :=
  h.trans ⟨rfl, rfl, rfl, rfl, rfl, fun p => by
    cases p
    exacts [(transmit_queue s.ports.stage).symm ▸ List.prefix_rfl, (transmit_queue s.ports.front).symm ▸ List.prefix_rfl]⟩

theorem Spares.setSup (u : Supervision) (h : Spares s0 s) : Spares s0 (Machine.setSup u s) := h.same rfl

theorem Spares.faultNotice (ev : FaultEvent) (e : FaultEntry) (r : Bool) (b : Option Port) (h : Spares s0 s) :
    Spares s0 (Machine.faultNotice ev e r b s) := h.notify _ _

theorem Spares.newFault (src : FaultSource) (k : FaultKind) (h : Spares s0 s) : Spares s0 (Machine.newFault src k s) :=
  (h.setSup _).faultNotice _ _ _ _

theorem Spares.raiseFault (src : FaultSource) (k : FaultKind) (h : Spares s0 s) : Spares s0 (Machine.raiseFault src k s) := by
  unfold Machine.raiseFault
  split
  · split
    · exact h.newFault _ _
    · split
      · exact ((h.setSup _).faultNotice _ _ _ _).newFault _ _
      · exact (h.setSup _).notify _ _
  · split <;> exact (h.setSup _).faultNotice _ _ _ _

theorem Spares.raiseCurtainFault (k : FaultKind) (h : Spares s0 s) : Spares s0 (Machine.raiseCurtainFault k s) := (h.mapCurtain _).raiseFault _ _

/-! ## The performance record -/

theorem Spares.noticeClearanceEnd (w : ClearanceName) (was : Option Nat) (c : PhaseChange) (h : Spares s0 s) :
    Spares s0 (Machine.noticeClearanceEnd w was c s) := by
  unfold Machine.noticeClearanceEnd; split
  · exact h.notify _ _
  · exact h

theorem Spares.noticeCountdownClear (w : CountdownName) (b : Bool) (was : Option Nat) (h : Spares s0 s) :
    Spares s0 (Machine.noticeCountdownClear w b was s) := by
  unfold Machine.noticeCountdownClear; split
  · exact h.notify _ _
  · exact h

theorem Spares.noticeCountdownStart (w : CountdownName) (n : Option Nat) (h : Spares s0 s) : Spares s0 (Machine.noticeCountdownStart w n s) := by
  unfold Machine.noticeCountdownStart; split
  · exact h
  · dsimp only; split
    · exact (h.notify _ _).notify _ _
    · exact h.notify _ _

theorem Spares.enterRecord (c : PhaseChange) (h : Spares s0 s) : Spares s0 (Machine.enterRecord c s) := by
  have hr : Spares s0 { s with perf := s.perf.after c s.uptime } := h.same rfl
  exact (((((((hr.notify _ _).noticeClearanceEnd _ _ _).noticeClearanceEnd _ _ _).noticeCountdownClear _ _ _).noticeCountdownClear
    _ _ _).noticeCountdownStart _ _).noticeCountdownStart _ _)

theorem Spares.curtainDeparture (h : Spares s0 s) : Spares s0 (Machine.curtainDeparture s) := by
  unfold Machine.curtainDeparture; split
  · exact (h.enterRecord _).onField _
  · exact h

/-! ## The curtain's change of state -/

theorem Spares.judgeWarning (new previous : CurtainState) (h : Spares s0 s) : Spares s0 (Machine.judgeWarning new previous s) := by
  unfold Machine.judgeWarning
  split
  · exact (h.mapCurtain _).onField _
  split
  · exact (h.onField _).mapCurtain _
  · exact h

theorem Spares.shiftCurtain (new : CurtainState) (h : Spares s0 s) : Spares s0 (Machine.shiftCurtain new s) := by
  unfold Machine.shiftCurtain; dsimp only
  refine Spares.judgeWarning _ _ ?_
  split
  · exact (h.mapCurtain _).curtainDeparture
  · exact h.mapCurtain _

theorem Spares.enterCurtain (new : CurtainState) (cause : CurtainCause) (mid : State → State) (h : Spares s0 s)
    (hmid : ∀ (s0 s : State), Spares s0 s → Spares s0 (mid s)) : Spares s0 (Machine.enterCurtain new cause mid s) := by
  unfold Machine.enterCurtain; dsimp only; split
  · exact h
  · exact (hmid _ _ (h.shiftCurtain new)).curtainNotice _

theorem Spares.abandonFields (r : AbandonReason) (h : Spares s0 s) : Spares s0 (Machine.abandonFields r s) := by
  unfold Machine.abandonFields; split
  · exact h
  · exact (h.mapCurtain _).curtainNotice _

theorem Spares.judgeDisplayLowering (h : Spares s0 s) : Spares s0 (Machine.judgeDisplayLowering s) := by
  unfold Machine.judgeDisplayLowering
  split_ifs
  · exact h.abandonFields _
  · exact h.abandonFields _
  · exact h.abandonFields _
  · exact h.abandonFields _
  · exact (h.mapCurtain _).enterCurtain _ _ _ fun _ _ h => h

/-! ## The call line -/

theorem Spares.callNotice (g : CallOrigin) (n : Notice) (h : Spares s0 s) : Spares s0 (Machine.callNotice g n s) := by
  cases g with
  | stage | front => exact h.placeOn _ _ _
  | sequencer | alarm | curtain => exact h.notify _ _

theorem Spares.handOutcome (g : CallOrigin) (tag : Nat) (out : CallOutcome) (h : Spares s0 s) : Spares s0 (Machine.handOutcome g tag out s) := by
  cases g with
  | stage | front | sequencer => exact h
  | alarm =>
    refine h.trans ⟨rfl, rfl, rfl, rfl, ?_, fun _ => List.prefix_rfl⟩
    show (s.alarm.entries.map _).map AlarmEntry.core = _
    rw [List.map_map]
    refine List.map_congr_left fun e _ => ?_
    simp only [Function.comp]; split <;> rfl
  | curtain =>
    show Spares s0 (announcementOutcome tag out s)
    unfold announcementOutcome; dsimp only
    split_ifs
    · exact (h.mapCurtain _).judgeDisplayLowering
    · exact h.mapCurtain _
    · exact h

theorem Spares.endOrder (out : CallOutcome) (o : Order) (h : Spares s0 s) : Spares s0 (Machine.endOrder out o s) := by
  unfold Machine.endOrder; dsimp only
  refine Spares.callNotice _ _ (Spares.handOutcome _ _ _ (Spares.mapCalls _ ?_))
  split
  · exact (h.mapLoop _).mapCalls _
  · exact h

theorem Spares.arbitrateFuel (k : Nat) : ∀ {s : State}, Spares s0 s → Spares s0 (Machine.arbitrateFuel k s) := by
  induction k with
  | zero => exact id
  | succ k ih =>
    intro s h
    unfold Machine.arbitrateFuel; dsimp only
    split
    · exact h
    split
    · exact h
    split
    · exact ih (h.endOrder _ _)
    split
    · exact Spares.notify _ _ (h.same rfl)
    · exact h

theorem Spares.arbitrate (h : Spares s0 s) : Spares s0 (Machine.arbitrate s) := h.arbitrateFuel _

theorem Spares.contend (h : Spares s0 s) : Spares s0 (Machine.contend s) := by
  unfold Machine.contend
  split
  · exact h.arbitrate
  split
  · exact (h.endOrder _ _).arbitrate
  · exact h

theorem Spares.enqueue (o : Order) (h : Spares s0 s) : Spares s0 (Machine.enqueue o s) := (h.mapCalls _).contend

theorem Spares.placeEvac (h : Spares s0 s) : Spares s0 (Machine.placeEvac s) := by
  unfold Machine.placeEvac; dsimp only
  refine Spares.enqueue _ ?_
  split
  · exact h
  split
  · exact h.endOrder _ _
  · exact h

theorem Spares.withdrawOrder (o : Order) (h : Spares s0 s) : Spares s0 (Machine.withdrawOrder o s) := by
  unfold Machine.withdrawOrder; split
  · exact h.mapCalls _
  · exact h.endOrder _ _

theorem Spares.withdrawIds (ids : List Nat) (h : Spares s0 s) : Spares s0 (Machine.withdrawIds ids s) := by
  have hf := Spares.foldl (s0 := s0) (fun s id => match s.calls.order id with
    | some o => Machine.withdrawOrder o s
    | none => s) (fun _ _ _ h => by split; exacts [h.withdrawOrder _, h]) ids h
  unfold Machine.withdrawIds; dsimp only; split
  · exact hf.arbitrate
  · exact hf

theorem Spares.withdrawInternal (g : CallOrigin) (tag : Nat) (h : Spares s0 s) : Spares s0 (Machine.withdrawInternal g tag s) := h.withdrawIds _

theorem Spares.countdownCleared (w : CountdownName) (h : Spares s0 s) : Spares s0 (Machine.countdownCleared w s) := (h.mapCalls _).withdrawIds _

theorem Spares.countdownValue (w : CountdownName) (v : Nat) (h : Spares s0 s) : Spares s0 (Machine.countdownValue w v s) := (h.mapCalls _).contend

theorem Spares.placePlanEntry (w : CountdownName) (start : Nat) (e : Option PlanEntry × Nat) (h : Spares s0 s) :
    Spares s0 (Machine.placePlanEntry w start s e) := by
  unfold Machine.placePlanEntry
  split
  · exact h
  split_ifs
  · exact h
  · exact h.enqueue _
  · exact h.notify _ _

theorem Spares.countdownStart (w : CountdownName) (v : Nat) (h : Spares s0 s) : Spares s0 (Machine.countdownStart w v s) :=
  Spares.foldl _ (fun _ _ _ h => h.placePlanEntry _ _ _) _ (h.countdownValue _ _)

theorem Spares.discardIds (ids : List Nat) (h : Spares s0 s) : Spares s0 (Machine.discardIds ids s) :=
  Spares.foldl _ (fun _ _ _ h => by split; exacts [h.endOrder _ _, h]) ids h

theorem Spares.callsPhaseEntry (new : Phase) (h : Spares s0 s) : Spares s0 (Machine.callsPhaseEntry new s) := by
  unfold Machine.callsPhaseEntry; split
  · exact (h.discardIds _).arbitrate
  · exact h

/-! ## A change of phase -/

theorem Spares.handClear (w : CountdownName) (b : Bool) (was : Option Nat) (h : Spares s0 s) : Spares s0 (Machine.handClear w b was s) := by
  unfold Machine.handClear; split
  · exact h.countdownCleared _
  · exact h

theorem Spares.handStart (w : CountdownName) (n : Option Nat) (h : Spares s0 s) : Spares s0 (Machine.handStart w n s) := by
  unfold Machine.handStart; split
  · exact h
  · exact h.countdownStart _ _

theorem Spares.changePhase (c : PhaseChange) (h : Spares s0 s) : Spares s0 (Machine.changePhase c s) := by
  have hr := h.enterRecord c
  exact (((((hr.handClear _ _ _).handClear _ _ _).callsPhaseEntry _).onField _).handStart _ _).handStart _ _

theorem Spares.claimEvacuation (h : Spares s0 s) : Spares s0 (Machine.claimEvacuation s) := by
  unfold Machine.claimEvacuation; split
  · exact h
  · exact h.changePhase _

/-! ## The release timer and the drop -/

theorem Spares.abandonDisplay (r : AbandonReason) (h : Spares s0 s) : Spares s0 (Machine.abandonDisplay r s) := by
  unfold Machine.abandonDisplay; split
  · exact h
  · dsimp only
    refine Spares.curtainNotice _ ?_
    split
    · exact (h.mapCurtain _).withdrawInternal _ _
    · exact h.mapCurtain _

theorem Spares.idleTimer (n : Notice) (h : Spares s0 s) : Spares s0 (Machine.idleTimer n s) := by
  unfold Machine.idleTimer; split
  · exact h
  · exact (h.mapCurtain _).curtainNotice _

theorem Spares.dropTimer (cause : DropCause) (h : Spares s0 s) : Spares s0 (Machine.dropTimer cause s) := by
  unfold Machine.dropTimer
  cases cause with
  | release | graceEnd => exact h.mapCurtain _
  | emergency | test | startUp => exact h.idleTimer _

theorem Spares.beginDrop (cause : DropCause) (faults : State → State) (h : Spares s0 s)
    (hf : ∀ (s0 s : State), Spares s0 s → Spares s0 (faults s)) : Spares s0 (Machine.beginDrop cause faults s) := by
  unfold Machine.beginDrop; split
  · exact h.idleTimer _
  · exact h.enterCurtain _ _ _ fun _ _ h => ((hf _ _ (h.mapCurtain _)).dropTimer _).abandonDisplay _

theorem Spares.endGrace (h : Spares s0 s) : Spares s0 (Machine.endGrace s) := h.beginDrop _ _ fun _ _ h => h.raiseCurtainFault _

theorem Spares.expireRelease (h : Spares s0 s) : Spares s0 (Machine.expireRelease s) := by
  have hn := h.curtainNotice (.releaseExpired s.lines.obstructed)
  unfold Machine.expireRelease; dsimp only
  split_ifs
  · exact hn.idleTimer _
  · exact (hn.mapCurtain _).endGrace
  · exact hn.mapCurtain _
  · exact hn.beginDrop _ _ fun _ _ h => h

theorem Spares.startRelease (zone : Nat) (h : Spares s0 s) : Spares s0 (Machine.startRelease zone s) := by
  have ht : Spares s0 (startTimer zone s) := (h.mapCurtain _).curtainNotice _
  unfold Machine.startRelease expireAtOnce; split
  · exact ht.expireRelease
  · exact ht

theorem Spares.curtainTrigger (zone : Nat) (h : Spares s0 s) : Spares s0 (Machine.curtainTrigger zone s) := by
  have ha := h.abandonDisplay .alarm
  unfold Machine.curtainTrigger; dsimp only
  split_ifs
  · exact ha.curtainNotice _
  · exact ha
  · exact ha.startRelease _
  · exact ha

/-! ## The end of an event -/

theorem Spares.takeWork (h : Spares s0 s) : Spares s0 (Machine.takeWork s) := by
  rw [takeWork_eq]; exact h.same rfl

theorem Spares.serveRoom (k : Nat) : ∀ {s : State}, Spares s0 s → Spares s0 (Machine.serveRoom k s) := by
  induction k with
  | zero => exact fun h => h.mapLoop _
  | succ k ih =>
    intro s h
    unfold Machine.serveRoom; split
    · exact ih ((h.mapLoop _).onField _).arbitrate
    · exact h

theorem Spares.settle (h : Spares s0 s) : Spares s0 (Machine.settle s) := by
  have hp : Spares s0 { Machine.serveRoom 8 s with scanner := (Machine.serveRoom 8 s).scanner.settlePath (Machine.serveRoom 8 s).settings } :=
    (h.serveRoom 8).same rfl
  exact hp.takeWork.transmit

end

end Sys2Proof.Machine

/-! Changes of phase and of the countdowns as the requests make them: the record, the reply, and what they leave alone (R3 to R14, R19, R20); and the SAFETY claims that the exit from EVACUATION removes (R105, R109). -/

namespace Sys2Proof.Machine

/-! ## The reply at the end of a request -/

/-- R181: a request that is with its owner has its reply in the queue at the end of the event. -/
theorem settle_answered {p : Port} {tag : Tag} {k : RequestKind} {o : ReplyOutcome} {s y : State} (ho : s.owns p tag k = true)
    (hi : (y.port p).intake = (s.port p).intake) : (settle (reply p tag o y)).answered p tag o := by
  refine (Leaves.refl _).settle.queues p _ (reply_mem p tag o y ?_)
  have := owes_of_owns ho
  rwa [PortUnit.owes, ← hi] at this

/-! ## Lamp claims at a phase entry -/

theorem changeLamp_nums (n : Nat) (g : Lamp → Lamp) (f : Field) : (f.changeLamp n g).light.lamps.map Lamp.num = f.light.lamps.map Lamp.num := by
  have hput : ∀ l : Lamp, (f.light.putLamp l).lamps.map Lamp.num = f.light.lamps.map Lamp.num := fun l => by
    rw [Light.putLamp, List.map_map]
    refine List.map_congr_left fun x _ => ?_
    simp only [Function.comp]; split
    · rename_i hx; exact (eq_of_beq hx).symm
    · rfl
  unfold Field.changeLamp; split
  · rfl
  · dsimp only; split
    · rw [judgeLamp_lamps]; exact hput _
    · exact hput _

/-- A lamp of another number is left, and one of the number is given what the change gives. -/
theorem mem_changeLamp {n : Nat} {g : Lamp → Lamp} {f : Field} {x : Lamp} (hx : x ∈ (f.changeLamp n g).light.lamps) :
    (x ∈ f.light.lamps ∧ x.num ≠ n) ∨ ∃ l, x = { g l with num := l.num } := by
  unfold Field.changeLamp at hx; split at hx
  · rename_i hnone
    refine .inl ⟨hx, fun e => ?_⟩
    simpa [e] using List.find?_eq_none.1 hnone x hx
  · rename_i l hl
    have hn : l.num = n := by simpa using List.find?_some hl
    have hx : x ∈ (f.light.putLamp { g l with num := l.num }).lamps := by
      dsimp only at hx; split at hx
      · rwa [judgeLamp_lamps] at hx
      · exact hx
    obtain ⟨y, hy, rfl⟩ := List.mem_map.1 hx
    split
    · exact .inr ⟨l, rfl⟩
    · rename_i hne
      exact .inl ⟨hy, fun e => hne (by simp [e, hn])⟩

/-- A claim change that leaves no SAFETY claim on a channel leaves none on any channel it names. -/
theorem changeLamps_safety (g : Nat → Lamp → Lamp) (hg : ∀ n l, (g n l).safety = none) (ns : List Nat) : ∀ f : Field,
    (f.changeLamps ns g).light.lamps.map Lamp.num = f.light.lamps.map Lamp.num ∧
      ((∀ x ∈ f.light.lamps, x.num ∉ ns → x.safety = none) → ∀ x ∈ (f.changeLamps ns g).light.lamps, x.safety = none) := by
  unfold Field.changeLamps
  induction ns with
  | nil => exact fun f => ⟨rfl, fun h x hx => h x hx (by simp)⟩
  | cons n ns ih =>
    intro f
    obtain ⟨hnum, hsafe⟩ := ih (f.changeLamp n (g n))
    refine ⟨hnum.trans (changeLamp_nums n _ f), fun h => hsafe fun x hx hns => ?_⟩
    obtain ⟨hx, hn⟩ | ⟨l, rfl⟩ := mem_changeLamp hx
    · exact h x hx (by simp [hn, hns])
    · exact hg n l

/-- R105, R109: the entry out of EVACUATION leaves no SAFETY claim, and every lamp record its number. -/
theorem enterPhase_safety {new : Phase} (hnew : new ≠ .evacuation) (clearManual : Bool) (f : Field) :
    (f.enterPhase new .evacuation clearManual).light.lamps.map Lamp.num = f.light.lamps.map Lamp.num ∧
      ∀ x ∈ (f.enterPhase new .evacuation clearManual).light.lamps, x.safety = none := by
  have hentry : ∀ l, (Lamp.enterPhase f.settings new .evacuation clearManual l).safety = none := fun l => by
    have hcued : ∀ (v : Preset) (l : Lamp), (l.cued v).safety = l.safety := fun v l => by unfold Lamp.cued; split <;> rfl
    unfold Lamp.enterPhase; dsimp only
    rw [if_neg hnew]
    split
    · cases clearManual <;> exact hcued _ _
    · cases clearManual <;> rfl
  obtain ⟨hnum, hsafe⟩ := changeLamps_safety
    (fun n l => (Lamp.enterPhase f.settings new .evacuation clearManual l).retarget (f.settings.lamp n).rest
      (Lamp.entryRelease f.settings .evacuation l) f.light.lit)
    (fun n l => ((retarget_claims ..).1).trans (hentry l)) f.numbers f
  exact ⟨hnum, hsafe fun x hx hn => absurd (List.mem_map_of_mem hx) hn⟩

/-- The call line and the loop leave the SAFETY claims. -/
theorem Leaves.safety {s t : State} (h : Leaves s t) (hn : (s.light.lamps.map Lamp.num).Nodup) (hs : ∀ l ∈ s.light.lamps, l.safety = none) :
    ∀ l ∈ t.light.lamps, l.safety = none := by
  intro l hl
  have hc : l.claims ∈ s.light.lamps.map Lamp.claims := h.claims hn ▸ List.mem_map_of_mem hl
  obtain ⟨x, hx, e⟩ := List.mem_map.1 hc
  exact (congrArg (·.2.1) e).symm.trans (hs x hx)

/-! ## A change of phase -/

theorem Leaves.handClear {s0 s : State} (w : CountdownName) (b : Bool) (was : Option Nat) (h : Leaves s0 s) :
    Leaves s0 (Machine.handClear w b was s) := by
  unfold Machine.handClear; split
  · exact h.countdownCleared _
  · exact h

theorem Leaves.handStart {s0 s : State} (w : CountdownName) (n : Option Nat) (h : Leaves s0 s) : Leaves s0 (Machine.handStart w n s) := by
  unfold Machine.handStart; split
  · exact h
  · exact h.countdownStart _ _

theorem Leaves.noticeClearanceEnd {s0 s : State} (w : ClearanceName) (was : Option Nat) (c : PhaseChange) (h : Leaves s0 s) :
    Leaves s0 (Machine.noticeClearanceEnd w was c s) := by
  unfold Machine.noticeClearanceEnd; split
  · exact h.notify _ _
  · exact h

theorem Leaves.noticeCountdownClear {s0 s : State} (w : CountdownName) (b : Bool) (was : Option Nat) (h : Leaves s0 s) :
    Leaves s0 (Machine.noticeCountdownClear w b was s) := by
  unfold Machine.noticeCountdownClear; split
  · exact h.notify _ _
  · exact h

theorem Leaves.noticeCountdownStart {s0 s : State} (w : CountdownName) (n : Option Nat) (h : Leaves s0 s) :
    Leaves s0 (Machine.noticeCountdownStart w n s) := by
  unfold Machine.noticeCountdownStart; split
  · exact h
  · dsimp only; split
    · exact (h.notify _ _).notify _ _
    · exact h.notify _ _

/-- R4: the change of the record and its notices. -/
theorem enterRecord_leaves (c : PhaseChange) (s : State) : Leaves { s with perf := s.perf.after c s.uptime } (enterRecord c s) :=
  (((((((Leaves.refl _).notify _ _).noticeClearanceEnd _ _ _).noticeClearanceEnd _ _ _).noticeCountdownClear _ _ _).noticeCountdownClear
    _ _ _).noticeCountdownStart _ _).noticeCountdownStart _ _

/-- R4: a change of phase is the change of the record, and the entry handed to the Light Engine; the rest leaves both alone. -/
theorem changePhase_leaves (c : PhaseChange) (s : State) : ∃ a, Leaves { s with perf := s.perf.after c s.uptime } a ∧
    Leaves (onField (Field.enterPhase c.target s.perf.phase c.clearsManual) a) (changePhase c s) :=
  ⟨_, ((((enterRecord_leaves c s).handClear _ _ _).handClear _ _ _).callsPhaseEntry _), ((Leaves.refl _).handStart _ _).handStart _ _⟩

/-- R3, R4: what an accepted PHASE request makes of the record, and what it leaves. -/
structure MovesPhase (c : PhaseChange) (s t : State) : Prop where
  perf : t.perf = s.perf.after c s.uptime
  uptime : t.uptime = s.uptime
  settings : t.settings = s.settings
  lines : t.lines = s.lines
  intakes : ∀ p, (t.port p).intake = (s.port p).intake
  safety : s.numbered → s.perf.phase = .evacuation → c.target ≠ .evacuation →
    (t.light.lamps.map Lamp.num).Nodup ∧ ∀ l ∈ t.light.lamps, l.safety = none

theorem changePhase_moves (c : PhaseChange) (s : State) : MovesPhase c s (changePhase c s) := by
  obtain ⟨a, h, k⟩ := changePhase_leaves c s
  refine ⟨k.perf.trans h.perf, k.uptime.trans h.uptime, k.settings.trans h.settings, k.lines.trans h.lines,
    fun p => (k.intakes p).trans (h.intakes p), fun hn he ht => ?_⟩
  rw [he] at k
  obtain ⟨hnum, hsafe⟩ := enterPhase_safety ht c.clearsManual ⟨a.settings, a.light, a.loop⟩
  have hnd : ((onField (Field.enterPhase c.target .evacuation c.clearsManual) a).light.lamps.map Lamp.num).Nodup := by
    have : (a.light.lamps.map Lamp.num).Nodup := by rw [h.nums]; exact hn.2
    exact hnum.symm ▸ this
  exact ⟨k.nums ▸ hnd, k.safety hnd hsafe⟩

/-! ## Faults reach Supervision and the Port Units alone -/

/-- Supervision's list changed, with a notice of the change. -/
theorem setSup_notify_eq (u : Supervision) (f : Family) (n : Notice) (s : State) :
    ∃ v q, notify f n (setSup u s) = { s with sup := v, ports := q } := by
  obtain ⟨q, h⟩ := notify_eq (setSup u s) f n
  exact ⟨u.judge, q, h⟩

theorem newFault_eq (src : FaultSource) (k : FaultKind) (s : State) : ∃ u q, newFault src k s = { s with sup := u, ports := q } :=
  setSup_notify_eq ..

theorem raiseFault_eq (src : FaultSource) (k : FaultKind) (s : State) : ∃ u q, raiseFault src k s = { s with sup := u, ports := q } := by
  unfold raiseFault
  split
  · split
    · exact newFault_eq ..
    · split
      · rename_i e _
        obtain ⟨u, q, h⟩ : ∃ u q, displaceFault e s = { s with sup := u, ports := q } := setSup_notify_eq ..
        rw [h]
        exact newFault_eq src k { s with sup := u, ports := q }
      · exact setSup_notify_eq ..
  · split <;> exact setSup_notify_eq ..

theorem clearFault_eq (src : FaultSource) (k : FaultKind) (s : State) : ∃ u q, clearFault src k s = { s with sup := u, ports := q } := by
  unfold clearFault
  split
  · exact ⟨_, _, rfl⟩
  split
  · exact ⟨_, _, rfl⟩
  · dsimp only; split <;> exact setSup_notify_eq ..

/-- R38: a new performance number. -/
theorem newPerformance_eq (s : State) : ∃ c u q, newPerformance s = { s with scanner := c, sup := u, ports := q } := by
  have fold : ∀ (l : List Nat) (x : State), ∃ u q, l.foldl (fun s n => clearFault (.channel n) .channelUnstable s) x = { x with sup := u, ports := q } := by
    intro l
    induction l with
    | nil => exact fun x => ⟨_, _, rfl⟩
    | cons n l ih =>
      intro x
      obtain ⟨u, q, h⟩ := clearFault_eq (.channel n) .channelUnstable x
      obtain ⟨v, r, k⟩ := ih { x with sup := u, ports := q }
      exact ⟨v, r, by rw [List.foldl_cons, h, k]⟩
  obtain ⟨u, q, h⟩ := fold channelNumbers (mapScanner (fun u => { u with channels := u.channels.map (fun c => { c with unconfirmed := 0 }) }) s)
  exact ⟨_, u, q, h⟩

/-- R6: the hand-over of the performance number leaves what the transition has made. -/
theorem MovesPhase.handNumber {c : PhaseChange} {s t : State} (a b : Phase) (h : MovesPhase c s t) : MovesPhase c s (handNumber a b t) := by
  have hi := (Keeps.handNumber a b (Keeps.refl t)).intakes
  unfold Machine.handNumber at hi ⊢
  split at hi
  · rename_i hab
    rw [if_pos hab]
    obtain ⟨x, u, q, e⟩ := newPerformance_eq t
    rw [e] at hi ⊢
    exact ⟨h.perf, h.uptime, h.settings, h.lines, fun p => (hi p).trans (h.intakes p), h.safety⟩
  · rename_i hab
    rwa [if_neg hab]

/-- R3: an accepted PHASE request. -/
theorem performPhase_moves (p : Port) (target : Phase) (countdown length : Option Nat) (s : State) :
    MovesPhase (phaseEffects s.perf.phase target (causeOf p) countdown length s.settings s.perf) s (performPhase p target countdown length s) :=
  (changePhase_moves _ s).handNumber _ _

/-- R3: no request enters EVACUATION. -/
theorem requestable_target {a b : Phase} (h : requestable a b = true) : b ≠ .evacuation := by
  rintro rfl; cases a <;> cases h

/-- Settles O15: the record by the transition, the rest by what the end of the event leaves alone. -/
theorem phaseRequestMovesPhase : Obligations.PhaseRequestMovesPhase := by
  intro s p tag target countdown length override hh ho hj
  have hm := performPhase_moves p target countdown length s
  have hl := (Leaves.refl (done p tag (performPhase p target countdown length s))).settle
  have hexec : exec (.phase p tag target countdown length override) s = .next (settle (done p tag (performPhase p target countdown length s))) := by
    show execPhase p tag target countdown length override s = _
    rw [execPhase, request_owned _ hh ho, hj]
  have hperf := hl.perf.trans hm.perf
  refine ⟨_, hexec, hperf, ?_, ?_, ?_, ?_, settle_answered ho (hm.intakes p), hl.settings.trans hm.settings, hl.uptime.trans hm.uptime,
    hl.lines.trans hm.lines, fun hn he => ?_⟩
  · rw [hperf]; exact phaseEffects_target ..
  · rw [hperf]; rfl
  · rw [hperf]; rfl
  · rw [hperf]; rfl
  · have ht := requestable_target ((judgePhase_none_iff ..).1 hj).1
    obtain ⟨hnd, hsafe⟩ := hm.safety hn he (by rwa [phaseEffects_target])
    exact hl.safety hnd hsafe

/-! ## SET COUNTDOWN and EXTEND INTERVAL -/

/-- R19: the clearing of the house countdown. -/
theorem clearHouse_leaves (s : State) : Leaves { s with perf := { s.perf with houseCountdown := none } } (clearHouse s) := by
  unfold clearHouse; split
  · rename_i h
    have : ({ s with perf := { s.perf with houseCountdown := none } } : State) = s := by rw [← h]
    rw [this]; exact Leaves.refl s
  · exact ((Leaves.refl _).noticeCountdownClear _ _ _).countdownCleared _

/-- R19: the start of the house countdown. -/
theorem startHouse_leaves (n : Nat) (s : State) : Leaves { s with perf := { s.perf with houseCountdown := some n } } (startHouse n s) :=
  ((Leaves.refl _).noticeCountdownStart _ _).countdownStart _ _

/-- R20: the interval countdown lengthened. -/
theorem extendInterval_leaves (seconds left : Nat) (s : State) :
    Leaves { s with perf := { s.perf with intervalCountdown := some (left + seconds) } } (extendInterval seconds left s) :=
  ((Leaves.refl _).notify _ _).countdownValue _ _

/-- What the end of a request leaves of the record that its owner has made. -/
theorem settle_done_leaves {p : Port} {tag : Tag} {k : RequestKind} {s y : State} {r : PerfRecord} (ho : s.owns p tag k = true)
    (h : Leaves { s with perf := r } y) : (settle (done p tag y)).perf = r ∧ (settle (done p tag y)).answered p tag (.done .empty) ∧
      (settle (done p tag y)).settings = s.settings ∧ (settle (done p tag y)).sup = s.sup ∧ (settle (done p tag y)).uptime = s.uptime := by
  have hl := (Leaves.refl (done p tag y)).settle
  exact ⟨hl.perf.trans h.perf, settle_answered ho (h.intakes p), hl.settings.trans h.settings, hl.sup.trans h.sup, hl.uptime.trans h.uptime⟩

/-- The performance record plays no part in what is left alone. -/
theorem Leaves.withPerf {a b : State} (r : PerfRecord) (h : Leaves a b) : Leaves { a with perf := r } { b with perf := r } :=
  ⟨h.pending, h.held, h.startStep, h.uptime, h.clock, h.freeCount, h.lines, h.settings, h.store, rfl, h.sup, h.scanner, h.alarm,
    h.entries, h.nums, h.claims, h.calm, h.landed, h.timer, h.lit, h.queues, h.intakes⟩

/-- R19: the house countdown cleared and started anew. -/
theorem startHouse_clearHouse_leaves (n : Nat) (s : State) :
    Leaves { s with perf := { s.perf with houseCountdown := some n } } (startHouse n (clearHouse s)) := by
  have hc := clearHouse_leaves s
  have hs := startHouse_leaves n (clearHouse s)
  rw [hc.perf] at hs
  exact (hc.withPerf _).trans hs

theorem maySetCountdown_iff (s : State) : maySetCountdown s = true ↔ s.perf.phase = .prepare ∨ s.perf.phase = .houseOpen := by
  simp [maySetCountdown]

/-- Settles O18, by what each of the three requests makes of the record. -/
theorem countdownRequests : Obligations.CountdownRequests := by
  refine ⟨fun s p tag value hh ho hp => ?_, fun s p tag seconds left hh ho hp hl h900 h3600 => ?_⟩
  · have hmay := (maySetCountdown_iff s).2 hp
    refine ⟨fun hv => ?_, ?_⟩
    · obtain ⟨hperf, hans, hset, hsup, hup⟩ := settle_done_leaves ho (startHouse_clearHouse_leaves value s)
      refine ⟨_, ?_, hperf, hans, hset, hsup, hup⟩
      show execSetCountdown p tag value s = _
      rw [execSetCountdown, request_owned _ hh ho, if_neg (not_not.2 hmay), if_neg (Nat.not_lt.2 hv)]
    · obtain ⟨hperf, hans, hset, hsup, hup⟩ := settle_done_leaves ho (clearHouse_leaves s)
      refine ⟨_, ?_, hperf, hans, hset, hsup, hup⟩
      show execSetCountdownClear p tag s = _
      rw [execSetCountdownClear, request_owned _ hh ho, if_neg (not_not.2 hmay)]
  · obtain ⟨hperf, hans, hset, hsup, -⟩ := settle_done_leaves ho (extendInterval_leaves seconds left s)
    refine ⟨_, ?_, hperf, hans, hset, hsup⟩
    show execExtendInterval p tag seconds s = _
    rw [execExtendInterval, request_owned _ hh ho, if_neg (not_not.2 hp), hl]
    dsimp only
    rw [if_neg (by omega)]

end Sys2Proof.Machine

/-! The advance of uptime: the countdowns it takes a second from, and the notices of those that reach 0 (R21). -/

namespace Sys2Proof.Machine

/-! ## A notice on a port that takes it -/

/-- A port that takes a notice of a family: it is fitted, it subscribes to the family, and its queue has room for a notice (R184, R185, R188). -/
structure State.Takes (s : State) (p : Port) (f : Family) : Prop where
  opened : s.portOpen p = true
  subscribed : (s.settings.ports.subs p).get f = true
  room : (s.port p).noticeCount < 12

theorem port_congr {s t : State} (h : t.ports = s.ports) (p : Port) : t.port p = s.port p := by cases p <;> simp only [State.port, h]

theorem portOpen_congr {s t : State} (h : t.settings = s.settings) (p : Port) : t.portOpen p = s.portOpen p := by
  cases p <;> simp only [State.portOpen, h]

theorem State.Takes.congr {s t : State} {p : Port} {f : Family} (h : s.Takes p f) (hp : t.port p = s.port p) (hs : t.settings = s.settings) :
    t.Takes p f :=
  ⟨(portOpen_congr hs p).trans h.opened, hs ▸ h.subscribed, hp ▸ h.room⟩

theorem placeOn_port_other (p q : Port) (f : Family) (n : Notice) (s : State) (h : p ≠ q) : (placeOn q f n s).port p = s.port p := by
  unfold placeOn placeAlways
  split_ifs
  · exact mapPort_port_other s q p _ h
  · rfl
  · rfl

theorem placeOn_queue {p : Port} {f : Family} {s : State} (n : Notice) (h : s.Takes p f) :
    ((placeOn p f n s).port p).queue = (s.port p).queue ++ [.notice (s.port p).dropped n] := by
  rw [placeOn, if_pos h.subscribed, placeAlways, if_pos h.opened, mapPort_port_self, PortUnit.placeNotice, if_neg (Nat.not_le.2 h.room)]

/-- R184, R185: a notice joins the tail of the queue of a port that takes it. -/
theorem notify_queue {p : Port} {f : Family} {s : State} (n : Notice) (h : s.Takes p f) :
    ((notify f n s).port p).queue = (s.port p).queue ++ [.notice (s.port p).dropped n] := by
  cases p with
  | stage => rw [notify, placeOn_port_other _ _ _ _ _ (by decide), placeOn_queue n h]
  | front =>
    have hp := placeOn_port_other .front .stage f n s (by decide)
    obtain ⟨q, e⟩ := placeOn_eq s .stage f n
    have hq := placeOn_queue n (h.congr hp (by rw [e]))
    rwa [hp] at hq

/-! ## One countdown -/

@[simp] theorem setCountdown_self (r : PerfRecord) (w : CountdownName) : r.setCountdown w (r.countdown w) = r := by cases w <;> rfl

/-- R21: a countdown that is absent or at 0 is left. -/
theorem tickCountdown_stopped {w : CountdownName} {s : State} (h : s.perf.countdown w = none ∨ s.perf.countdown w = some 0) :
    tickCountdown w s = s := by
  obtain h | h := h <;> simp [tickCountdown, h]

/-- R21: a running countdown loses a second, with its notice at 0, and its value is handed over. -/
theorem tickCountdown_running {w : CountdownName} {s : State} {n : Nat} (h : s.perf.countdown w = some (n + 1)) :
    tickCountdown w s = countdownValue w n (noticeZero w n { s with perf := s.perf.setCountdown w (some n) }) := by
  rw [tickCountdown, h]; rfl

theorem Leaves.noticeZero {s0 s : State} (w : CountdownName) (n : Nat) (h : Leaves s0 s) : Leaves s0 (Machine.noticeZero w n s) := by
  unfold Machine.noticeZero; split
  · exact h.notify _ _
  · exact h

theorem Spares.noticeZero {s0 s : State} (w : CountdownName) (n : Nat) (h : Spares s0 s) : Spares s0 (Machine.noticeZero w n s) := by
  unfold Machine.noticeZero; split
  · exact h.notify _ _
  · exact h

/-- A countdown is stopped, or runs. -/
theorem countdown_cases (o : Option Nat) : (o = none ∨ o = some 0) ∨ ∃ n, o = some (n + 1) := by
  rcases o with _ | _ | n <;> simp

/-- R21: of the record, a tick changes its countdown alone. -/
theorem tickCountdown_leaves (w : CountdownName) (s : State) :
    Leaves { s with perf := s.perf.setCountdown w ((s.perf.countdown w).map (· - 1)) } (tickCountdown w s) := by
  obtain h | ⟨n, h⟩ := countdown_cases (s.perf.countdown w)
  · have hsame : (s.perf.countdown w).map (· - 1) = s.perf.countdown w := by obtain h | h := h <;> rw [h] <;> rfl
    rw [tickCountdown_stopped h, hsame, setCountdown_self]
    exact Leaves.refl s
  · rw [tickCountdown_running h, h]
    exact ((Leaves.refl _).noticeZero _ _).countdownValue _ _

theorem Spares.tickCountdown {s0 s : State} (w : CountdownName) (h : Spares s0 s) : Spares s0 (Machine.tickCountdown w s) := by
  obtain hw | ⟨n, hw⟩ := countdown_cases (s.perf.countdown w)
  · rwa [tickCountdown_stopped hw]
  · rw [tickCountdown_running hw]
    exact ((h.mapPerf fun _ => _).noticeZero _ _).countdownValue _ _

/-- R21: the decrement to 0 places the countdown's notice behind what the queue holds, ahead of all that comes after. -/
theorem tickCountdown_notice {w : CountdownName} {p : Port} {s : State} (ht : s.Takes p .countdown) (h : s.perf.countdown w = some 1) :
    (s.port p).queue ++ [.notice (s.port p).dropped (.countdown w (zeroEvent w) 0)] <+: ((tickCountdown w s).port p).queue := by
  let s1 : State := { s with perf := s.perf.setCountdown w (some 0) }
  have hp : s1.port p = s.port p := port_congr rfl p
  have hn : ((noticeZero w 0 s1).port p).queue = (s1.port p).queue ++ [.notice (s1.port p).dropped (.countdown w (zeroEvent w) 0)] :=
    notify_queue _ (ht.congr hp rfl)
  rw [tickCountdown_running h, ← hp, ← hn]
  exact ((Spares.refl _).countdownValue w 0).queues p

/-! ## The advance -/

/-- Uptime and the model's clock one second on. -/
def State.secondOn (s : State) : State := { s with clock := s.clock.secondPassed, uptime := s.uptime + 1 }

theorem uptimePasses_eq {s : State} (h : s.uptime < greatestUptime) :
    uptimePasses s = tickCountdown .interval (tickCountdown .house s.secondOn) := by
  rw [uptimePasses, advanceUptime, mapClock_get_uptime, if_pos h]; rfl

/-- The record with a second taken from each running countdown (R21). -/
def PerfRecord.ticked (r : PerfRecord) : PerfRecord :=
  { r with houseCountdown := r.houseCountdown.map (· - 1), intervalCountdown := r.intervalCountdown.map (· - 1) }

theorem uptimePasses_leaves {s : State} (h : s.uptime < greatestUptime) : Leaves { s.secondOn with perf := s.perf.ticked } (uptimePasses s) := by
  rw [uptimePasses_eq h]
  have hh := tickCountdown_leaves .house s.secondOn
  have hi := tickCountdown_leaves .interval (tickCountdown .house s.secondOn)
  rw [hh.perf] at hi
  exact (hh.withPerf _).trans hi

theorem uptimePasses_stopped {s : State} (h : s.uptime < greatestUptime) (hh : s.perf.houseCountdown = none ∨ s.perf.houseCountdown = some 0)
    (hi : s.perf.intervalCountdown = none ∨ s.perf.intervalCountdown = some 0) : uptimePasses s = s.secondOn := by
  have e : tickCountdown .house s.secondOn = s.secondOn := tickCountdown_stopped hh
  rw [uptimePasses_eq h, e]
  exact tickCountdown_stopped hi

/-- R21: the notices of the countdowns that reach 0, the house countdown's ahead of all else. -/
theorem uptimePasses_notices {s : State} {p : Port} (h : s.uptime < greatestUptime) (ht : s.Takes p .countdown) :
    (s.perf.houseCountdown = some 1 →
      (s.port p).queue ++ [.notice (s.port p).dropped (.countdown .house .curtainUpDue 0)] <+: ((settle (uptimePasses s)).port p).queue) ∧
    (s.perf.intervalCountdown = some 1 → (s.perf.houseCountdown = none ∨ s.perf.houseCountdown = some 0) →
      (s.port p).queue ++ [.notice (s.port p).dropped (.countdown .interval .intervalEndDue 0)] <+: ((settle (uptimePasses s)).port p).queue) := by
  have hp : s.secondOn.port p = s.port p := port_congr rfl p
  have ht := ht.congr hp rfl
  rw [uptimePasses_eq h, ← hp]
  constructor
  · intro h1
    exact (tickCountdown_notice (w := .house) ht h1).trans (((Spares.refl _).tickCountdown .interval).settle.queues p)
  · intro h1 hstop
    have e : tickCountdown .house s.secondOn = s.secondOn := tickCountdown_stopped hstop
    rw [e]
    exact (tickCountdown_notice (w := .interval) ht h1).trans ((Spares.refl _).settle.queues p)

/-- On an idle controller a second that passes with no countdown running sends nothing and changes no order, whatever the loop then begins. -/
theorem settle_secondOn {s : State} (h : s.idle) : (settle s.secondOn).ports = s.ports ∧ (settle s.secondOn).calls = s.calls := by
  obtain ⟨hroom, -, -, hsent⟩ := (idle_iff s).1 h
  rw [settle_served s.secondOn hroom]
  constructor
  · rw [transmit_get_ports, takeWork_eq]
    exact congrArg State.ports hsent
  · rw [transmit_get_calls, takeWork_calls]
    rfl

theorem execUptimeAdvance_next {s : State} (h : s.resetHeld = false) (hd : s.startStep = .done) :
    exec .uptimeAdvance s = .next (settle (uptimePasses s)) := by
  show execUptimeAdvance s = _
  rw [execUptimeAdvance, command_next _ h, if_pos hd]

/-- R21: COUNTDOWN_REACHES_ZERO is the advance that brings its countdown from 1 to 0, and nothing otherwise. -/
theorem execCountdownReachesZero_next {s : State} (w : CountdownName) (h : s.resetHeld = false) (hd : s.startStep = .done) :
    exec (.countdownReachesZero w) s = .next (settle (if s.perf.countdown w = some 1 then uptimePasses s else s)) := by
  show execCountdownReachesZero w s = _
  rw [execCountdownReachesZero, command_next _ h]
  simp only [hd, true_and]

/-- Settles O19: the record by the two ticks, the notices by their place ahead of all that joins after them. -/
theorem uptimeAdvances : Obligations.UptimeAdvances := by
  intro s hh hd hu
  have hl := (uptimePasses_leaves hu).settle
  refine ⟨⟨_, execUptimeAdvance_next hh hd, hl.uptime, hl.perf, hl.settings, hl.sup, hl.lines, fun p ho hs hc => ?_, fun hidle hho hin => ?_,
    fun w hw => ?_⟩, fun w hidle hw => ?_⟩
  · obtain ⟨hhouse, hinterval⟩ := uptimePasses_notices hu ⟨ho, hs, hc⟩
    refine ⟨fun h1 => ?_, fun h1 hstop => ?_⟩
    · obtain ⟨l, e⟩ := hhouse h1
      exact ⟨l, by rw [← e, List.append_assoc]; rfl⟩
    · obtain ⟨l, e⟩ := hinterval h1 hstop
      exact ⟨l, by rw [← e, List.append_assoc]; rfl⟩
  · rw [uptimePasses_stopped hu hho hin]
    exact settle_secondOn hidle
  · rw [execCountdownReachesZero_next w hh hd, if_pos hw]
  · rw [execCountdownReachesZero_next w hh hd, if_neg hw]
    exact congrArg Host.Outcome.next hidle

end Sys2Proof.Machine

/-! Start-up from the stored settings (R195): what the faults it raises can change, and the survey's first probe. -/

namespace Sys2Proof.Machine

/-! ## The faults that start-up raises -/

/-- R24, R155: the kinds of fault that start-up raises. -/
def raisedAtStartUp (k : FaultKind) : Prop := k = .sectionLost ∨ k = .isolated

/-- R155: a fault list with nothing but what the load and the isolations raise. -/
def Supervision.ofStartUp (u : Supervision) : Prop := ∀ e ∈ u.entries, raisedAtStartUp e.kind

/-- R189: a Port Unit that holds nothing but notices. -/
structure PortUnit.Silent (u : PortUnit) : Prop where
  intake : u.intake = []
  refusals : u.refusals = []
  flow : u.flow = none
  heldOff : u.heldOff = false
  reader : u.reader = .hunting
  frameErrors : u.frameErrors = 0
  fullRefusals : u.fullRefusals = 0
  queue : ∀ f ∈ u.queue, f.isNotice = true

theorem PortUnit.Silent.fields {u : PortUnit} (h : u.Silent) : u.intake = [] ∧ u.refusals = [] ∧ u.flow = none ∧ u.heldOff = false ∧
    u.reader = .hunting ∧ u.frameErrors = 0 ∧ u.fullRefusals = 0 ∧ ∀ f ∈ u.queue, f.isNotice = true :=
  ⟨h.intake, h.refusals, h.flow, h.heldOff, h.reader, h.frameErrors, h.fullRefusals, h.queue⟩

theorem PortUnit.Silent.placeNotice {u : PortUnit} (n : Notice) (h : u.Silent) : (u.placeNotice n).Silent := by
  unfold PortUnit.placeNotice; split
  · exact ⟨h.intake, h.refusals, h.flow, h.heldOff, h.reader, h.frameErrors, h.fullRefusals, h.queue⟩
  · refine ⟨h.intake, h.refusals, h.flow, h.heldOff, h.reader, h.frameErrors, h.fullRefusals, fun f hf => ?_⟩
    obtain hf | hf := List.mem_append.1 hf
    · exact h.queue f hf
    · rw [List.mem_singleton.1 hf]; rfl

theorem PortUnit.Silent.transmit {u : PortUnit} (h : u.Silent) : u.transmit.Silent := by
  unfold PortUnit.transmit; split
  · exact h
  split
  · exact ⟨h.intake, h.refusals, h.flow, h.heldOff, h.reader, h.frameErrors, h.fullRefusals, h.queue⟩
  split_ifs
  · exact ⟨h.intake, h.refusals, h.flow, h.heldOff, h.reader, h.frameErrors, h.fullRefusals, h.queue⟩
  · exact ⟨h.intake, h.refusals, h.flow, h.heldOff, h.reader, h.frameErrors, h.fullRefusals, h.queue⟩
  · exact h

/-- What raising the faults of start-up can change: Supervision's record, which holds no others, and the notices. -/
structure Raises (s t : State) : Prop where
  rest : ∃ u q, t = { s with sup := u, ports := q }
  kinds : s.sup.ofStartUp → t.sup.ofStartUp
  silent : (∀ p, (s.port p).Silent) → ∀ p, (t.port p).Silent

theorem Raises.refl (s : State) : Raises s s := ⟨⟨_, _, rfl⟩, id, id⟩

theorem Raises.trans {a b c : State} (h : Raises a b) (k : Raises b c) : Raises a c := by
  obtain ⟨u, q, e⟩ := h.rest
  obtain ⟨v, r, e'⟩ := k.rest
  exact ⟨⟨v, r, by rw [e', e]⟩, fun x => k.kinds (h.kinds x), fun x => k.silent (h.silent x)⟩

theorem Raises.placeOn {s0 s : State} (p : Port) (f : Family) (n : Notice) (h : Raises s0 s) : Raises s0 (Machine.placeOn p f n s) := by
  have hp : Raises s (s.mapPort p (PortUnit.placeNotice n)) := by
    refine ⟨⟨s.sup, _, rfl⟩, id, fun hs q => ?_⟩
    by_cases e : q = p
    · subst e; rw [mapPort_port_self]; exact (hs q).placeNotice n
    · rw [mapPort_port_other s p q _ e]; exact hs q
  unfold Machine.placeOn placeAlways
  split_ifs
  exacts [h.trans hp, h, h]

theorem Raises.notify {s0 s : State} (f : Family) (n : Notice) (h : Raises s0 s) : Raises s0 (Machine.notify f n s) := (h.placeOn _ _ _).placeOn _ _ _

theorem Raises.setSup {s0 s : State} {u : Supervision} (h : Raises s0 s) (hu : s.sup.ofStartUp → u.ofStartUp) :
    Raises s0 (Machine.setSup u s) :=
  h.trans ⟨⟨u.judge, s.ports, rfl⟩, hu, id⟩

theorem Raises.newFault {s0 s : State} (src : FaultSource) {k : FaultKind} (hk : raisedAtStartUp k) (h : Raises s0 s) :
    Raises s0 (Machine.newFault src k s) := by
  refine (h.setSup fun hs e he => ?_).notify _ _
  obtain he | he := List.mem_append.1 he
  · exact hs e he
  · rw [List.mem_singleton.1 he]; exact hk

theorem Raises.displaceFault {s0 s : State} (e : FaultEntry) (h : Raises s0 s) : Raises s0 (Machine.displaceFault e s) :=
  (h.setSup fun hs x hx => hs x (List.mem_filter.1 hx).1).notify _ _

/-- An entry changed in its place to one of the same kind. -/
theorem Supervision.ofStartUp.change {u : Supervision} (src : FaultSource) (k : FaultKind) {e : FaultEntry} (h : u.ofStartUp)
    (he : raisedAtStartUp e.kind) : (u.change src k fun _ => e).ofStartUp := by
  intro x hx
  obtain ⟨y, hy, rfl⟩ := List.mem_map.1 hx
  split
  · exact he
  · exact h y hy

theorem Raises.changeFault {s0 s : State} (src : FaultSource) (k : FaultKind) (ev : FaultEvent) (e : FaultEntry) (h : Raises s0 s)
    (he : raisedAtStartUp e.kind) : Raises s0 (faultNotice ev e false none (Machine.setSup (s.sup.change src k fun _ => e) s)) :=
  (h.setSup fun hs => hs.change src k he).notify _ _

theorem Raises.raiseFault {s0 s : State} (src : FaultSource) {k : FaultKind} (hk : raisedAtStartUp k) (h : Raises s0 s) :
    Raises s0 (Machine.raiseFault src k s) := by
  unfold Machine.raiseFault
  split
  · split
    · exact h.newFault src hk
    · split
      · exact (h.displaceFault _).newFault src hk
      · exact (h.setSup (u := { s.sup with lost := satSucc 255 s.sup.lost }) fun hs => hs).notify _ _
  · rename_i e hf
    have he : raisedAtStartUp e.kind := by rw [show e.kind = k from congrArg Prod.snd (find_pair hf)]; exact hk
    split <;> exact h.changeFault src k _ _ he

theorem Raises.foldl {α : Type} (src : α → FaultSource) {k : FaultKind} (hk : raisedAtStartUp k) (l : List α) : ∀ {s0 s : State}, Raises s0 s →
    Raises s0 (l.foldl (fun s a => Machine.raiseFault (src a) k s) s) := by
  induction l with
  | nil => exact id
  | cons a l ih => exact fun h => ih (h.raiseFault (src a) hk)

/-- R24, R155: the faults of the load and of the isolations. -/
theorem startUp_raises (c : Curtain) (s : State) : Raises (rebuild c s) (startUp c s) :=
  Raises.foldl .zone (.inr rfl) _ (Raises.foldl .channel (.inr rfl) _ (Raises.foldl .store (.inl rfl) _ (Raises.refl _)))

/-! ## The survey's first probe -/

/-- R172: with the survey just begun, and no scanning yet, the end of the event puts its first probe on the loop. -/
theorem settle_surveying {s : State} {v : LoopSection} (hl : s.loop = (Loop.rebuilt v).surveying) (hs : s.scanner.scanning = false) :
    settle s = transmit { s with
      loop := { (Loop.rebuilt v).surveying with transaction := some (.probe 1 .survey), windowAt := s.clock.now + s.settings.loop.replyWindow * 10 } } := by
  have hpath : s.scanner.settlePath s.settings = s.scanner := by rw [Scanner.settlePath, hs]; rfl
  rw [settle_served s (by rw [hl]; rfl), hpath, takeWork, hl]
  rfl

/-- R195 steps 1 and 2, with the end of their event. -/
theorem settle_startUp (c : Curtain) (s : State) : ∃ u q, settle (startUp c s) = { rebuild c s with
      sup := u, ports := q
      loop := { (rebuild c s).loop with transaction := some (.probe 1 .survey), windowAt := s.clock.now + (rebuild c s).settings.loop.replyWindow * 10 } } ∧
    u.ofStartUp ∧ q.stage.Silent ∧ q.front.Silent := by
  have h := startUp_raises c s
  obtain ⟨u, q, e⟩ := h.rest
  have hu : u.ofStartUp := by simpa [e] using h.kinds fun _ hx => by cases hx
  have hq := h.silent fun p => by cases p <;> exact ⟨rfl, rfl, rfl, rfl, rfl, rfl, rfl, fun _ hx => by cases hx⟩
  rw [e] at hq
  refine ⟨u, ⟨q.stage.transmit, q.front.transmit⟩, ?_, hu, (hq .stage).transmit, (hq .front).transmit⟩
  rw [e, settle_surveying rfl rfl]
  rfl

/-- Settles O11: start-up rebuilds every record, and its faults and first probe change no more than the statement names. -/
theorem startUpRebuildsEveryBlock : Obligations.StartUpRebuildsEveryBlock := by
  rintro s c (rfl | ⟨rfl, hh⟩)
  · obtain ⟨u, q, e, hu, hs, hf⟩ := settle_startUp Curtain.unresolved
      { mapLines (fun l => { l with lastStepAt := none }) s with clock := ⟨0, 0, 0, 0⟩ }
    refine ⟨_, congrArg Host.Outcome.next e, rfl, rfl, rfl, rfl, rfl, rfl, rfl, rfl, rfl, rfl, rfl, rfl, rfl, rfl, hu, rfl, fun p => ?_⟩
    cases p
    exacts [hs.fields, hf.fields]
  · obtain ⟨u, q, e, hu, hs, hf⟩ := settle_startUp (unresolvedWith s.curtain.lastInterval) s
    have hexec : exec .resetNReleased s = .next (settle (startUp (unresolvedWith s.curtain.lastInterval) s)) := by
      show execResetNReleased s = _
      rw [execResetNReleased, if_pos hh]
    refine ⟨_, hexec.trans (congrArg _ e), rfl, rfl, rfl, rfl, rfl, rfl, rfl, rfl, rfl, rfl, rfl, rfl, rfl, rfl, hu, rfl, fun p => ?_⟩
    cases p
    exacts [hs.fields, hf.fields]

end Sys2Proof.Machine

/-! A first confirmed alarm (R28, R47, R51, R58, R194): the visit that confirms it, the entry that it makes, and what follows in the event. -/

namespace Sys2Proof.Machine

/-! ## The alarm list in the hand-offs of an event -/

section
variable {s0 s : State}

theorem Spares.mapScanner (f : Scanner → Scanner) (h : Spares s0 s) : Spares s0 (Machine.mapScanner f s) := h.same rfl
theorem Spares.disturb (h : Spares s0 s) : Spares s0 (Machine.disturb s) := h.same rfl

theorem Spares.channelNotice (n : Nat) (st : ChannelState) (ev : ChannelEvent) (mark : AlarmMark) (h : Spares s0 s) :
    Spares s0 (Machine.channelNotice n st ev mark s) := by
  unfold Machine.channelNotice; split
  · exact h
  · exact h
  · exact h.notify _ _

theorem Spares.changeNotice (n : Nat) (st : ChannelState) (ev : ChannelEvent) (mark : AlarmMark) (h : Spares s0 s) :
    Spares s0 (Machine.changeNotice n st ev mark s) := by
  unfold Machine.changeNotice; split
  · exact h
  · exact h.channelNotice _ _ _ _

theorem Spares.abandonWithAlarm (n : Nat) (h : Spares s0 s) : Spares s0 (Machine.abandonWithAlarm s n) := (h.mapScanner _).changeNotice _ _ _ _

theorem Spares.refreshPresented (h : Spares s0 s) : Spares s0 (Machine.refreshPresented s) := by
  unfold Machine.refreshPresented; split
  · exact h.same rfl
  split
  · exact h
  · exact Spares.notifyAlways _ (h.same rfl)

theorem Spares.outcomeNotice (out : CallOutcome) (o : Order) (h : Spares s0 s) : Spares s0 (Machine.outcomeNotice out o s) := h.callNotice _ _

theorem Spares.placeStaff (t : Target) (message : Nat) (h : Spares s0 s) : Spares s0 (Machine.placeStaff t message s) := by
  unfold Machine.placeStaff; split
  · exact h.enqueue _
  split
  · exact (h.endOrder _ _).enqueue _
  · exact ((h.mapCalls _).handOutcome _ _ _).outcomeNotice _ _

theorem Spares.soundAlarm (h : Spares s0 s) : Spares s0 (Machine.soundAlarm s) := by
  unfold Machine.soundAlarm; dsimp only; split
  · exact h.same rfl
  · exact Spares.placeEvac (h.same rfl)

theorem Spares.soundStep (fresh : Bool) (h : Spares s0 s) : Spares s0 (Machine.soundStep fresh s) := by
  unfold Machine.soundStep; split
  · exact h
  all_goals exact h.soundAlarm

theorem Spares.withdrawStaff (e : AlarmEntry) (h : Spares s0 s) : Spares s0 (Machine.withdrawStaff e s) := by
  unfold Machine.withdrawStaff; split
  · exact h.withdrawInternal _ _
  · exact h

theorem Spares.generalHandOffs (e : AlarmEntry) (fresh : Bool) (h : Spares s0 s) : Spares s0 (Machine.generalHandOffs e fresh s) := by
  have hr : Spares s0 (mapAlarm (fun u => { u with relay := true }) (Machine.withdrawStaff e (Machine.claimEvacuation s))) :=
    (h.claimEvacuation.withdrawStaff e).same rfl
  unfold Machine.generalHandOffs; dsimp only; split
  · exact (hr.soundStep fresh).curtainTrigger _
  · exact hr.soundStep fresh

end

/-! ## The abort of a store -/

/-- R194: the store after an abort. -/
def Store.aborted (u : Store) : Store :=
  match u.operation with
  | none => u
  | some op => { rows := u.rows.map (fun r => if r.name = op.name then { r with cell := .blank, stored := .blank } else r), operation := none }

theorem abortStore_eq (zone : Nat) (s : State) : ∃ u q, abortStore zone s = { s with store := s.store.aborted, sup := u, ports := q } := by
  unfold abortStore Store.aborted
  cases h : s.store.operation with
  | none => exact ⟨_, _, rfl⟩
  | some op =>
    obtain ⟨q, hn⟩ := notify_eq (mapStoreRow op.name (fun r => { r with cell := .blank, stored := .blank }) (setOperation none s)) .store
      (.storeAborted op.name zone)
    obtain ⟨u, r, hr⟩ := raiseFault_eq (.store op.name) .storeAborted
      { mapStoreRow op.name (fun r => { r with cell := .blank, stored := .blank }) (setOperation none s) with ports := q }
    exact ⟨u, r, by dsimp only; rw [hn, hr]; rfl⟩

theorem aborted_operation (u : Store) : u.aborted.operation = none := by
  unfold Store.aborted; split
  · assumption
  · rfl

/-- R194: the section of the operation aborted is left BLANK. -/
theorem aborted_blank {u : Store} {op : StoreOperation} (h : u.operation = some op) : ∀ r ∈ u.aborted.rows, r.name = op.name → r.stored = .blank := by
  intro r hr hn
  rw [Store.aborted, h] at hr
  obtain ⟨x, -, rfl⟩ := List.mem_map.1 hr
  by_cases hx : x.name = op.name
  · rw [if_pos hx]
  · rw [if_neg hx] at hn; exact absurd hn hx

/-! ## A list of one entry -/

/-- An entry but for its staff order is told by its other fields. -/
theorem core_fields {e x : AlarmEntry} (h : x.core = e.core) : x.zone = e.zone ∧ x.opening = e.opening ∧ x.channels = e.channels ∧
    x.stage = e.stage ∧ x.acked = e.acked ∧ x.raisedAt = e.raisedAt := by
  simp only [AlarmEntry.core, AlarmEntry.mk.injEq, and_true] at h
  obtain ⟨hz, ho, hc, hs, ha, hr⟩ := h
  exact ⟨hz, ho, hc, hs, ha, hr⟩

/-- Start-up is over, and the alarm list holds one entry, `e` but for its staff order, with the settings and the store as given. -/
structure State.Sole (v : Settings) (u : Store) (e : AlarmEntry) (t : State) : Prop where
  startStep : t.startStep = .done
  settings : t.settings = v
  store : t.store = u
  entries : ∃ x, t.alarm.entries = [x] ∧ x.core = e.core

theorem Spares.sole {s t : State} {v : Settings} {u : Store} {e : AlarmEntry} (h : Spares s t) (hs : s.Sole v u e) : t.Sole v u e := by
  obtain ⟨x, hx, hc⟩ := hs.entries
  refine ⟨h.startStep.trans hs.startStep, h.settings.trans hs.settings, h.store.trans hs.store, ?_⟩
  have he := h.entries
  rw [hx, List.map_singleton] at he
  obtain ⟨y, hy, hyc⟩ := List.map_eq_singleton_iff.1 he
  exact ⟨y, hy, hyc.trans hc⟩

/-- What further alarms of its zone leave of an entry (R48). -/
structure AlarmEntry.Joined (e x : AlarmEntry) : Prop where
  zone : x.zone = e.zone
  opening : x.opening = e.opening
  raisedAt : x.raisedAt = e.raisedAt
  acked : e.acked = none → x.acked = none
  stage : e.isGeneral = true → x.stage = e.stage
  channels : ∀ k ∈ e.channels, k ∈ x.channels

theorem AlarmEntry.Joined.refl (e : AlarmEntry) : e.Joined e := ⟨rfl, rfl, rfl, id, fun _ => rfl, fun _ h => h⟩

theorem AlarmEntry.Joined.trans {a b c : AlarmEntry} (h : a.Joined b) (k : b.Joined c) : a.Joined c :=
  ⟨k.zone.trans h.zone, k.opening.trans h.opening, k.raisedAt.trans h.raisedAt, fun x => k.acked (h.acked x),
    fun x => (k.stage (by rw [isGeneral, h.stage x]; exact x)).trans (h.stage x), fun n x => k.channels n (h.channels n x)⟩

theorem mem_insertNum {k n : Nat} {l : List Nat} (h : k ∈ l) : k ∈ insertNum n l := by
  induction l with
  | nil => cases h
  | cons m l ih =>
    unfold insertNum
    split_ifs
    · exact List.mem_cons_of_mem _ h
    · exact h
    · obtain rfl | h := List.mem_cons.1 h
      · exact List.mem_cons_self
      · exact List.mem_cons_of_mem _ (ih h)

theorem entry_of_sole {u : AlarmUnit} {x : AlarmEntry} {z : Nat} (h : u.entries = [x]) (hz : x.zone = z) : u.entry z = some x := by
  simp [AlarmUnit.entry, h, hz]

theorem change_of_sole {u : AlarmUnit} {x : AlarmEntry} {z : Nat} (f : AlarmEntry → AlarmEntry) (h : u.entries = [x]) (hz : x.zone = z) :
    (u.change z f).entries = [f x] := by
  simp [AlarmUnit.change, h, hz]

/-- R58: the entry made GENERAL. -/
theorem makeGeneral_sole {s : State} {v : Settings} {u : Store} {x : AlarmEntry} (fresh : Bool) (h : s.Sole v u x) (hx : s.alarm.entries = [x]) :
    (makeGeneral fresh s x.zone).Sole v u (x.general s.uptime) := by
  rw [makeGeneral, entry_of_sole hx rfl]
  refine ((Spares.refl _).disturb.generalHandOffs x fresh).sole ⟨h.startStep, h.settings, h.store, _, ?_, rfl⟩
  exact change_of_sole _ hx rfl

/-- R48: an alarm of a zone with an entry joins it, and makes it GENERAL. -/
theorem takeAlarm_sole {s : State} {v : Settings} {u : Store} {e : AlarmEntry} (m : Nat) (type : ChannelType) (h : s.Sole v u e) :
    ∃ x, e.Joined x ∧ (takeAlarm m e.zone type s).Sole v u x := by
  obtain ⟨x, hx, hc⟩ := h.entries
  obtain ⟨hzone, hopening, hchannels, hstage, hacked, hraised⟩ := core_fields hc
  let y : AlarmEntry := { x with channels := insertNum m x.channels }
  have hj : e.Joined y := ⟨hzone, hopening, hraised, fun a => hacked.trans a, fun _ => hstage, fun k hk => mem_insertNum (hchannels ▸ hk)⟩
  let s2 := mapAlarm (fun u => u.change e.zone (fun e => { e with channels := insertNum m e.channels })) (disturb s)
  have hy : s2.alarm.entries = [y] := change_of_sole _ hx hzone
  have hs2 : s2.Sole v u y := ⟨h.startStep, h.settings, h.store, y, hy, rfl⟩
  have htake : takeAlarm m e.zone type s = if x.isGeneral then s2 else makeGeneral false s2 e.zone := by
    rw [takeAlarm, entry_of_sole (u := (disturb s).alarm) hx hzone]
  rw [htake]
  split
  · exact ⟨y, hj, hs2⟩
  · rename_i hg
    have hgen := makeGeneral_sole false hs2 hy
    rw [show y.zone = e.zone from hzone] at hgen
    refine ⟨y.general s2.uptime, ⟨hj.zone, hj.opening, hj.raisedAt, fun _ => rfl, fun ha => ?_, hj.channels⟩, hgen⟩
    rw [AlarmEntry.isGeneral, ← hstage] at ha
    exact absurd ha hg

/-! ## Reports of alarms -/

/-- R28: with start-up over a confirmed alarm reaches the Alarm Unit at once. -/
theorem reportAlarm_done {s : State} (n : Nat) (mark : AlarmMark) (h : s.startStep = .done) :
    reportAlarm n mark s = takeAlarm n (s.settings.channel n).zone (s.settings.channel n).type
      (mapChannel n (fun c => { c with alarmReported := true }) s) := by
  have h' : (mapChannel n (fun c => { c with alarmReported := true }) s).startStep = .done := h
  rw [reportAlarm, handReports, if_pos h']; rfl

theorem reportAlarm_sole {s : State} {v : Settings} {u : Store} {e : AlarmEntry} (m : Nat) (mark : AlarmMark) (h : s.Sole v u e)
    (hm : (v.channel m).zone = e.zone) : ∃ x, e.Joined x ∧ (reportAlarm m mark s).Sole v u x := by
  rw [reportAlarm_done m mark h.startStep, h.settings, hm]
  exact takeAlarm_sole m _ (((Spares.refl s).mapScanner _).sole h)

/-- R37: the alarms of the abandoned verifications of the zone join the entry. -/
theorem reportAlarms_sole (mark : AlarmMark) (l : List Nat) : ∀ {s : State} {v : Settings} {u : Store} {e : AlarmEntry}, s.Sole v u e →
    (∀ m ∈ l, (v.channel m).zone = e.zone) →
      ∃ x, e.Joined x ∧ (l = [] → x = e) ∧ (l.foldl (fun s m => reportAlarm m mark s) s).Sole v u x := by
  induction l with
  | nil => exact fun {s v u e} h _ => ⟨e, .refl e, fun _ => rfl, h⟩
  | cons m l ih =>
    intro s v u e h hl
    obtain ⟨x, hx, hsx⟩ := reportAlarm_sole m mark h (hl m List.mem_cons_self)
    obtain ⟨y, hy, -, hsy⟩ := ih hsx fun k hk => (hl k (List.mem_cons_of_mem _ hk)).trans hx.zone.symm
    exact ⟨y, hx.trans hy, fun hnil => absurd hnil (List.cons_ne_nil _ _), hsy⟩

/-! ## The first entry -/

/-- R47: the stage of a new entry of an empty list. -/
def firstStage (z : Nat) (type : ChannelType) (s : State) : AlarmStage :=
  if startsGeneral z type s then .general s.uptime else .staffAlert (s.uptime + s.settings.zones.ackWindow)

/-- R47: the entry that a first alarm makes. -/
def firstEntry (n z : Nat) (type : ChannelType) (s : State) : AlarmEntry := ⟨z, some n, [n], firstStage z type s, none, s.uptime, none⟩

/-- R194: the abort leaves the alarm list. -/
theorem abortStore_sole {s : State} {v : Settings} {w : Store} {e : AlarmEntry} (z : Nat) (h : s.Sole v w e) : (abortStore z s).Sole v w.aborted e := by
  obtain ⟨u, q, ha⟩ := abortStore_eq z s
  rw [ha]
  exact ⟨h.startStep, h.settings, congrArg Store.aborted h.store, h.entries⟩

/-- An entry joins an empty list. -/
theorem append_sole {s : State} (e : AlarmEntry) (hd : s.startStep = .done) (h : s.alarm.entries = []) :
    (mapAlarm (fun u => { u with entries := u.entries ++ [e] }) s).Sole s.settings s.store e :=
  ⟨hd, rfl, rfl, e, congrArg (· ++ [e]) h, rfl⟩

theorem newGeneral_sole {s : State} (z n : Nat) (hd : s.startStep = .done) (h : s.alarm.entries = []) :
    (newGeneral z (some n) s).Sole s.settings s.store.aborted ⟨z, some n, [n], .general s.uptime, none, s.uptime, none⟩ := by
  have hold : s.alarm.notGeneral = [] := by rw [AlarmUnit.notGeneral, h]; rfl
  rw [newGeneral, hold, List.foldl_nil]
  exact ((Spares.refl _).generalHandOffs _ true).sole (abortStore_sole z ((Spares.refl _).disturb.sole (append_sole _ hd h)))

theorem newStaffAlert_sole {s : State} (z n : Nat) (hd : s.startStep = .done) (h : s.alarm.entries = []) :
    (newStaffAlert z n s).Sole s.settings s.store.aborted
      ⟨z, some n, [n], .staffAlert (s.uptime + s.settings.zones.ackWindow), none, s.uptime, none⟩ := by
  have ha := abortStore_sole z (append_sole
    ⟨z, some n, [n], .staffAlert (s.uptime + s.settings.zones.ackWindow), none, s.uptime, some s.nextInternalTag⟩ hd h)
  obtain ⟨hstep, hset, hstore, he⟩ := ((Spares.refl _).placeStaff _ _).sole ha
  exact ⟨hstep, hset, hstore, he⟩

/-- R47: a first alarm makes an entry of its zone. -/
theorem takeAlarm_first {s : State} (n z : Nat) (type : ChannelType) (h : s.alarm.entries = []) :
    takeAlarm n z type s = if startsGeneral z type s then newGeneral z (some n) (disturb s) else newStaffAlert z n (disturb s) := by
  have hentry : (disturb s).alarm.entry z = none := by simp [AlarmUnit.entry, disturb, mapAlarm, h]
  rw [takeAlarm, hentry]; rfl

theorem takeAlarm_first_sole {s : State} (n z : Nat) (type : ChannelType) (hd : s.startStep = .done) (h : s.alarm.entries = []) :
    (takeAlarm n z type s).Sole s.settings s.store.aborted (firstEntry n z type s) := by
  rw [takeAlarm_first n z type h, firstEntry, firstStage]
  split
  · exact newGeneral_sole (s := disturb s) z n hd h
  · exact newStaffAlert_sole (s := disturb s) z n hd h

/-! ## The visit -/

theorem record_change {f : ChannelRecord → ChannelRecord} (hf : ∀ c, (f c).num = c.num) (u : Scanner) (n : Nat) :
    (u.change n f).record n = (u.record n).map f := by
  have hnum : ((fun c => c.num == n) ∘ fun c => if c.num == n then f c else c) = fun c => c.num == n := by
    funext c
    simp only [Function.comp]; split
    · rw [hf]
    · rfl
  rw [Scanner.record, Scanner.change, List.find?_map, hnum]
  show Option.map _ (u.record n) = _
  cases h : u.record n with
  | none => rfl
  | some c => exact congrArg some (if_pos (List.find?_some (p := fun c : ChannelRecord => c.num == n) h))

/-- R34: the verifications of a zone are told by each record's number and cut. -/
theorem verifyingIn_mapChannel {f : ChannelRecord → ChannelRecord} (hf : ∀ c, (f c).num = c.num ∧ (f c).cut = c.cut) (z n : Nat) (s : State) :
    verifyingIn z (mapChannel n f s) = verifyingIn z s := by
  have hcut : ((fun c => c.inCut .verification) ∘ fun c => if c.num == n then f c else c) = fun c : ChannelRecord => c.inCut .verification := by
    funext c
    simp only [Function.comp, ChannelRecord.inCut]; split
    · rw [(hf c).2]
    · rfl
  have hnum : (ChannelRecord.num ∘ fun c => if c.num == n then f c else c) = ChannelRecord.num := by
    funext c
    simp only [Function.comp]; split
    · exact (hf c).1
    · rfl
  refine congrArg (List.filter fun m => (s.settings.channel m).zone == z) ?_
  show (List.filter _ (s.scanner.channels.map _)).map ChannelRecord.num = _
  rw [List.filter_map, hcut, List.map_map, hnum]

theorem mem_verifyingIn {z m : Nat} {s : State} (h : m ∈ verifyingIn z s) : (s.settings.channel m).zone = z := by
  simpa using (List.mem_filter.1 h).2

theorem verifyingIn_nil {z : Nat} {s : State} (h : ∀ x ∈ s.scanner.channels, (s.settings.channel x.num).zone = z → x.inCut .verification = false) :
    verifyingIn z s = [] := by
  refine List.filter_eq_nil_iff.2 fun m hm hz => ?_
  obtain ⟨x, hx, rfl⟩ := List.mem_map.1 hm
  obtain ⟨hx, hcut⟩ := List.mem_filter.1 hx
  rw [h x hx (by simpa using hz)] at hcut
  cases hcut

/-- R28: the record of a channel whose change to ALARM is taken. -/
def ChannelRecord.alarmed (c : ChannelRecord) : ChannelRecord := { c with state := .alarm, firstPending := false }

/-- R28: ALARM confirmed on a channel that has reported none, in a zone with no verification asked. -/
theorem takeConfirmed_alarm {s : State} {n : Nat} {c : ChannelRecord} (hr : s.scanner.record n = some c) (hs : c.state = .normal)
    (ha : c.alarmReported = false) (hi : s.settings.isolatedInEffect n = false)
    (hz : (s.settings.zone (s.settings.channel n).zone).verify = false) :
    takeConfirmed n .alarm s = alarmConfirmed n .normal (mapChannel n ChannelRecord.alarmed s) := by
  have hv : verifies n s = false := by simp [verifies, hz]
  rw [takeConfirmed, hr]
  dsimp only
  rw [hi, if_neg (by decide), if_neg (by simp), if_pos (.inr (by simp [hs, bandState])), changeState, if_pos rfl, hv, if_neg (by decide), hr]
  simp only [Option.any_some, ha, hs]
  rfl

/-- The state of the Scanner's records when the alarm of a visit is reported. -/
def State.alarmRead (s : State) (n : Nat) (reading : Byte) : State :=
  mapChannel n ChannelRecord.alarmed (mapChannel n (fun c => c.read reading .alarm (s.settings.channel n).confirm) s)

/-- R26 to R28: a visit that confirms a first alarm. -/
theorem visitChannel_alarm {s : State} {n : Nat} {c : ChannelRecord} {reading : Byte} (hr : s.scanner.record n = some c) (hcut : c.cut = none)
    (hs : c.state = .normal) (ha : c.alarmReported = false) (hc : c.confirms .alarm (s.settings.channel n).confirm = true)
    (hb : bandOf (s.settings.channel n) reading = .alarm) (hi : s.settings.isolatedInEffect n = false)
    (hz : (s.settings.zone (s.settings.channel n).zone).verify = false) :
    ∃ f, visitChannel n reading s = mapScanner f (alarmConfirmed n .normal (s.alarmRead n reading)) := by
  let s1 := mapChannel n (fun c => c.read reading .alarm (s.settings.channel n).confirm) s
  have hr1 : s1.scanner.record n = some (c.read reading .alarm (s.settings.channel n).confirm) := by
    show (s.scanner.change n _).record n = _
    rw [record_change (f := fun c => c.read reading .alarm (s.settings.channel n).confirm) (fun _ => rfl), hr]; rfl
  have htaken := takeConfirmed_alarm (s := s1) hr1 hs ha hi hz
  have hjudge : judgeVisit n c .alarm true s1 = takeConfirmed n .alarm s1 := by rw [judgeVisit, hcut]; rfl
  refine ⟨fun u => { u with path := u.nextAfter (alarmConfirmed n .normal (s.alarmRead n reading)).settings n }, ?_⟩
  rw [visitChannel, hr]
  dsimp only
  rw [hb, hc, show mapChannel n (fun c => c.read reading .alarm (s.settings.channel n).confirm) s = s1 from rfl, hjudge, htaken]
  rfl

/-- R28, R37, R47: the alarm list after a first alarm, with the abandoned verifications of its zone. -/
theorem alarmConfirmed_sole {s : State} {n : Nat} (previous : ChannelState) (hd : s.startStep = .done) (h : s.alarm.entries = []) :
    ∃ x, (firstEntry n (s.settings.channel n).zone (s.settings.channel n).type s).Joined x ∧
      (verifyingIn (s.settings.channel n).zone s = [] → x = firstEntry n (s.settings.channel n).zone (s.settings.channel n).type s) ∧
      (alarmConfirmed n previous s).Sole s.settings s.store.aborted x := by
  have hfirst : (reportAlarm n .plain s).Sole s.settings s.store.aborted (firstEntry n (s.settings.channel n).zone (s.settings.channel n).type s) := by
    rw [reportAlarm_done n .plain hd]
    exact takeAlarm_first_sole (s := mapChannel n _ s) n _ _ hd h
  obtain ⟨x, hj, hx, hs⟩ := reportAlarms_sole .abandoned (verifyingIn (s.settings.channel n).zone s) hfirst fun m hm => mem_verifyingIn hm
  refine ⟨x, hj, hx, ?_⟩
  exact (Spares.foldl _ (fun _ _ m h => h.abandonWithAlarm m) _ ((Spares.refl _).changeNotice n previous .state .plain)).sole hs

/-! ## The staff stage -/

theorem not_waiting_of_sounding {o : Order} (h : o.isSounding = true) : o.isWaiting = false := by
  cases hs : o.state <;> simp_all [Order.isWaiting, Order.isSounding]

theorem not_due_of_sounding {o : Order} (h : o.isSounding = true) : o.isDue = false := by
  cases hs : o.state <;> simp_all [Order.isDue, Order.isSounding]

theorem makeDue_mem {now : Nat} {u : Calls} {o : Order} (h : o ∈ u.queue) (ho : o.isWaiting = true) (hd : o.dueAt u = true) :
    { o with state := .due now } ∈ (makeDue now u).queue := by
  refine List.mem_map.2 ⟨o, h, ?_⟩
  rw [ho, hd]; rfl

/-- R128: what becomes due keeps its class, and was not SOUNDING. -/
theorem mem_makeDue {now : Nat} {u : Calls} {x : Order} (h : x ∈ (makeDue now u).queue) :
    ∃ o ∈ u.queue, x.cls = o.cls ∧ (o.isSounding = true → x = o) := by
  obtain ⟨o, ho, rfl⟩ := List.mem_map.1 h
  refine ⟨o, ho, by split <;> rfl, fun hs => if_neg fun hw => ?_⟩
  rw [not_waiting_of_sounding hs] at hw
  cases hw

/-- R138: a lower order that joins a line held by another leaves the line as it is. -/
theorem contend_joinQueue {s : State} {o : Order} (h : s.lineHeld) (ho : o.cls ≠ .lifeSafety) : contend (joinQueue o s) = joinQueue o s := by
  obtain ⟨hsound, hlower, -⟩ := h
  have hdue : (joinQueue o s).calls.queue.any (fun x => x.isDue && x.cls == .lifeSafety) = false := by
    rw [List.any_eq_false]
    intro x hx hlife
    simp only [Bool.and_eq_true, beq_iff_eq] at hlife
    obtain ⟨y, hy, hcls, hsame⟩ := mem_makeDue hx
    obtain hy | hy := List.mem_append.1 hy
    · have := List.all_eq_true.1 hlower y hy
      simp only [Bool.or_eq_true, bne_iff_ne] at this
      obtain hys | hys := this
      · rw [← hsame hys] at hys
        exact absurd hlife.1 (by rw [not_due_of_sounding hys]; decide)
      · exact hys (hcls ▸ hlife.2)
    · exact ho ((List.mem_singleton.1 hy) ▸ hcls ▸ hlife.2)
  have hline : (joinQueue o s).calls.sounding.isSome = true := by
    obtain ⟨y, hy⟩ := Option.isSome_iff_exists.1 hsound
    refine List.find?_isSome.2 ⟨y, List.mem_map.2 ⟨y, List.mem_append_left _ (List.mem_of_find?_eq_some hy), ?_⟩, List.find?_some hy⟩
    refine if_neg fun hw => ?_
    rw [not_waiting_of_sounding (List.find?_some hy)] at hw
    cases hw
  rw [contend]
  obtain ⟨y, hy⟩ := Option.isSome_iff_exists.1 hline
  rw [hy]
  dsimp only
  rw [hdue, if_neg (by simp)]

/-- R51, R138: a staff call placed while the line is held waits in the queue. -/
theorem placeStaff_lineHeld {s : State} (t : Target) (message : Nat) (h : s.lineHeld) :
    placeStaff t message s = joinQueue (internalOrder s .alarm .staff (.staffCode message) t .untilReleased .now none) s := by
  obtain ⟨-, -, hroom⟩ := id h
  rw [placeStaff, if_pos hroom]
  exact contend_joinQueue h (by simp [internalOrder])

theorem notifyAlways_eq (n : Notice) (s : State) : ∃ q, notifyAlways n s = { s with ports := q } := by
  have one : ∀ (p : Port) (s : State), ∃ q, placeAlways p n s = { s with ports := q } := fun p s => by
    unfold placeAlways; split
    · exact ⟨_, rfl⟩
    · exact ⟨s.ports, rfl⟩
  obtain ⟨q, hq⟩ := one .stage s
  obtain ⟨r, hr⟩ := one .front { s with ports := q }
  exact ⟨r, by rw [notifyAlways, hq, hr]⟩

theorem changeNotice_eq (n : Nat) (st : ChannelState) (ev : ChannelEvent) (mark : AlarmMark) (s : State) :
    ∃ q, changeNotice n st ev mark s = { s with ports := q } := by
  unfold changeNotice channelNotice
  split
  · exact ⟨s.ports, rfl⟩
  · split
    · exact ⟨s.ports, rfl⟩
    · exact ⟨s.ports, rfl⟩
    · exact notify_eq s _ _

/-- R61, R62: what is presented changes no entry. -/
theorem refreshPresented_eq (s : State) : ∃ l q, refreshPresented s = { s with alarm := { s.alarm with lastShown := l }, ports := q } := by
  unfold refreshPresented
  split
  · exact ⟨none, s.ports, rfl⟩
  split
  · exact ⟨s.alarm.lastShown, s.ports, rfl⟩
  · rename_i e _ _
    obtain ⟨q, h⟩ := notifyAlways_eq (presentedNotice e s) (mapAlarm (fun u => { u with lastShown := some (e.zone, e.stage.name) }) s)
    exact ⟨_, q, h⟩

end Sys2Proof.Machine

/-! The event of a first confirmed alarm, from the visit to its end, at GENERAL and at STAFF_ALERT (R47, R51, R58, R59). -/

namespace Sys2Proof.Machine

/-- A visit of the channel that the path is on. -/
theorem execVisit_next {s : State} {n : Nat} (reading : Byte) (h : s.resetHeld = false) (hp : s.scanner.path = some n) :
    exec (.visit reading) s = .next (settle (refreshPresented (visitChannel n reading s))) := by
  show execVisit reading s = _
  rw [execVisit, command_next _ h, hp]

theorem houseOccupied_false_iff (ph : Phase) : houseOccupied ph = false ↔ ph ∈ [Phase.dark, .prepare, .evacuation] := by
  cases ph <;> decide

/-- R47: where a first alarm makes its entry at GENERAL. -/
theorem startsGeneral_iff {z : Nat} {type : ChannelType} {s : State} (h : s.alarm.entries = []) : startsGeneral z type s = true ↔
    s.perf.phase ∈ [Phase.dark, .prepare, .evacuation] ∨ (s.settings.zone z).staged = false ∨ type = .callPoint ∨ type = .flowSwitch := by
  rw [← houseOccupied_false_iff]
  simp [startsGeneral, h, or_assoc]

/-- The verifications of a zone as the visit's reading leaves them. -/
theorem verifyingIn_alarmRead (z n : Nat) (reading : Byte) (s : State) : verifyingIn z (s.alarmRead n reading) = verifyingIn z s :=
  (verifyingIn_mapChannel (f := ChannelRecord.alarmed) (fun _ => ⟨rfl, rfl⟩) z n _).trans
    (verifyingIn_mapChannel (f := fun c => c.read reading .alarm (s.settings.channel n).confirm) (fun _ => ⟨rfl, rfl⟩) z n s)

/-- R28, R47: the alarm list after the visit's report, by the state before the visit. -/
theorem alarmRead_sole {s : State} {n : Nat} (reading : Byte) (previous : ChannelState) (hd : s.startStep = .done) (h : s.alarm.entries = []) :
    ∃ x, (firstEntry n (s.settings.channel n).zone (s.settings.channel n).type s).Joined x ∧
      (verifyingIn (s.settings.channel n).zone s = [] → x = firstEntry n (s.settings.channel n).zone (s.settings.channel n).type s) ∧
      (alarmConfirmed n previous (s.alarmRead n reading)).Sole s.settings s.store.aborted x := by
  obtain ⟨x, hj, he, hs⟩ := alarmConfirmed_sole (s := s.alarmRead n reading) (n := n) previous hd h
  exact ⟨x, hj, fun hv => he ((verifyingIn_alarmRead _ n reading s).trans hv), hs⟩

/-! ## At GENERAL -/

/-- R13, R59: with an entry at GENERAL the phase is EVACUATION and the evacuation relay is on. -/
theorem State.generalSafe.single {t : State} {x : AlarmEntry} (h : t.generalSafe) (hx : t.alarm.entries = [x]) (hg : x.isGeneral = true) :
    t.perf.phase = .evacuation ∧ t.alarm.relay = true :=
  h (by simp [State.anyGeneral, hx, hg])

/-- A visit with an empty alarm list keeps the list's safety. -/
theorem visit_generalSafe {s t : State} {reading : Byte} (h : s.alarm.entries = []) (ht : exec (.visit reading) s = .next t) : t.generalSafe := by
  obtain ⟨u, hu, hs⟩ := execVisit_keeps reading s
  have hut : u = t := by
    have := hu.symm.trans ht
    injection this
  exact hut ▸ hs.general fun hg => by simp [State.anyGeneral, h] at hg

/-! ## At STAFF_ALERT -/

/-- R47, R51: the entry of a first alarm at STAFF_ALERT, with the tag of its staff call. -/
def staffEntry (z n : Nat) (s : State) : AlarmEntry :=
  ⟨z, some n, [n], .staffAlert (s.uptime + s.settings.zones.ackWindow), none, s.uptime, some s.nextInternalTag⟩

/-- What the Alarm Unit has made of a first alarm at STAFF_ALERT, before the staff call is placed. -/
structure StaffStage (z n : Nat) (s b : State) : Prop where
  perf : b.perf = s.perf
  calls : b.calls = s.calls
  loop : b.loop = s.loop
  relay : b.alarm.relay = s.alarm.relay
  entries : b.alarm.entries = [staffEntry z n s]

/-- R51: the staff call of a zone placed. -/
def placeZoneStaff (z : Nat) (s b : State) : State := placeStaff (s.settings.zone z).staffTarget (s.settings.zone z).staffMessage b

/-- R50, R51: the entry and the abort, then the staff call. -/
theorem newStaffAlert_eq {s : State} (z n : Nat) (h : s.alarm.entries = []) : ∃ b, StaffStage z n s b ∧ newStaffAlert z n s = placeZoneStaff z s b := by
  let s1 := mapAlarm (fun u => { u with entries := u.entries ++ [staffEntry z n s] }) s
  obtain ⟨u, q, ha⟩ := abortStore_eq z s1
  have hb : StaffStage z n s (abortStore z s1) := by
    rw [ha]; exact ⟨rfl, rfl, rfl, rfl, congrArg (· ++ _) h⟩
  have hset : (abortStore z s1).settings = s.settings := by rw [ha]; rfl
  refine ⟨_, hb, ?_⟩
  show placeStaff ((abortStore z s1).settings.zone z).staffTarget ((abortStore z s1).settings.zone z).staffMessage (abortStore z s1) = _
  rw [hset]; rfl

/-- R28, R62: after the report the event touches the Scanner, what was last shown and the notices alone. -/
theorem afterReport_eq (f : Scanner → Scanner) (n : Nat) (previous : ChannelState) (y : State) : ∃ c l q,
    refreshPresented (mapScanner f (changeNotice n previous .state .plain y)) =
      { y with scanner := c, alarm := { y.alarm with lastShown := l }, ports := q } := by
  obtain ⟨q, h⟩ := changeNotice_eq n previous .state .plain y
  obtain ⟨l, r, k⟩ := refreshPresented_eq (mapScanner f { y with ports := q })
  exact ⟨_, l, r, by rw [h, k]; rfl⟩

/-- R28, R47: the visit of a first alarm at STAFF_ALERT, with no verification to abandon. -/
theorem alarmConfirmed_staff {s : State} {n : Nat} (reading : Byte) (previous : ChannelState) (f : Scanner → Scanner) (hd : s.startStep = .done)
    (h : s.alarm.entries = []) (hs : startsGeneral (s.settings.channel n).zone (s.settings.channel n).type s = false)
    (hv : verifyingIn (s.settings.channel n).zone s = []) :
    ∃ b y c l q, StaffStage (s.settings.channel n).zone n s b ∧ y = placeZoneStaff (s.settings.channel n).zone s b ∧
      refreshPresented (mapScanner f (alarmConfirmed n previous (s.alarmRead n reading))) =
        { y with scanner := c, alarm := { y.alarm with lastShown := l }, ports := q } := by
  let r := s.alarmRead n reading
  let a := mapChannel n (fun c => { c with alarmReported := true }) r
  have hreport : reportAlarm n .plain r = newStaffAlert (s.settings.channel n).zone n (disturb a) := by
    rw [reportAlarm_done (s := r) n .plain hd]
    have hng : ¬ startsGeneral (s.settings.channel n).zone (s.settings.channel n).type a = true :=
      fun hg => Bool.false_ne_true (hs.symm.trans hg)
    exact (takeAlarm_first (s := a) n _ _ h).trans (if_neg hng)
  have hconfirmed : alarmConfirmed n previous r = changeNotice n previous .state .plain (reportAlarm n .plain r) := by
    have hnone : verifyingIn (r.settings.channel n).zone r = [] := (verifyingIn_alarmRead _ n reading s).trans hv
    rw [alarmConfirmed, hnone]; rfl
  obtain ⟨b, hb, hstaff⟩ := newStaffAlert_eq (s := disturb a) (s.settings.channel n).zone n h
  obtain ⟨c, l, q, htail⟩ := afterReport_eq f n previous (reportAlarm n .plain r)
  refine ⟨b, reportAlarm n .plain r, c, l, q, ⟨hb.perf, hb.calls, hb.loop, hb.relay, hb.entries⟩, hreport.trans hstaff, ?_⟩
  rw [← htail, ← hconfirmed]

/-- With no room to report, the end of an event leaves the calls and the alarm list. -/
theorem settle_served_alarm {s : State} (h : s.loop.roomOwed = false) : (settle s).calls = s.calls ∧ (settle s).alarm = s.alarm := by
  rw [settle_served s h]
  constructor
  · rw [transmit_get_calls, takeWork_calls]
  · rw [transmit_get_alarm, takeWork_eq]

/-- R51: a staff call that waits stands in the queue under the tag that its entry holds. -/
theorem joinQueue_staff (t : Target) (message : Nat) (b : State) :
    ∃ o ∈ (joinQueue (internalOrder b .alarm .staff (.staffCode message) t .untilReleased .now none) b).calls.queue,
      o.tag = b.nextInternalTag ∧ o.origin = .alarm ∧ o.cls = .staff ∧ o.kind = .staffCode message ∧ o.target = t ∧
        o.repeats = .untilReleased ∧ o.anchor = .now :=
  ⟨_, makeDue_mem (List.mem_append_right _ (List.mem_singleton.2 rfl)) rfl rfl, rfl, rfl, rfl, rfl, rfl, rfl, rfl⟩

/-- R47, R51: the end of the event of a first alarm at STAFF_ALERT. -/
theorem settle_staff {s b y x : State} {z n : Nat} {c : Scanner} {l : Option (Nat × StageName)} {q : Ports} (hb : StaffStage z n s b)
    (hy : y = placeZoneStaff z s b)
    (hx : x = { y with scanner := c, alarm := { y.alarm with lastShown := l }, ports := q }) :
    (settle x).perf = s.perf ∧ (settle x).alarm.relay = s.alarm.relay ∧
      (s.idle → s.lineHeld → (settle x).alarm.entries = [staffEntry z n s] ∧
        ∃ o ∈ (settle x).calls.queue, o.tag = s.nextInternalTag ∧ o.origin = .alarm ∧ o.cls = .staff ∧
          o.kind = .staffCode (s.settings.zone z).staffMessage ∧ o.target = (s.settings.zone z).staffTarget ∧
          o.repeats = .untilReleased ∧ o.anchor = .now) := by
  have hl := (Leaves.refl b).placeStaff (s.settings.zone z).staffTarget (s.settings.zone z).staffMessage
  have ht := (Leaves.refl x).settle
  rw [← show y = placeStaff _ _ b from hy] at hl
  subst hx
  refine ⟨ht.perf.trans (hl.perf.trans hb.perf), ?_, fun hidle hline => ?_⟩
  · rw [ht.alarm]
    show y.alarm.relay = _
    rw [hl.alarm]; exact hb.relay
  · have hlineb : b.lineHeld := by unfold State.lineHeld at hline ⊢; rwa [hb.calls]
    rw [placeZoneStaff, placeStaff_lineHeld _ _ hlineb] at hy
    subst hy
    obtain ⟨hcalls, halarm⟩ := settle_served_alarm (s := { joinQueue (internalOrder b .alarm .staff (.staffCode (s.settings.zone z).staffMessage)
        (s.settings.zone z).staffTarget .untilReleased .now none) b with scanner := c, alarm := { b.alarm with lastShown := l }, ports := q })
      (by show b.loop.roomOwed = false; rw [hb.loop]; exact ((idle_iff s).1 hidle).1)
    have htag : b.nextInternalTag = s.nextInternalTag := by rw [State.nextInternalTag, hb.calls]; rfl
    refine ⟨(congrArg AlarmUnit.entries halarm).trans hb.entries, ?_⟩
    obtain ⟨o, ho, hotag, hrest⟩ := joinQueue_staff (s.settings.zone z).staffTarget (s.settings.zone z).staffMessage b
    exact ⟨o, (congrArg Calls.queue hcalls).symm ▸ ho, hotag.trans htag, hrest⟩

/-! ## The event -/

/-- Settles O25: the list holds the one entry that the alarm made, and its stage decides the rest. -/
theorem confirmedAlarmBringsEvacuation : Obligations.ConfirmedAlarmBringsEvacuation := by
  intro s n c reading v z hh alone hd hpath hrec hcut hst har hv hz hconf hband hiso hver hent
  subst hv hz
  obtain ⟨f, hvisit⟩ := visitChannel_alarm hrec hcut hst har hconf hband hiso hver
  have hexec := execVisit_next reading hh hpath
  rw [hvisit] at hexec
  obtain ⟨e, hj, he, hsole⟩ := alarmRead_sole (n := n) reading .normal hd hent
  have hend := ((Spares.refl _).mapScanner f).refreshPresented.settle.sole hsole
  obtain ⟨x, hx, hcore⟩ := hend.entries
  obtain ⟨hzone, hopening, hchannels, hstage, hacked, hraised⟩ := core_fields hcore
  have halone : alone → e = firstEntry n (s.settings.channel n).zone (s.settings.channel n).type s := fun ha =>
    he (verifyingIn_nil ha)
  refine ⟨_, hexec, hend.store ▸ aborted_operation _, fun op hop => hend.store ▸ aborted_blank hop, fun hgen => ?_,
    fun hph hstaged hcp hfs ha haw => ?_⟩
  · have hfirst : firstStage (s.settings.channel n).zone (s.settings.channel n).type s = .general s.uptime := if_pos ((startsGeneral_iff hent).2 hgen)
    have hgeneral : x.stage = .general s.uptime :=
      hstage.trans ((hj.stage (by show AlarmStage.name (firstStage _ _ s) == _; rw [hfirst]; rfl)).trans hfirst)
    obtain ⟨hphase, hrelay⟩ := (visit_generalSafe hent hexec).single hx (by rw [AlarmEntry.isGeneral, hgeneral]; rfl)
    exact ⟨hphase, hrelay, x, hx, hzone.trans hj.zone, hgeneral, hopening.trans hj.opening, hchannels ▸ hj.channels n (List.mem_singleton.2 rfl),
      fun ha => hchannels.trans (by rw [halone ha]; rfl), hraised.trans hj.raisedAt, hacked.trans (hj.acked rfl)⟩
  · have hng : startsGeneral (s.settings.channel n).zone (s.settings.channel n).type s = false := by
      rw [Bool.eq_false_iff]
      intro hg
      obtain h | h | h | h := (startsGeneral_iff hent).1 hg
      exacts [hph h, absurd (hstaged.symm.trans h) (by decide), hcp h, hfs h]
    obtain ⟨b, y, sc, l, q, hb, hy, htail⟩ := alarmConfirmed_staff reading .normal f hd hent hng (verifyingIn_nil ha)
    obtain ⟨hperf, hrelay, hcall⟩ := settle_staff hb hy htail
    have hfirst : firstStage (s.settings.channel n).zone (s.settings.channel n).type s = .staffAlert (s.uptime + s.settings.zones.ackWindow) :=
      if_neg (by rw [hng]; decide)
    rw [halone ha] at hzone hopening hchannels hstage hacked hraised
    refine ⟨congrArg PerfRecord.phase hperf, hrelay, x, hx, hzone, hstage.trans hfirst, hopening, hchannels, hraised, hacked, fun hline => ?_⟩
    obtain ⟨hentries, horder⟩ := hcall haw.2 hline
    obtain rfl : x = staffEntry (s.settings.channel n).zone n s := by simpa using hx.symm.trans hentries
    exact ⟨rfl, horder⟩

end Sys2Proof.Machine

/-! The form of a command: its effect with the end of its event, or what it senses while RESET_N is asserted (log entry 3). From it: every event comes to its end, the outputs are held safe through RESET_N, and the requests that are answered by a reply alone (R42 and the requests of Stage alone). -/

namespace Sys2Proof.Machine

/-! ## The form of a command -/

/-- What a command does while RESET_N is asserted: the line stays asserted, and what it holds safe stays safe. -/
structure HoldsLine (s t : State) : Prop where
  held : t.resetHeld = s.resetHeld
  safe : s.heldSafe → t.heldSafe

theorem HoldsLine.refl (s : State) : HoldsLine s s := ⟨rfl, id⟩

/-- The form of every command but power-on and the changes of RESET_N: while RESET_N is asserted the command only senses; otherwise its
effect brings the event to its end. -/
def EndsEvent (e : State → Host.Outcome State Fault Refusal) : Prop :=
  ∃ sense effect : State → State, (∀ s, HoldsLine s (sense s)) ∧
    ∀ s, e s = if s.resetHeld then .next (sense s) else .next (settle (effect s))

theorem command_endsEvent (f : State → State) : EndsEvent (command f) := ⟨id, f, HoldsLine.refl, fun _ => rfl⟩

/-- R99: while RESET_N is asserted a line is only sensed. -/
theorem lineCommand_endsEvent (sense : Lines → Lines) (f : State → State) : EndsEvent (lineCommand sense f) := by
  refine ⟨mapLines sense, f, fun s => ⟨rfl, id⟩, fun s => ?_⟩
  unfold lineCommand command
  split
  · rfl
  · rfl

/-- R87: with no drop timed an encoder step has none to watch. -/
theorem watchDrop_none {s : State} (i : Nat) (h : s.curtain.drop = none) : watchDrop i s = s := by rw [watchDrop, h]

/-- R76, R99: an encoder step while RESET_N is asserted moves no output. -/
theorem encoderStep_holdsLine (line : EncoderLine) (interval : Nat) (s : State) : HoldsLine s (encoderStep line interval s) := by
  refine ⟨((Keeps.refl s).encoderStep line interval).held, fun h => ?_⟩
  obtain ⟨-, -, -, -, -, -, -, hdrop, -⟩ := id h
  unfold encoderStep; dsimp only
  rw [watchDrop_none _ (by exact hdrop), ite_self]
  exact h

theorem encoderStep_endsEvent (line : EncoderLine) (interval : Nat) : EndsEvent (execEncoderStep line interval) := by
  refine ⟨encoderStep line interval, encoderStep line interval, encoderStep_holdsLine line interval, fun s => ?_⟩
  unfold execEncoderStep command
  split
  · rfl
  · rfl

/-- Every command but power-on and the changes of RESET_N, by its constructor: the lines and the encoder are sensed while RESET_N is asserted,
and of the rest nothing is taken (log entry 3). -/
theorem exec_endsEvent (c : Instr) (hp : c ≠ .powerOn) (ha : c ≠ .resetNAsserted) (hr : c ≠ .resetNReleased) : EndsEvent (exec c) := by
  cases c with
  | powerOn => exact absurd rfl hp
  | resetNAsserted => exact absurd rfl ha
  | resetNReleased => exact absurd rfl hr
  | limitBottomActive => exact lineCommand_endsEvent _ _
  | limitBottomLost => exact lineCommand_endsEvent _ _
  | limitTopActive => exact lineCommand_endsEvent _ _
  | limitTopLost => exact lineCommand_endsEvent _ _
  | settingLineChange => exact lineCommand_endsEvent _ _
  | emergReleaseAsserted => exact lineCommand_endsEvent _ _
  | emergReleaseReleased => exact lineCommand_endsEvent _ _
  | encoderStep line interval => exact encoderStep_endsEvent line interval
  | _ => exact command_endsEvent _

/-! ## The end of the event -/

/-- RESET_N is asserted, or no event is under way. -/
def State.rests (s : State) : Prop := s.resetHeld = true ∨ s.idle

/-- The queue of waiting commands plays no part in whether an event is under way. -/
theorem idle_withPending (q : List Instr) {s : State} (h : s.idle) : (s.withPending q).idle := by
  obtain ⟨hroom, hpath, hwork, hsent⟩ := (idle_iff s).1 h
  obtain ⟨hlight, hloop⟩ := takeWork_congr s (s.withPending q) rfl rfl rfl rfl
  refine (idle_iff _).2 ⟨hroom, hpath, ?_, ?_⟩
  · rw [takeWork_eq, hlight, hloop, hwork]; rfl
  · exact congrArg (State.withPending · q) hsent

theorem rests_withPending (q : List Instr) {s : State} (h : s.rests) : (s.withPending q).rests := h.imp id (idle_withPending q)

theorem EndsEvent.rests {e : State → Host.Outcome State Fault Refusal} (h : EndsEvent e) {s t : State} (ht : e s = .next t) : t.rests := by
  obtain ⟨sense, effect, hsense, he⟩ := h
  rw [he] at ht
  split at ht
  · rename_i hh
    injection ht with ht
    exact .inl (ht ▸ (hsense s).held.trans hh)
  · injection ht with ht
    exact .inr (ht ▸ settle_idle _)

/-- A command leaves nothing to start, if nothing was: the three that act on RESET_N included. -/
theorem exec_rests {c : Instr} {s t : State} (hs : s.rests) (h : exec c s = .next t) : t.rests := by
  by_cases hp : c = .powerOn
  · subst hp; injection h with h
    exact .inr (h ▸ settle_idle _)
  by_cases ha : c = .resetNAsserted
  · subst ha; injection h with h
    subst h; split
    · exact hs
    · exact .inl rfl
  by_cases hr : c = .resetNReleased
  · subst hr; injection h with h
    subst h; split
    · exact .inr (settle_idle _)
    · exact hs
  exact (exec_endsEvent c hp ha hr).rests h

theorem idleTick_rests (s : State) : (idleTick s).rests := by
  unfold idleTick; split
  · rename_i hh; exact .inl hh
  · exact .inr (settle_idle _)

/-- Settles O4: by the front command, or the tick of an empty queue. -/
theorem everyStepEndsItsEvent : Obligations.EveryStepEndsItsEvent := by
  intro s t hs h
  unfold step at h
  split at h
  · injection h with h
    exact h ▸ idleTick_rests s
  · exact exec_rests (rests_withPending _ hs) h

/-! ## RESET_N -/

/-- R24, R46, R99, R155: the outputs at the reset itself. -/
theorem assertReset_heldSafe (s : State) : (assertReset s).heldSafe := by
  refine ⟨fun c hc => ?_, rfl, rfl, rfl, rfl, rfl, rfl, rfl, rfl⟩
  obtain ⟨d, -, rfl⟩ := List.mem_map.1 hc
  rfl

/-- Settles O13: at the assertion by what it sets, and while it lasts by what a command may sense. -/
theorem resetLineHoldsSafe : Obligations.ResetLineHoldsSafe := by
  refine ⟨fun s hh => ⟨assertReset s, ?_, rfl, assertReset_heldSafe s⟩, fun c s hh hs hp hr => ?_⟩
  · show execResetNAsserted s = _
    rw [execResetNAsserted, hh]; rfl
  · by_cases ha : c = .resetNAsserted
    · subst ha
      refine ⟨s, ?_, hh, hs⟩
      show execResetNAsserted s = _
      rw [execResetNAsserted, hh]; rfl
    · obtain ⟨sense, effect, hsense, he⟩ := exec_endsEvent c hp ha hr
      exact ⟨sense s, by rw [he, hh]; rfl, (hsense s).held.trans hh, (hsense s).safe hs⟩

/-! ## Requests answered by a reply alone -/

/-- Settles O59, request by request: the refusal of Front stands ahead of every other judgement. -/
theorem frontMayNot : Obligations.FrontMayNot := by
  intro s tag c k h hc ho hk
  obtain hk | ⟨w, rfl⟩ | ⟨w, rfl⟩ | ⟨n, rfl⟩ | ⟨n, rfl⟩ | ⟨n, fs, rfl⟩ | ⟨n, rfl⟩ := hk
  · simp only [List.mem_cons, List.not_mem_nil, or_false] at hk
    obtain rfl | rfl | rfl | rfl | rfl | rfl | rfl | rfl | rfl := hk <;> cases hc <;> exact request_replied h ho rfl
  all_goals cases hc; exact request_replied h ho rfl

/-- R42: READ CHANNEL from Stage of a number in range. -/
theorem execReadChannel_stage {s : State} {tag : Tag} {n : Nat} {c : ChannelRecord} (h : s.awake) (ho : s.owns .stage tag .readChannel = true)
    (hn : targetInRange (.channel n) = true) (hc : s.scanner.record n = some c) :
    exec (.readChannel .stage tag n) s = .next (transmit (reply .stage tag (.done (.channel (channelReply c s))) s)) := by
  show execReadChannel .stage tag n s = _
  rw [execReadChannel, request_replied h ho]
  dsimp only
  rw [if_pos hn, hc]

/-- R42: READ CHANNEL from Stage of a number out of range. -/
theorem execReadChannel_outOfRange {s : State} {tag : Tag} {n : Nat} (h : s.awake) (ho : s.owns .stage tag .readChannel = true)
    (hn : targetInRange (.channel n) = false) :
    exec (.readChannel .stage tag n) s = .next (transmit (reply .stage tag (.refused .invalid) s)) := by
  show execReadChannel .stage tag n s = _
  rw [execReadChannel, request_replied h ho]
  dsimp only
  rw [hn]; rfl

/-- Settles O21, by the number and the port. -/
theorem readChannel : Obligations.ReadChannel := by
  intro s tag n h
  refine ⟨fun c ho h1 h16 hc => ?_, fun ho hn => ?_, fun ho => request_replied h ho rfl⟩
  · exact execReadChannel_stage h ho (by simp [targetInRange, h1, h16]) hc
  · exact execReadChannel_outOfRange h ho (by simp [targetInRange]; omega)

end Sys2Proof.Machine

/-! The Scanner's work on a channel outside the alarms: the timed steps of a supply cut (R31, R34, R36) and isolation (R39, R40). `Scans` says what such work can reach. -/

namespace Sys2Proof.Machine

/-! ## What the Scanner's work reaches -/

/-- `t` came from `s` by work on the Scanner's records, on Supervision's list and on the output queues alone. -/
def Scans (s t : State) : Prop := ∃ c u q, t = { s with scanner := c, sup := u, ports := q }

theorem Scans.refl (s : State) : Scans s s := ⟨_, _, _, rfl⟩

theorem Scans.trans {a b c : State} (h : Scans a b) (k : Scans b c) : Scans a c := by
  obtain ⟨_, _, _, rfl⟩ := h
  obtain ⟨_, _, _, rfl⟩ := k
  exact ⟨_, _, _, rfl⟩

theorem Scans.foldl {s0 : State} {α : Type} (g : State → α → State) (hg : ∀ (s : State) (a : α), Scans s (g s a)) (l : List α) :
    ∀ {s : State}, Scans s0 s → Scans s0 (l.foldl g s) := by
  induction l with
  | nil => exact id
  | cons a l ih => exact fun h => ih (h.trans (hg _ a))

section
variable {s0 s : State}

theorem Scans.mapScanner (f : Scanner → Scanner) (h : Scans s0 s) : Scans s0 (Machine.mapScanner f s) := h.trans ⟨_, _, _, rfl⟩

theorem Scans.mapChannel (n : Nat) (f : ChannelRecord → ChannelRecord) (h : Scans s0 s) : Scans s0 (Machine.mapChannel n f s) := h.mapScanner _

theorem Scans.notify (f : Family) (n : Notice) (h : Scans s0 s) : Scans s0 (Machine.notify f n s) := by
  obtain ⟨q, e⟩ := notify_eq s f n
  exact h.trans ⟨_, _, q, e⟩

theorem Scans.channelNotice (n : Nat) (st : ChannelState) (ev : ChannelEvent) (mark : AlarmMark) (h : Scans s0 s) :
    Scans s0 (Machine.channelNotice n st ev mark s) := by
  unfold Machine.channelNotice; split
  · exact h
  · exact h
  · exact h.notify _ _

theorem Scans.changeNotice (n : Nat) (st : ChannelState) (ev : ChannelEvent) (mark : AlarmMark) (h : Scans s0 s) :
    Scans s0 (Machine.changeNotice n st ev mark s) := by
  obtain ⟨q, e⟩ := changeNotice_eq n st ev mark s
  exact h.trans ⟨_, _, q, e⟩

theorem Scans.raiseFault (src : FaultSource) (k : FaultKind) (h : Scans s0 s) : Scans s0 (Machine.raiseFault src k s) := by
  obtain ⟨u, q, e⟩ := raiseFault_eq src k s
  exact h.trans ⟨_, u, q, e⟩

theorem Scans.clearFault (src : FaultSource) (k : FaultKind) (h : Scans s0 s) : Scans s0 (Machine.clearFault src k s) := by
  obtain ⟨u, q, e⟩ := clearFault_eq src k s
  exact h.trans ⟨_, u, q, e⟩

theorem Scans.clearWiring (n : Nat) (h : Scans s0 s) : Scans s0 (Machine.clearWiring n s) := by
  unfold Machine.clearWiring; split
  · exact h
  · exact (h.mapChannel _ _).clearFault _ _
  · exact (h.mapChannel _ _).clearFault _ _

theorem Scans.isolateChannel (n : Nat) (h : Scans s0 s) : Scans s0 (Machine.isolateChannel s n) := by
  unfold Machine.isolateChannel; split
  · exact h
  · exact ((h.mapChannel _ _).clearWiring _).channelNotice _ _ _ _

theorem Scans.restoreChannel (n : Nat) (h : Scans s0 s) : Scans s0 (Machine.restoreChannel s n) := by
  unfold Machine.restoreChannel; split
  · exact h
  · exact (h.mapChannel _ _).channelNotice _ _ _ _

/-- What the end of the event finds, and leaves, as it was before the Scanner's work. -/
theorem Scans.atEnd (h : Scans s0 s) : (settle s).settings = s0.settings ∧ (settle s).perf = s0.perf ∧
    (settle s).alarm.entries.map AlarmEntry.stage = s0.alarm.entries.map AlarmEntry.stage := by
  have hl := (Leaves.refl s).settle
  have hk := (Keeps.refl s).settle
  obtain ⟨_, _, _, rfl⟩ := h
  exact ⟨hl.settings, hl.perf, hk.stages⟩

end

/-! ## One channel's record -/

/-- The end of an event leaves every channel record. -/
theorem settle_channels (s : State) : (settle s).scanner.channels = s.scanner.channels := by
  rw [(Leaves.refl s).settle.scanner]

theorem settle_record (n : Nat) (s : State) : (settle s).scanner.record n = s.scanner.record n := by
  rw [Scanner.record, settle_channels]; rfl

/-- A channel's record changed in its place. -/
theorem record_mapChannel {f : ChannelRecord → ChannelRecord} {s : State} {n : Nat} {c : ChannelRecord} (hf : ∀ c, (f c).num = c.num)
    (h : s.scanner.record n = some c) : (mapChannel n f s).scanner.record n = some (f c) := by
  show (s.scanner.change n f).record n = _
  rw [record_change hf, h]; rfl

theorem changeNotice_scanner (n : Nat) (st : ChannelState) (ev : ChannelEvent) (mark : AlarmMark) (s : State) :
    (changeNotice n st ev mark s).scanner = s.scanner := by
  obtain ⟨q, e⟩ := changeNotice_eq n st ev mark s
  rw [e]

theorem raiseFault_scanner (src : FaultSource) (k : FaultKind) (s : State) : (raiseFault src k s).scanner = s.scanner := by
  obtain ⟨u, q, e⟩ := raiseFault_eq src k s
  rw [e]

theorem clearFault_scanner (src : FaultSource) (k : FaultKind) (s : State) : (clearFault src k s).scanner = s.scanner := by
  obtain ⟨u, q, e⟩ := clearFault_eq src k s
  rw [e]

/-- R27: a fresh confirm run is a change of the record, and at most a notice. -/
theorem freshRun_eq {s : State} {n : Nat} {c : ChannelRecord} (h : s.scanner.record n = some c) :
    ∃ q, freshRun n s = { mapChannel n ChannelRecord.fresh s with ports := q } := by
  rw [freshRun, h]; dsimp only
  split
  · exact changeNotice_eq _ _ _ _ _
  · exact ⟨_, rfl⟩

/-- R29: a wiring fault cleared leaves the record with none held. -/
theorem clearWiring_record {s : State} {n : Nat} {c : ChannelRecord} (h : s.scanner.record n = some c) :
    (clearWiring n s).scanner.record n = some { c with loopFault := none } := by
  have hmap := record_mapChannel (f := fun c => { c with loopFault := none }) (fun _ => rfl) h
  unfold clearWiring
  rw [h, Option.bind_some]
  split
  · rename_i hf; rw [h, ← hf]
  · rw [clearFault_scanner]; exact hmap
  · rw [clearFault_scanner]; exact hmap

/-! ## The timed steps of a cut -/

theorem bind_cut {s : State} {n : Nat} {c : ChannelRecord} {k : Cut} (hr : s.scanner.record n = some c) (hc : c.cut = some k) :
    (s.scanner.record n).bind ChannelRecord.cut = some k := by rw [hr]; exact hc

/-- R31, R34: the off time ends. -/
theorem execOffTimeEnd_due {s : State} {n ends visits : Nat} {p : CutPurpose} (hh : s.resetHeld = false)
    (hc : (s.scanner.record n).bind ChannelRecord.cut = some ⟨p, .off, some ends, visits⟩) (he : ends ≤ s.uptime) :
    exec (.offTimeEnd n) s = .next (settle (mapChannel n (fun c =>
      { c with supply := true, cut := some ⟨p, .blanking, some (s.uptime + s.settings.channels.recoveryTime), visits⟩ }) s)) := by
  show execOffTimeEnd n s = _
  rw [execOffTimeEnd, command_next _ hh, hc]
  dsimp only
  rw [if_pos he]

/-- R31: the blanking of a loop reset ends, and its recovery check begins with a fresh confirm run. -/
theorem execBlankingEnd_loopReset {s : State} {n ends visits : Nat} (hh : s.resetHeld = false)
    (hc : (s.scanner.record n).bind ChannelRecord.cut = some ⟨.loopReset, .blanking, some ends, visits⟩) (he : ends ≤ s.uptime) :
    exec (.blankingEnd n) s = .next (settle (freshRun n
      (mapChannel n (fun c => { c with cut := some ⟨.loopReset, .recoveryCheck, none, 0⟩ }) s))) := by
  show execBlankingEnd n s = _
  rw [execBlankingEnd, command_next _ hh, hc]
  dsimp only
  rw [if_pos he]

/-- R34: the blanking of a verification ends, and its window begins with an empty run. -/
theorem execBlankingEnd_verification {s : State} {n ends visits : Nat} (hh : s.resetHeld = false)
    (hc : (s.scanner.record n).bind ChannelRecord.cut = some ⟨.verification, .blanking, some ends, visits⟩) (he : ends ≤ s.uptime) :
    exec (.blankingEnd n) s = .next (settle (mapChannel n (fun c =>
      { c.emptyRun with cut := some ⟨.verification, .window, some (s.uptime + s.settings.channels.verificationWindow), 0⟩ }) s)) := by
  show execBlankingEnd n s = _
  rw [execBlankingEnd, command_next _ hh, hc]
  dsimp only
  rw [if_pos he]

/-- R36: the window of a verification ends. -/
theorem execVerificationWindowEnd_due {s : State} {n ends visits : Nat} {c : ChannelRecord} (hh : s.resetHeld = false)
    (hr : s.scanner.record n = some c) (hc : c.cut = some ⟨.verification, .window, some ends, visits⟩) (he : ends ≤ s.uptime) :
    exec (.verificationWindowEnd n) s = .next (settle (failVerification n c s)) := by
  show execVerificationWindowEnd n s = _
  rw [execVerificationWindowEnd, command_next _ hh, hr]
  dsimp only
  rw [hc]
  dsimp only
  rw [if_pos he]

/-- R36: the end of a failed verification, but for its notice and the count's fault: the band of the window, if one was confirmed, is reported. -/
def reportWindowBand (n : Nat) (c : ChannelRecord) (s : State) : State :=
  match c.windowBand with
  | some b => reportWiring n b s
  | none => s

theorem reportWindowBand_cases {n : Nat} {c : ChannelRecord} {s : State}
    (hb : c.windowBand = none ∨ c.windowBand = some .normal ∨ c.windowBand = some .prealarm) :
    (c.windowBand = none ∧ reportWindowBand n c s = s) ∨ reportWindowBand n c s = clearWiring n s := by
  unfold reportWindowBand
  obtain hb | hb | hb := hb <;> rw [hb]
  · exact .inl ⟨rfl, rfl⟩
  · exact .inr rfl
  · exact .inr rfl

/-- R36: a failed verification is the change of the record and the band's report, with notices and faults. -/
theorem failVerification_scanner (n : Nat) (c : ChannelRecord) (s : State) :
    (failVerification n c s).scanner = (reportWindowBand n c (mapChannel n ChannelRecord.unconfirm s)).scanner := by
  unfold failVerification; dsimp only
  split
  · rw [raiseFault_scanner, changeNotice_scanner]; rfl
  · rw [changeNotice_scanner]; rfl

theorem failVerification_scans {n : Nat} {c : ChannelRecord} {s : State}
    (hb : c.windowBand = none ∨ c.windowBand = some .normal ∨ c.windowBand = some .prealarm) : Scans s (failVerification n c s) := by
  have hreport : Scans s (reportWindowBand n c (mapChannel n ChannelRecord.unconfirm s)) := by
    obtain ⟨-, h⟩ | h := reportWindowBand_cases (n := n) (s := mapChannel n ChannelRecord.unconfirm s) hb <;> rw [h]
    · exact (Scans.refl s).mapChannel _ _
    · exact ((Scans.refl s).mapChannel _ _).clearWiring n
  have hnotice := hreport.changeNotice n .verifying (.unconfirmed c.unconfirm.unconfirmed) .plain
  unfold failVerification; dsimp only
  split
  · exact hnotice.raiseFault _ _
  · exact hnotice

theorem satSucc_eq_min (top n : Nat) : satSucc top n = min top (n + 1) := by
  unfold satSucc; split <;> omega

theorem unconfirm_num (c : ChannelRecord) : c.unconfirm.num = c.num := by unfold ChannelRecord.unconfirm; dsimp only; split <;> rfl

/-- R36: the record after a failed verification, but for its wiring fault. -/
theorem unconfirm_eq {c : ChannelRecord} (hb : c.windowBand = none ∨ c.windowBand = some .normal ∨ c.windowBand = some .prealarm) :
    c.unconfirm = { c with
      cut := none, unconfirmed := min 255 (c.unconfirmed + 1)
      state := if c.windowBand = some .prealarm then .prealarm else .normal, firstPending := c.windowBand.isNone } := by
  unfold ChannelRecord.unconfirm
  rw [satSucc_eq_min]
  obtain hb | hb | hb := hb <;> rw [hb] <;> rfl

/-- R36: the record at the end of a failed verification's window, but for its wiring fault. -/
theorem failVerification_record {n : Nat} {c : ChannelRecord} {s : State} (hr : s.scanner.record n = some c)
    (hb : c.windowBand = none ∨ c.windowBand = some .normal ∨ c.windowBand = some .prealarm) :
    ((failVerification n c s).scanner.record n).map (fun x => { x with loopFault := none }) = some { c.unconfirm with loopFault := none } := by
  have hrec := record_mapChannel (f := ChannelRecord.unconfirm) unconfirm_num hr
  rw [failVerification_scanner]
  obtain ⟨-, h⟩ | h := reportWindowBand_cases (n := n) (s := mapChannel n ChannelRecord.unconfirm s) hb <;> rw [h]
  · rw [hrec]; rfl
  · rw [clearWiring_record hrec]; rfl

/-- Settles O26, timed step by timed step. -/
theorem cutGoesOn : Obligations.CutGoesOn := by
  refine ⟨fun s n c p ends visits hh hr he => ⟨fun hc => ?_, fun hc => ?_, fun hc => ?_⟩, fun s n c ends visits hh hr hc he hb => ?_⟩
  · obtain ⟨-, hperf, hstages⟩ := ((Scans.refl s).mapChannel n fun c =>
      { c with supply := true, cut := some ⟨p, .blanking, some (s.uptime + s.settings.channels.recoveryTime), visits⟩ }).atEnd
    refine ⟨_, execOffTimeEnd_due hh (bind_cut hr hc) he, ?_, (Leaves.refl _).settle.sup, hstages, hperf⟩
    rw [settle_record]
    exact record_mapChannel (fun _ => rfl) hr
  · have hcut := record_mapChannel (f := fun c => { c with cut := some ⟨.loopReset, .recoveryCheck, none, 0⟩ }) (fun _ => rfl) hr
    obtain ⟨q, hfresh⟩ := freshRun_eq hcut
    have hexec := execBlankingEnd_loopReset hh (bind_cut hr hc) he
    rw [hfresh] at hexec
    refine ⟨_, hexec, ?_, (Leaves.refl _).settle.sup, (Leaves.refl _).settle.perf⟩
    rw [settle_record]
    exact record_mapChannel (f := ChannelRecord.fresh) (fun _ => rfl) hcut
  · refine ⟨_, execBlankingEnd_verification hh (bind_cut hr hc) he, ?_, (Leaves.refl _).settle.sup, (Leaves.refl _).settle.perf⟩
    rw [settle_record]
    exact record_mapChannel (fun _ => rfl) hr
  · obtain ⟨-, hperf, hstages⟩ := (failVerification_scans (n := n) (s := s) hb).atEnd
    refine ⟨_, execVerificationWindowEnd_due hh hr hc he, ?_, hstages, hperf⟩
    rw [settle_record, failVerification_record hr hb, unconfirm_eq hb]

/-! ## Isolation -/

/-- R39, R190: the isolation changed in the working settings. -/
theorem setIsolation_settings (yes : Bool) (t : IsolationTarget) (s : State) :
    (setIsolation yes t s).settings = { s.settings with channels := s.settings.channels.setIsolation yes t } := rfl

theorem makeIsolated_scans (t : IsolationTarget) (s : State) : Scans (setIsolation true t s) (makeIsolated t s) :=
  (Scans.foldl _ (fun s n => (Scans.refl s).isolateChannel n) _ (Scans.refl _)).raiseFault _ _

theorem makeRestored_scans (t : IsolationTarget) (s : State) : Scans (setIsolation false t s) (makeRestored t s) :=
  Scans.foldl _ (fun s n => (Scans.refl s).restoreChannel n) _ ((Scans.refl _).clearFault _ _)

/-- The end of an accepted ISOLATE or RESTORE, whose owner has set the flag and worked on the channels that it concerns. -/
theorem settle_isolation {s y : State} {tag : Tag} {k : RequestKind} {yes : Bool} {t : IsolationTarget} (ho : s.owns .stage tag k = true)
    (h : Scans (setIsolation yes t s) y) (hi : (y.port .stage).intake = (s.port .stage).intake) :
    (settle (done .stage tag y)).answered .stage tag (.done .empty) ∧
      (settle (done .stage tag y)).settings = { s.settings with channels := s.settings.channels.setIsolation yes t } ∧
      (settle (done .stage tag y)).alarm.entries.map AlarmEntry.stage = s.alarm.entries.map AlarmEntry.stage ∧
      (settle (done .stage tag y)).perf = s.perf := by
  have hdone : Scans (setIsolation yes t s) (done .stage tag y) := h.trans ⟨_, _, _, rfl⟩
  obtain ⟨hset, hperf, hstages⟩ := hdone.atEnd
  exact ⟨settle_answered ho hi, hset, hstages, hperf⟩

/-- Settles O27: each request sets the flag, works on the channels that it concerns, and is answered. -/
theorem isolateAndRestore : Obligations.IsolateAndRestore := by
  intro s tag t hh hrange
  refine ⟨fun ho hz hnot => ?_, fun ho his => ?_⟩
  · refine ⟨_, ?_, settle_isolation ho (makeIsolated_scans t s) (((Keeps.refl s).makeIsolated t).intakes _)⟩
    show execIsolate .stage tag t s = _
    rw [execIsolate, request_owned _ hh ho, gateIsolate, if_neg (not_not.2 hrange), hz]
    simp only [stageRequest, hnot, Bool.false_eq_true, if_false]
  · refine ⟨_, ?_, settle_isolation ho (makeRestored_scans t s) (((Keeps.refl s).makeRestored t).intakes _)⟩
    show execRestore .stage tag t s = _
    rw [execRestore, request_owned _ hh ho]
    simp only [stageRequest, hrange, his, if_true]

end Sys2Proof.Machine

/-! What the Alarm Unit, and the blocks that it hands to, leave of the Scanner: the records, the claims and the settings. Only a successful alarm reset marks claims (R56). -/

namespace Sys2Proof.Machine

/-! ## The Scanner's records in the hand-offs of an alarm -/

/-- What the Scanner's judgement of a channel reads: the settings, how far start-up has come, the channel records and the claims. -/
def State.scanned (s : State) : Settings × StartStep × List ChannelRecord × List ResetClaim :=
  (s.settings, s.startStep, s.scanner.channels, s.scanner.claims)

theorem scanned_fields {s t : State} (h : t.scanned = s.scanned) : t.settings = s.settings ∧ t.startStep = s.startStep ∧
    t.scanner.channels = s.scanner.channels ∧ t.scanner.claims = s.scanner.claims := by
  simpa [State.scanned] using h

theorem Leaves.scanned {s t : State} (h : Leaves s t) : t.scanned = s.scanned := by
  unfold State.scanned; rw [h.settings, h.startStep, h.scanner]

section
variable (s : State)

@[simp] theorem notify_scanned (f : Family) (n : Notice) : (notify f n s).scanned = s.scanned := ((Leaves.refl s).notify f n).scanned
@[simp] theorem curtainNotice_scanned (n : Notice) : (curtainNotice n s).scanned = s.scanned := notify_scanned s _ n
@[simp] theorem notifyAlways_scanned (n : Notice) : (notifyAlways n s).scanned = s.scanned := ((Leaves.refl s).notifyAlways n).scanned
@[simp] theorem mapAlarm_scanned (f : AlarmUnit → AlarmUnit) : (mapAlarm f s).scanned = s.scanned := rfl
@[simp] theorem mapCurtain_scanned (f : Curtain → Curtain) : (mapCurtain f s).scanned = s.scanned := rfl
@[simp] theorem onField_scanned (f : Field → Field) : (onField f s).scanned = s.scanned := rfl
@[simp] theorem disturb_scanned : (disturb s).scanned = s.scanned := rfl
@[simp] theorem withdrawInternal_scanned (g : CallOrigin) (tag : Nat) : (withdrawInternal g tag s).scanned = s.scanned :=
  ((Leaves.refl s).withdrawInternal g tag).scanned
@[simp] theorem placeEvac_scanned : (placeEvac s).scanned = s.scanned := (Leaves.refl s).placeEvac.scanned
@[simp] theorem placeStaff_scanned (t : Target) (message : Nat) : (placeStaff t message s).scanned = s.scanned :=
  ((Leaves.refl s).placeStaff t message).scanned
@[simp] theorem cutEvac_scanned (tag : Nat) : (cutEvac tag s).scanned = s.scanned := ((Leaves.refl s).cutEvac tag).scanned
@[simp] theorem settle_scanned : (settle s).scanned = s.scanned := (Leaves.refl s).settle.scanned

@[simp] theorem changeNotice_scanned (n : Nat) (st : ChannelState) (ev : ChannelEvent) (mark : AlarmMark) :
    (changeNotice n st ev mark s).scanned = s.scanned := by
  obtain ⟨q, e⟩ := changeNotice_eq n st ev mark s
  rw [e]; rfl

@[simp] theorem refreshPresented_scanned : (refreshPresented s).scanned = s.scanned := by
  obtain ⟨l, q, e⟩ := refreshPresented_eq s
  rw [e]; rfl

@[simp] theorem raiseFault_scanned (src : FaultSource) (k : FaultKind) : (raiseFault src k s).scanned = s.scanned := by
  obtain ⟨u, q, e⟩ := raiseFault_eq src k s
  rw [e]; rfl

@[simp] theorem clearFault_scanned (src : FaultSource) (k : FaultKind) : (clearFault src k s).scanned = s.scanned := by
  obtain ⟨u, q, e⟩ := clearFault_eq src k s
  rw [e]; rfl

@[simp] theorem raiseCurtainFault_scanned (k : FaultKind) : (raiseCurtainFault k s).scanned = s.scanned := raiseFault_scanned _ _ _

@[simp] theorem abortStore_scanned (z : Nat) : (abortStore z s).scanned = s.scanned := by
  obtain ⟨u, q, e⟩ := abortStore_eq z s
  rw [e]; rfl

@[simp] theorem enterRecord_scanned (c : PhaseChange) : (enterRecord c s).scanned = s.scanned := (enterRecord_leaves c s).scanned

@[simp] theorem changePhase_scanned (c : PhaseChange) : (changePhase c s).scanned = s.scanned := by
  obtain ⟨a, h, k⟩ := changePhase_leaves c s
  exact k.scanned.trans h.scanned

@[simp] theorem claimEvacuation_scanned : (claimEvacuation s).scanned = s.scanned := by
  unfold claimEvacuation; split
  · rfl
  · exact changePhase_scanned s _

/-! ## The curtain in the hand-offs of an alarm -/

@[simp] theorem shiftCurtain_scanned (new : CurtainState) : (shiftCurtain new s).scanned = s.scanned := by
  have hwarn : ∀ (a b : CurtainState) (u : State), (judgeWarning a b u).scanned = u.scanned := fun a b u => by
    unfold judgeWarning; split
    · rfl
    split
    · rfl
    · rfl
  unfold shiftCurtain; dsimp only
  rw [hwarn]; split
  · unfold curtainDeparture; split
    · rw [onField_scanned, enterRecord_scanned]; rfl
    · rfl
  · rfl

theorem enterCurtain_scanned (new : CurtainState) (cause : CurtainCause) {mid : State → State} (hmid : ∀ u : State, (mid u).scanned = u.scanned) :
    (enterCurtain new cause mid s).scanned = s.scanned := by
  unfold enterCurtain; dsimp only; split
  · rfl
  · rw [curtainNotice_scanned, hmid, shiftCurtain_scanned]

@[simp] theorem abandonDisplay_scanned (r : AbandonReason) : (abandonDisplay r s).scanned = s.scanned := by
  unfold abandonDisplay; split
  · rfl
  · dsimp only
    rw [curtainNotice_scanned]; split
    · rw [withdrawInternal_scanned]; rfl
    · rfl

@[simp] theorem idleTimer_scanned (n : Notice) : (idleTimer n s).scanned = s.scanned := by
  unfold idleTimer; split
  · rfl
  · rw [curtainNotice_scanned]; rfl

@[simp] theorem dropTimer_scanned (cause : DropCause) : (dropTimer cause s).scanned = s.scanned := by
  unfold dropTimer
  cases cause with
  | release | graceEnd => rfl
  | emergency | test | startUp => exact idleTimer_scanned s _

theorem beginDrop_scanned (cause : DropCause) {faults : State → State} (hf : ∀ u : State, (faults u).scanned = u.scanned) :
    (beginDrop cause faults s).scanned = s.scanned := by
  unfold beginDrop; split
  · exact idleTimer_scanned s _
  · exact enterCurtain_scanned s _ _ fun u => by rw [abandonDisplay_scanned, dropTimer_scanned, hf]; rfl

@[simp] theorem endGrace_scanned : (endGrace s).scanned = s.scanned := beginDrop_scanned s _ fun u => raiseCurtainFault_scanned u _

@[simp] theorem expireRelease_scanned : (expireRelease s).scanned = s.scanned := by
  unfold expireRelease; dsimp only
  split_ifs
  · rw [idleTimer_scanned, curtainNotice_scanned]
  · rw [endGrace_scanned, mapCurtain_scanned, curtainNotice_scanned]
  · rw [mapCurtain_scanned, curtainNotice_scanned]
  · rw [beginDrop_scanned _ _ (faults := id) fun _ => rfl, curtainNotice_scanned]

@[simp] theorem startRelease_scanned (z : Nat) : (startRelease z s).scanned = s.scanned := by
  have ht : (startTimer z s).scanned = s.scanned := curtainNotice_scanned _ _
  unfold startRelease expireAtOnce; split
  · rw [expireRelease_scanned, ht]
  · exact ht

@[simp] theorem curtainTrigger_scanned (z : Nat) : (curtainTrigger z s).scanned = s.scanned := by
  unfold curtainTrigger; dsimp only
  split_ifs <;> simp

/-! ## The Alarm Unit's operations -/

@[simp] theorem soundStep_scanned (fresh : Bool) : (soundStep fresh s).scanned = s.scanned := by
  have hs : (soundAlarm s).scanned = s.scanned := by
    unfold soundAlarm; dsimp only; split
    · rfl
    · rw [placeEvac_scanned]; rfl
  unfold soundStep; split
  · rfl
  all_goals exact hs

@[simp] theorem withdrawStaff_scanned (e : AlarmEntry) : (withdrawStaff e s).scanned = s.scanned := by
  unfold withdrawStaff; split
  · exact withdrawInternal_scanned s _ _
  · rfl

@[simp] theorem generalHandOffs_scanned (e : AlarmEntry) (fresh : Bool) : (generalHandOffs e fresh s).scanned = s.scanned := by
  unfold generalHandOffs; dsimp only; split <;> simp

@[simp] theorem makeGeneral_scanned (fresh : Bool) (z : Nat) : (makeGeneral fresh s z).scanned = s.scanned := by
  unfold makeGeneral; split
  · rfl
  · rw [generalHandOffs_scanned]; rfl

theorem foldl_scanned {α : Type} {g : State → α → State} (hg : ∀ (u : State) (a : α), (g u a).scanned = u.scanned) (l : List α) :
    ∀ u : State, (l.foldl g u).scanned = u.scanned := by
  induction l with
  | nil => exact fun _ => rfl
  | cons a l ih => exact fun u => (ih _).trans (hg u a)

@[simp] theorem newGeneral_scanned (z : Nat) (opening : Option Nat) : (newGeneral z opening s).scanned = s.scanned := by
  unfold newGeneral; dsimp only
  rw [generalHandOffs_scanned, foldl_scanned fun u k => makeGeneral_scanned u _ k, abortStore_scanned]; rfl

@[simp] theorem newStaffAlert_scanned (z n : Nat) : (newStaffAlert z n s).scanned = s.scanned := by
  unfold newStaffAlert; dsimp only
  rw [placeStaff_scanned, abortStore_scanned]; rfl

@[simp] theorem takeAlarm_scanned (n z : Nat) (type : ChannelType) : (takeAlarm n z type s).scanned = s.scanned := by
  unfold takeAlarm; dsimp only
  split
  · split
    · rw [newGeneral_scanned]; rfl
    · rw [newStaffAlert_scanned]; rfl
  · split
    · rfl
    · rw [makeGeneral_scanned]; rfl

@[simp] theorem takeOutOfAlarm_scanned (n z : Nat) : (takeOutOfAlarm n z s).scanned = s.scanned := rfl

@[simp] theorem takeStandDown_scanned (z : Nat) (l : List Nat) : (takeStandDown z l s).scanned = s.scanned := by
  unfold takeStandDown; split
  · rfl
  split
  · split
    · rw [notifyAlways_scanned]; rfl
    · rw [makeGeneral_scanned]; rfl
  · rfl

end

/-! ## A successful alarm reset -/

/-- R56, R69: the alarm list emptied, with the stand-down claims set aside. -/
def emptyAlarms (s : State) : State :=
  mapAlarm (fun u => { u with entries := [], sounder := .off, relay := false, lastShown := none }) (orphanStandDowns s)

/-- R69: the EVAC order cut, if one is held. -/
def cutHeldEvac (s : State) : State :=
  match s.alarm.evacOrder with
  | some t => cutEvac t s
  | none => s

theorem resetSucceeds_eq (s : State) : resetSucceeds s = mapAlarm (fun u => { u with resetting := none })
    (notifyAlways .alarmReset (curtainResetComplete (cutHeldEvac (emptyAlarms s)))) := rfl

theorem cutHeldEvac_leaves (s : State) : Leaves s (cutHeldEvac s) := by
  unfold cutHeldEvac; split
  · exact (Leaves.refl s).cutEvac _
  · exact .refl s

/-- R92: the end of the release timer is the curtain's and the notices' alone. -/
theorem curtainResetComplete_eq (s : State) : ∃ c q, curtainResetComplete s = { s with curtain := c, ports := q } := by
  unfold curtainResetComplete idleTimer; split
  · exact ⟨_, _, rfl⟩
  · obtain ⟨q, e⟩ := notify_eq (mapCurtain (fun c => { c with timer := .idle }) s) .curtain .releaseStoodDown
    exact ⟨_, q, e⟩

/-- R56, R69: a successful reset from the emptied list on. -/
theorem resetSucceeds_afterEmpty (s : State) : ∃ c q, resetSucceeds s =
    { cutHeldEvac (emptyAlarms s) with alarm := { (cutHeldEvac (emptyAlarms s)).alarm with resetting := none }, curtain := c, ports := q } := by
  obtain ⟨c, r, hc⟩ := curtainResetComplete_eq (cutHeldEvac (emptyAlarms s))
  obtain ⟨q, hq⟩ := notifyAlways_eq .alarmReset { cutHeldEvac (emptyAlarms s) with curtain := c, ports := r }
  exact ⟨c, q, by rw [resetSucceeds_eq, hc, hq]; rfl⟩

/-- R56: a successful reset changes of the Scanner the marks of the stand-down claims alone. -/
theorem resetSucceeds_scanned (s : State) : (resetSucceeds s).scanned = (orphanStandDowns s).scanned := by
  obtain ⟨c, q, e⟩ := resetSucceeds_afterEmpty s
  rw [e]
  exact (cutHeldEvac_leaves _).scanned

/-- The call line, and the end of an event, leave an empty alarm list empty. -/
theorem Leaves.noEntry {s t : State} (h : Leaves s t) (he : s.alarm.entries = []) : t.alarm.entries = [] := by
  have := h.entries
  rw [he] at this
  exact List.map_eq_nil_iff.1 this

theorem resetSucceeds_noEntry (s : State) : (resetSucceeds s).alarm.entries = [] := by
  obtain ⟨c, q, e⟩ := resetSucceeds_afterEmpty s
  rw [e]
  exact (cutHeldEvac_leaves _).noEntry rfl

/-! ## The results of the claims -/

/-- A claim but for the mark that its result is set aside. -/
def ResetClaim.unmarked (k : ResetClaim) : ResetClaim := { k with setAside := false }

theorem orphan_unmarked (k : ResetClaim) : k.orphan.unmarked = k.unmarked := by unfold ResetClaim.orphan; split <;> rfl

/-- What the results of claims do to the Scanner (R56, R69): nothing while an entry is left in the alarm list, and otherwise no more than to set
the results of claims aside. -/
structure TakesResults (s t : State) : Prop where
  settings : t.settings = s.settings
  startStep : t.startStep = s.startStep
  channels : t.scanner.channels = s.scanner.channels
  noEntry : s.alarm.entries = [] → t.alarm.entries = []
  claims : t.alarm.entries ≠ [] → t.scanner.claims = s.scanner.claims
  unmarked : t.scanner.claims.map ResetClaim.unmarked = s.scanner.claims.map ResetClaim.unmarked

theorem TakesResults.of_scanned {s t : State} (h : t.scanned = s.scanned) (he : s.alarm.entries = [] → t.alarm.entries = []) : TakesResults s t := by
  obtain ⟨hset, hstep, hchannels, hclaims⟩ := scanned_fields h
  exact ⟨hset, hstep, hchannels, he, fun _ => hclaims, by rw [hclaims]⟩

theorem TakesResults.refl (s : State) : TakesResults s s := .of_scanned rfl id

theorem TakesResults.trans {a b c : State} (h : TakesResults a b) (k : TakesResults b c) : TakesResults a c :=
  ⟨k.settings.trans h.settings, k.startStep.trans h.startStep, k.channels.trans h.channels, fun e => k.noEntry (h.noEntry e),
    fun e => (k.claims e).trans (h.claims fun e' => e (k.noEntry e')), k.unmarked.trans h.unmarked⟩

theorem TakesResults.settle (s : State) : TakesResults s (Machine.settle s) := .of_scanned (settle_scanned s) (Leaves.refl s).settle.noEntry

theorem TakesResults.refreshPresented (s : State) : TakesResults s (Machine.refreshPresented s) := by
  obtain ⟨l, q, e⟩ := refreshPresented_eq s
  exact .of_scanned (refreshPresented_scanned s) fun he => by rw [e]; exact he

/-- R56: a stand-down of an empty list finds no entry. -/
theorem takeStandDown_noEntry {s : State} (z : Nat) (l : List Nat) (h : s.alarm.entries = []) : takeStandDown z l s = s := by
  have hnone : s.alarm.entry z = none := by simp [AlarmUnit.entry, h]
  rw [takeStandDown, hnone]

theorem TakesResults.takeResult (p : ResetPurpose) (l : List Nat) (s : State) : TakesResults s (Machine.takeResult p l s) := by
  cases p with
  | standDown z => exact .of_scanned (takeStandDown_scanned s z l) fun he => by show (takeStandDown z l s).alarm.entries = []; rw [takeStandDown_noEntry z l he, he]
  | alarmReset =>
    show TakesResults s (takeReset l s)
    unfold takeReset
    split
    · exact .refl s
    split
    · obtain ⟨hset, hstep, hchannels, hclaims⟩ := scanned_fields (resetSucceeds_scanned s)
      have he := resetSucceeds_noEntry s
      refine ⟨hset, hstep, hchannels, fun _ => he, fun hne => absurd he hne, ?_⟩
      rw [hclaims]
      show (s.scanner.claims.map ResetClaim.orphan).map ResetClaim.unmarked = _
      rw [List.map_map]
      exact List.map_congr_left fun k _ => orphan_unmarked k
    · obtain ⟨q, e⟩ := notifyAlways_eq (.alarmResetFailed l _) s
      unfold resetFails
      rw [e]
      exact .of_scanned rfl id

/-- R32, R56, R69: the results of complete claims. -/
theorem TakesResults.handResults (s : State) : TakesResults (mapScanner Scanner.dropComplete s) (Machine.handResults s) := by
  have fold : ∀ (l : List ResetClaim) (u : State),
      TakesResults u ((l.map fun k => ScanReport.result k.purpose k.inAlarm).foldl takeReport u) := by
    intro l
    induction l with
    | nil => exact .refl
    | cons k l ih => exact fun u => (TakesResults.takeResult k.purpose k.inAlarm u).trans (ih _)
  unfold Machine.handResults handReports
  split
  · exact fold _ _
  · exact .of_scanned rfl id

end Sys2Proof.Machine

/-! A visit (R26 to R29, R32, R34, R49): the reading, a confirmed band, a verification that begins, and the last visit of a recovery check. -/

namespace Sys2Proof.Machine

/-! ## The reading -/

/-- The channel's record as a visit's reading leaves it, in its place. -/
def State.withReading (s : State) (n : Nat) (reading : Byte) : State :=
  mapChannel n (fun c => c.read reading (bandOf (s.settings.channel n) reading) (s.settings.channel n).confirm) s

/-- R26: a visit, from its reading on. -/
theorem visitChannel_eq {s : State} {n : Nat} {c : ChannelRecord} (reading : Byte) (hr : s.scanner.record n = some c) :
    ∃ f : Scanner → Scanner, (∀ u, (f u).channels = u.channels ∧ (f u).claims = u.claims) ∧
      visitChannel n reading s = mapScanner f (judgeVisit n c (bandOf (s.settings.channel n) reading)
        (c.confirms (bandOf (s.settings.channel n) reading) (s.settings.channel n).confirm) (s.withReading n reading)) := by
  refine ⟨fun u => { u with path := u.nextAfter (judgeVisit n c (bandOf (s.settings.channel n) reading)
    (c.confirms (bandOf (s.settings.channel n) reading) (s.settings.channel n).confirm) (s.withReading n reading)).settings n },
    fun _ => ⟨rfl, rfl⟩, ?_⟩
  rw [visitChannel, hr]; rfl

/-- The record of another channel is left. -/
theorem record_mapChannel_other {f : ChannelRecord → ChannelRecord} (hf : ∀ c, (f c).num = c.num) {n m : Nat} (hm : m ≠ n) (s : State) :
    (mapChannel n f s).scanner.record m = s.scanner.record m := by
  have hnum : ((fun c => c.num == m) ∘ fun c => if c.num == n then f c else c) = fun c => c.num == m := by
    funext c
    simp only [Function.comp]; split
    · rw [hf]
    · rfl
  have hsame : ∀ c : ChannelRecord, c.num = m → (if c.num == n then f c else c) = c := fun c hc => if_neg (by simp [hc, hm])
  show (s.scanner.channels.map _).find? _ = s.scanner.channels.find? _
  rw [List.find?_map, hnum]
  cases h : s.scanner.channels.find? (fun c => c.num == m) with
  | none => rfl
  | some c => exact congrArg some (hsame c (by simpa using List.find?_some h))

theorem record_withReading {s : State} {n : Nat} {c : ChannelRecord} (reading : Byte) (hr : s.scanner.record n = some c) :
    (s.withReading n reading).scanner.record n =
      some (c.read reading (bandOf (s.settings.channel n) reading) (s.settings.channel n).confirm) :=
  record_mapChannel (f := fun c => c.read reading (bandOf (s.settings.channel n) reading) (s.settings.channel n).confirm) (fun _ => rfl) hr

theorem record_withReading_other {s : State} {n m : Nat} (reading : Byte) (hm : m ≠ n) :
    (s.withReading n reading).scanner.record m = s.scanner.record m :=
  record_mapChannel_other (f := fun c => c.read reading (bandOf (s.settings.channel n) reading) (s.settings.channel n).confirm) (fun _ => rfl) hm s

theorem record_of_channels {s t : State} (h : t.scanner.channels = s.scanner.channels) (n : Nat) : t.scanner.record n = s.scanner.record n := by
  rw [Scanner.record, h]; rfl

/-! ## The end of a visit -/

/-- R25, R61, R62: what follows the judgement of a visit, to the end of its event: the path moves on, and what is presented is found afresh. -/
structure EndsVisit (a t : State) : Prop where
  scanned : t.scanned = a.scanned
  sup : t.sup = a.sup
  perf : t.perf = a.perf
  relay : t.alarm.relay = a.alarm.relay
  results : TakesResults a t
  entries : a.loop.roomOwed = false → t.alarm.entries = a.alarm.entries

theorem endsVisit (a : State) {f : Scanner → Scanner} (hf : ∀ u, (f u).channels = u.channels ∧ (f u).claims = u.claims) :
    EndsVisit a (settle (refreshPresented (mapScanner f a))) := by
  have hmap : (mapScanner f a).scanned = a.scanned := by
    unfold State.scanned; rw [mapScanner_get_scanner, (hf _).1, (hf _).2]; rfl
  have hres : TakesResults a (mapScanner f a) := .of_scanned hmap id
  obtain ⟨l, q, e⟩ := refreshPresented_eq (mapScanner f a)
  have hl := (Leaves.refl (refreshPresented (mapScanner f a))).settle
  refine ⟨by rw [settle_scanned, refreshPresented_scanned, hmap], ?_, ?_, ?_,
    (hres.trans (.refreshPresented _)).trans (.settle _), fun hroom => ?_⟩
  · rw [hl.sup, e]; rfl
  · rw [hl.perf, e]; rfl
  · rw [hl.alarm, e]; rfl
  · rw [(settle_served_alarm (by rw [e]; exact hroom)).2, e]; rfl

/-- R26: the event of a visit. -/
theorem execVisit_ends {s : State} {n : Nat} {c : ChannelRecord} (reading : Byte) (hh : s.resetHeld = false) (hp : s.scanner.path = some n)
    (hr : s.scanner.record n = some c) : ∃ t, exec (.visit reading) s = .next t ∧
      EndsVisit (judgeVisit n c (bandOf (s.settings.channel n) reading)
        (c.confirms (bandOf (s.settings.channel n) reading) (s.settings.channel n).confirm) (s.withReading n reading)) t := by
  obtain ⟨f, hf, hv⟩ := visitChannel_eq reading hr
  have hexec := execVisit_next reading hh hp
  rw [hv] at hexec
  exact ⟨_, hexec, endsVisit _ hf⟩

theorem EndsVisit.settings {a t : State} (h : EndsVisit a t) : t.settings = a.settings := (scanned_fields h.scanned).1

theorem EndsVisit.record {a t : State} (h : EndsVisit a t) (n : Nat) : t.scanner.record n = a.scanner.record n :=
  record_of_channels (scanned_fields h.scanned).2.2.1 n

/-! ## A visit that confirms nothing -/

/-- R27: outside a recovery check a visit that confirms nothing records its reading alone. -/
theorem judgeVisit_unconfirmed {n : Nat} {c : ChannelRecord} {s : State} (b : Band) (h : c.cut.all (fun k => k.step == .window) = true) :
    judgeVisit n c b false s = s := by
  unfold judgeVisit
  split
  · rfl
  · rename_i hc
    rw [hc] at h
    cases h
  · rfl

/-! ## A confirmed band other than ALARM -/

/-- What a raise makes of the list is decided by the list and the uptime. -/
theorem raiseFault_sup_congr {s t : State} (src : FaultSource) (k : FaultKind) (h : t.sup = s.sup) (hu : t.uptime = s.uptime) :
    (raiseFault src k t).sup = (raiseFault src k s).sup := by
  unfold raiseFault newFault displaceFault loseFault faultNotice
  rw [h]
  cases s.sup.find src k with
  | none =>
    dsimp only
    split
    · simp [hu]
    split
    · simp [hu]
    · simp
  | some e => cases he : e.state <;> simp [he]

/-- What a clear makes of the list is decided by the list. -/
theorem clearFault_sup_congr {s t : State} (src : FaultSource) (k : FaultKind) (h : t.sup = s.sup) :
    (clearFault src k t).sup = (clearFault src k s).sup := by
  unfold clearFault faultNotice
  rw [h]
  cases s.sup.find src k with
  | none => exact h
  | some e =>
    cases he : e.state with
    | cleared => simp [he, h]
    | active => cases ha : e.acked <;> simp [he, ha]

/-- R29: Supervision's list once the wiring fault held has been cleared. -/
def supWithoutWiring (n : Nat) (held : Option WiringFault) (s : State) : Supervision :=
  match held with
  | some .openLoop => (clearFault (.channel n) .loopOpen s).sup
  | some .shortLoop => (clearFault (.channel n) .loopShort s).sup
  | none => s.sup

theorem clearWiring_sup {s : State} {n : Nat} {c : ChannelRecord} (h : s.scanner.record n = some c) :
    (clearWiring n s).sup = supWithoutWiring n c.loopFault s := by
  unfold clearWiring supWithoutWiring
  rw [h, Option.bind_some]
  cases c.loopFault with
  | none => rfl
  | some w => cases w <;> exact clearFault_sup_congr _ _ rfl

theorem clearWiring_record_other {n m : Nat} (hm : m ≠ n) (s : State) : (clearWiring n s).scanner.record m = s.scanner.record m := by
  have hmap := record_mapChannel_other (f := fun c => { c with loopFault := none }) (fun _ => rfl) hm s
  unfold clearWiring; split
  · rfl
  · rw [clearFault_scanner]; exact hmap
  · rw [clearFault_scanner]; exact hmap

/-- R29: the wiring fault that a channel holds with a band as its state. -/
def wiringOf : Band → Option WiringFault
  | .openBand => some .openLoop
  | .short => some .shortLoop
  | .normal | .prealarm | .alarm => none

/-- R29: Supervision's list once a band that is no ALARM has been reported by a channel that holds a wiring fault or none. -/
def supReported (n : Nat) (b : Band) (held : Option WiringFault) (s : State) : Supervision :=
  match b with
  | .openBand => (raiseFault (.channel n) .loopOpen (if held = some .shortLoop then clearFault (.channel n) .loopShort s else s)).sup
  | .short => (raiseFault (.channel n) .loopShort (if held = some .openLoop then clearFault (.channel n) .loopOpen s else s)).sup
  | .normal | .prealarm | .alarm => supWithoutWiring n held s

theorem supReported_congr {s t : State} (n : Nat) (b : Band) (held : Option WiringFault) (h : t.sup = s.sup) (hu : t.uptime = s.uptime) :
    supReported n b held t = supReported n b held s := by
  have hclear : ∀ k, (clearFault (.channel n) k t).uptime = (clearFault (.channel n) k s).uptime := fun k => by
    obtain ⟨_, _, e⟩ := clearFault_eq (.channel n) k t
    obtain ⟨_, _, e'⟩ := clearFault_eq (.channel n) k s
    rw [e, e']; exact hu
  have hwithout : supWithoutWiring n held t = supWithoutWiring n held s := by
    unfold supWithoutWiring; split
    · exact clearFault_sup_congr _ _ h
    · exact clearFault_sup_congr _ _ h
    · exact h
  cases b with
  | openBand | short =>
    unfold supReported; dsimp only
    split
    · exact raiseFault_sup_congr _ _ (clearFault_sup_congr _ _ h) (hclear _)
    · exact raiseFault_sup_congr _ _ h hu
  | normal | prealarm | alarm => exact hwithout

/-- A wiring fault raised, once the other has been cleared if it was held. -/
def raiseWiring (n : Nat) (k : FaultKind) (w other : WiringFault) (s : State) : State :=
  raiseFault (.channel n) k (mapChannel n (fun c => { c with loopFault := some w })
    (if (s.scanner.record n).bind ChannelRecord.loopFault = some other then clearWiring n s else s))

/-- What the report of a band to Supervision makes of the Scanner's records. -/
structure Wires (n : Nat) (w : Option WiringFault) (c : ChannelRecord) (s t : State) : Prop where
  record : t.scanner.record n = some { c with loopFault := w }
  others : ∀ m, m ≠ n → t.scanner.record m = s.scanner.record m
  scans : Scans s t

theorem clearWiring_wires {s : State} {n : Nat} {c : ChannelRecord} (h : s.scanner.record n = some c) : Wires n none c s (clearWiring n s) :=
  ⟨clearWiring_record h, fun _ hm => clearWiring_record_other hm s, (Scans.refl s).clearWiring n⟩

theorem raiseWiring_wires {s : State} {n : Nat} {c : ChannelRecord} (k : FaultKind) (w other : WiringFault) (h : s.scanner.record n = some c) :
    Wires n (some w) c s (raiseWiring n k w other s) := by
  obtain ⟨f, h1, hothers, hscans⟩ : ∃ f, Wires n f c s
      (if (s.scanner.record n).bind ChannelRecord.loopFault = some other then clearWiring n s else s) := by
    split
    · exact ⟨none, clearWiring_wires h⟩
    · exact ⟨c.loopFault, h, fun _ _ => rfl, .refl s⟩
  refine ⟨?_, fun m hm => ?_, (hscans.mapChannel _ _).raiseFault _ _⟩
  · rw [raiseWiring, raiseFault_scanner]
    exact (record_mapChannel (f := fun c => { c with loopFault := some w }) (fun _ => rfl) h1).trans rfl
  · rw [raiseWiring, raiseFault_scanner]
    exact (record_mapChannel_other (f := fun c => { c with loopFault := some w }) (fun _ => rfl) hm _).trans (hothers m hm)

theorem raiseWiring_sup {s : State} {n : Nat} {c : ChannelRecord} (k : FaultKind) (w other : WiringFault) (h : s.scanner.record n = some c) :
    (raiseWiring n k w other s).sup = (raiseFault (.channel n) k (if c.loopFault = some other then
      { s with sup := supWithoutWiring n (some other) s } else s)).sup := by
  have hbind : (s.scanner.record n).bind ChannelRecord.loopFault = c.loopFault := by rw [h]; rfl
  unfold raiseWiring
  rw [hbind]
  split
  · rename_i hw
    obtain ⟨_, _, _, e⟩ := (Scans.refl s).clearWiring n
    refine raiseFault_sup_congr _ _ ?_ (by rw [mapChannel_get_uptime, e])
    rw [mapChannel_get_sup, clearWiring_sup h, hw]
  · exact raiseFault_sup_congr _ _ rfl rfl

/-- R29: the report of a band that is no ALARM. -/
theorem reportWiring_wires {s : State} {n : Nat} {c : ChannelRecord} {b : Band} (hb : b ≠ .alarm) (h : s.scanner.record n = some c) :
    Wires n (wiringOf b) c s (reportWiring n b s) := by
  cases b with
  | openBand => exact raiseWiring_wires .loopOpen .openLoop .shortLoop h
  | short => exact raiseWiring_wires .loopShort .shortLoop .openLoop h
  | normal | prealarm => exact clearWiring_wires h
  | alarm => exact absurd rfl hb

theorem reportWiring_sup {s : State} {n : Nat} {c : ChannelRecord} {b : Band} (hb : b ≠ .alarm) (h : s.scanner.record n = some c) :
    (reportWiring n b s).sup = supReported n b c.loopFault s := by
  have hclear : ∀ k, (clearFault (.channel n) k s).uptime = s.uptime := fun k => by
    obtain ⟨_, _, e⟩ := clearFault_eq (.channel n) k s
    rw [e]
  cases b with
  | openBand =>
    refine (raiseWiring_sup .loopOpen .openLoop .shortLoop h).trans ?_
    unfold supReported; dsimp only
    split
    · exact raiseFault_sup_congr _ _ rfl (hclear _).symm
    · rfl
  | short =>
    refine (raiseWiring_sup .loopShort .shortLoop .openLoop h).trans ?_
    unfold supReported; dsimp only
    split
    · exact raiseFault_sup_congr _ _ rfl (hclear _).symm
    · rfl
  | normal | prealarm => exact clearWiring_sup h
  | alarm => exact absurd rfl hb

/-- R49: the alarm list without a channel in a zone's entry, if the channel's alarm was reported. -/
def outOfAlarm (n z : Nat) (reported : Bool) (l : List AlarmEntry) : List AlarmEntry :=
  l.map (fun e => if reported = true ∧ e.zone = z then { e with channels := e.channels.filter (fun m => m != n) } else e)

/-- R28, R49: what the report to the Alarm Unit of a band other than ALARM makes of the records and the list. -/
structure ReportsClear (n : Nat) (c : ChannelRecord) (s t : State) : Prop where
  record : t.scanner.record n = some { c with alarmReported := false }
  others : ∀ m, m ≠ n → t.scanner.record m = s.scanner.record m
  entries : t.alarm.entries = outOfAlarm n (s.settings.channel n).zone c.alarmReported s.alarm.entries
  relay : t.alarm.relay = s.alarm.relay
  perf : t.perf = s.perf
  settings : t.settings = s.settings
  sup : t.sup = s.sup
  uptime : t.uptime = s.uptime
  loop : t.loop = s.loop

/-- R28: with start-up over an "out of alarm" report reaches the Alarm Unit at once. -/
theorem reportOut_done {s : State} (n : Nat) (hd : s.startStep = .done) :
    reportOut n s = takeOutOfAlarm n (s.settings.channel n).zone (mapChannel n (fun c => { c with alarmReported := false }) s) := by
  have hd' : (mapChannel n (fun c => { c with alarmReported := false }) s).startStep = .done := hd
  rw [reportOut, handReports, if_pos hd']; rfl

theorem reportClear_reports {s : State} {n : Nat} {c : ChannelRecord} (hd : s.startStep = .done) (h : s.scanner.record n = some c) :
    ReportsClear n c s (reportClear n s) := by
  unfold reportClear
  rw [h, Option.any_some]
  cases hc : c.alarmReported with
  | false =>
    have hsame : ({ c with alarmReported := false } : ChannelRecord) = c := by rw [← hc]
    refine ⟨by rw [hsame]; exact h, fun _ _ => rfl, ?_, rfl, rfl, rfl, rfl, rfl, rfl⟩
    simp [hc, outOfAlarm]
  | true =>
    rw [if_pos rfl, reportOut_done n hd]
    refine ⟨record_mapChannel (f := fun c => { c with alarmReported := false }) (fun _ => rfl) h,
      fun m hm => record_mapChannel_other (f := fun c => { c with alarmReported := false }) (fun _ => rfl) hm s, ?_, rfl, rfl, rfl, rfl, rfl, rfl⟩
    refine List.map_congr_left fun e _ => ?_
    simp [hc, removeNum]

/-- R27 to R30: the reports of a confirmed band other than ALARM that becomes the state. -/
structure TakesBand (n : Nat) (b : Band) (c : ChannelRecord) (s t : State) : Prop where
  record : t.scanner.record n = some { c with state := bandState b, firstPending := false, alarmReported := false, loopFault := wiringOf b }
  others : ∀ m, m ≠ n → t.scanner.record m = s.scanner.record m
  sup : t.sup = supReported n b c.loopFault s
  entries : t.alarm.entries = outOfAlarm n (s.settings.channel n).zone c.alarmReported s.alarm.entries
  relay : t.alarm.relay = s.alarm.relay
  perf : t.perf = s.perf
  settings : t.settings = s.settings
  loop : t.loop = s.loop

/-- The record changed, then the two reports in their order. -/
theorem takesBand {s : State} {n : Nat} {b : Band} {c : ChannelRecord} {f : ChannelRecord → ChannelRecord} (hb : b ≠ .alarm)
    (hd : s.startStep = .done) (h : s.scanner.record n = some c) (hf : ∀ c, (f c).num = c.num)
    (hc : f c = { c with state := bandState b, firstPending := false }) : TakesBand n b c s (reportWiring n b (reportClear n (mapChannel n f s))) := by
  have h1 := record_mapChannel hf h
  have hr := reportClear_reports (s := mapChannel n f s) hd h1
  have hw := reportWiring_wires hb hr.record
  have hsup := reportWiring_sup hb hr.record
  obtain ⟨sc, u, q, e⟩ := hw.scans
  rw [hc] at hr h1
  refine ⟨?_, fun m hm => ((hw.others m hm).trans (hr.others m hm)).trans (record_mapChannel_other hf hm s), ?_, ?_, ?_, ?_, ?_, ?_⟩
  · rw [hw.record, hc]
  · rw [hsup, hc]
    exact supReported_congr n b _ hr.sup hr.uptime
  · rw [e]; exact hr.entries
  · rw [e]; exact hr.relay
  · rw [e]; exact hr.perf
  · rw [e]; exact hr.settings
  · rw [e]; exact hr.loop

/-- R27: a confirmed band other than ALARM, of a channel at its first confirm or in another state. -/
theorem takeConfirmed_takesBand {s : State} {n : Nat} {b : Band} {c : ChannelRecord} (hb : b ≠ .alarm) (hd : s.startStep = .done)
    (h : s.scanner.record n = some c) (hi : s.settings.isolatedInEffect n = false)
    (hc : if c.firstPending then c.state = .normal else c.state ≠ bandState b) : TakesBand n b c s (takeConfirmed n b s) := by
  rw [takeConfirmed, h]
  dsimp only
  rw [hi, if_neg (by decide)]
  by_cases hfirst : c.firstPending = true ∧ b = .normal
  · obtain ⟨hp, rfl⟩ := hfirst
    rw [if_pos ⟨hp, rfl⟩]
    rw [hp, if_pos rfl] at hc
    exact takesBand hb hd h (fun _ => rfl) (by rw [hc]; rfl)
  · rw [if_neg hfirst, if_pos (by
      cases hp : c.firstPending with
      | true => exact .inl rfl
      | false => rw [hp] at hc; exact .inr hc), changeState, if_neg hb]
    have ht := takesBand (f := fun c => { c with state := bandState b, firstPending := false }) hb hd h (fun _ => rfl) rfl
    obtain ⟨q, e⟩ := changeNotice_eq n c.state .state .plain
      (reportWiring n b (reportClear n (mapChannel n (fun c => { c with state := bandState b, firstPending := false }) s)))
    rw [e]
    exact ⟨ht.record, ht.others, ht.sup, ht.entries, ht.relay, ht.perf, ht.settings, ht.loop⟩

/-- R27: outside a cut a confirmed band is compared with the state. -/
theorem judgeVisit_uncut {n : Nat} {c : ChannelRecord} {s : State} (b : Band) (h : c.cut = none) : judgeVisit n c b true s = takeConfirmed n b s := by
  rw [judgeVisit, h]; rfl

/-! ## A verification -/

/-- A number of the CHANNELS section names its record there. -/
theorem channel_of_mem {v : Settings} {c : ChannelSettings} (hn : (v.channels.channels.map (·.num)).Nodup) (hc : c ∈ v.channels.channels) :
    v.channel c.num = c := by
  unfold Settings.channel
  cases hf : v.channels.channels.find? (fun x => x.num == c.num) with
  | none => exact absurd (List.find?_eq_none.1 hf c hc) (by simp)
  | some x =>
    have hnum : x.num = c.num := by simpa using List.find?_some hf
    exact List.inj_on_of_nodup_map hn (List.mem_of_find?_eq_some hf) hc hnum

/-- R43: the channels of a zone name it. -/
theorem zone_of_mem_channelsOf {v : Settings} {m z : Nat} (hn : (v.channels.channels.map (·.num)).Nodup) (h : m ∈ v.channelsOf z) :
    (v.channel m).zone = z := by
  obtain ⟨c, hc, rfl⟩ := List.mem_map.1 h
  obtain ⟨hmem, hz⟩ := List.mem_filter.1 hc
  rw [channel_of_mem hn hmem]
  simp only [Bool.and_eq_true, beq_iff_eq] at hz
  exact hz.1

/-- R34: a confirmed ALARM is checked first, where the zone asks it and nothing of the zone is in alarm or in a verification. -/
theorem verifies_of {s : State} {n : Nat} (hn : (s.settings.channels.channels.map (·.num)).Nodup)
    (ht : (s.settings.channel n).type = .detectorLoop) (hi : s.settings.isolatedInEffect n = false)
    (hv : (s.settings.zone (s.settings.channel n).zone).verify = true) (he : s.alarm.entry (s.settings.channel n).zone = none)
    (hquiet : ∀ m x, s.scanner.record m = some x → (s.settings.channel m).zone = (s.settings.channel n).zone → x.alarmReported = false)
    (hver : verifyingIn (s.settings.channel n).zone s = []) : verifies n s = true := by
  have hrep : (s.settings.channelsOf (s.settings.channel n).zone).any (fun m => (s.scanner.record m).any (·.alarmReported)) = false := by
    rw [List.any_eq_false]
    intro m hm hx
    obtain ⟨x, hx, ha⟩ := (Option.any_eq_true _ _).1 hx
    rw [hquiet m x hx (zone_of_mem_channelsOf hn hm)] at ha
    cases ha
  unfold verifies; dsimp only
  rw [ht, hi, hv, he, hrep, hver]; rfl

/-- R34: a confirmed ALARM that is to be checked first. -/
theorem takeConfirmed_verifies {s : State} {n : Nat} {c : ChannelRecord} (h : s.scanner.record n = some c)
    (hi : s.settings.isolatedInEffect n = false) (hc : c.state ≠ .alarm) (hv : verifies n s = true) :
    takeConfirmed n .alarm s = beginVerification n c.state s := by
  rw [takeConfirmed, h]
  dsimp only
  rw [hi, if_neg (by decide), if_neg (by simp), if_pos (.inr hc), changeState, if_pos rfl, hv, if_pos rfl]

/-! ## A recovery check -/

/-- The channel's record stands, and is in no cut. -/
def Uncut (n : Nat) (s : State) : Prop := (s.scanner.record n).map ChannelRecord.cut = some none

theorem uncut_mapChannel {f : ChannelRecord → ChannelRecord} (hf : ∀ c, (f c).num = c.num) (hcut : ∀ c, c.cut = none → (f c).cut = none)
    {n : Nat} (m : Nat) {s : State} (h : Uncut n s) : Uncut n (mapChannel m f s) := by
  unfold Uncut at h ⊢
  by_cases hm : n = m
  · subst hm
    cases hr : s.scanner.record n with
    | none => rw [hr] at h; cases h
    | some c =>
      rw [record_mapChannel hf hr]
      rw [hr] at h
      exact congrArg some (hcut c (Option.some.inj h))
  · rwa [record_mapChannel_other hf hm]

/-- What a confirmed band changes of the Scanner, beside the records: nothing; and a channel out of every cut stays so, but for a verification that
begins (`u` says that none does). -/
structure Rejudges (u : Prop) (n : Nat) (s t : State) : Prop where
  settings : t.settings = s.settings
  claims : t.scanner.claims = s.scanner.claims
  uncut : u → Uncut n s → Uncut n t

theorem Rejudges.refl {u : Prop} {n : Nat} (s : State) : Rejudges u n s s := ⟨rfl, rfl, fun _ h => h⟩

theorem Rejudges.trans {u : Prop} {n : Nat} {a b c : State} (h : Rejudges u n a b) (k : Rejudges u n b c) : Rejudges u n a c :=
  ⟨k.settings.trans h.settings, k.claims.trans h.claims, fun hu x => k.uncut hu (h.uncut hu x)⟩

theorem Rejudges.of_scanned {u : Prop} {n : Nat} {s t : State} (h : t.scanned = s.scanned) : Rejudges u n s t := by
  obtain ⟨hset, -, hchannels, hclaims⟩ := scanned_fields h
  exact ⟨hset, hclaims, fun _ x => by unfold Uncut; rwa [record_of_channels hchannels]⟩

section
variable {u : Prop} {n : Nat} {s0 s : State}

theorem Rejudges.then_scanned {t : State} (h : Rejudges u n s0 s) (e : t.scanned = s.scanned) : Rejudges u n s0 t := h.trans (.of_scanned e)

theorem Rejudges.mapChannel (m : Nat) (f : ChannelRecord → ChannelRecord) (hf : ∀ c, (f c).num = c.num) (hcut : ∀ c, c.cut = none → (f c).cut = none)
    (h : Rejudges u n s0 s) : Rejudges u n s0 (Machine.mapChannel m f s) :=
  h.trans ⟨rfl, rfl, fun _ x => uncut_mapChannel hf hcut m x⟩

theorem Rejudges.changeNotice (m : Nat) (st : ChannelState) (ev : ChannelEvent) (mark : AlarmMark) (h : Rejudges u n s0 s) :
    Rejudges u n s0 (Machine.changeNotice m st ev mark s) := h.then_scanned (changeNotice_scanned ..)

theorem Rejudges.clearWiring (m : Nat) (h : Rejudges u n s0 s) : Rejudges u n s0 (Machine.clearWiring m s) := by
  have hmap := h.mapChannel m (fun c => { c with loopFault := none }) (fun _ => rfl) (fun _ x => x)
  unfold Machine.clearWiring; split
  · exact h
  · exact hmap.then_scanned (clearFault_scanned ..)
  · exact hmap.then_scanned (clearFault_scanned ..)

theorem Rejudges.raiseWiring (m : Nat) (k : FaultKind) (w other : WiringFault) (h : Rejudges u n s0 s) :
    Rejudges u n s0 (Machine.raiseWiring m k w other s) := by
  refine (Rejudges.mapChannel m (fun c => { c with loopFault := some w }) (fun _ => rfl) (fun _ x => x) ?_).then_scanned (raiseFault_scanned ..)
  split
  · exact h.clearWiring m
  · exact h

theorem Rejudges.reportWiring (m : Nat) (b : Band) (h : Rejudges u n s0 s) : Rejudges u n s0 (Machine.reportWiring m b s) := by
  cases b with
  | alarm => exact h
  | normal | prealarm => exact h.clearWiring m
  | openBand => exact h.raiseWiring m .loopOpen .openLoop .shortLoop
  | short => exact h.raiseWiring m .loopShort .shortLoop .openLoop

/-- R195 step 4: a report of an alarm or of its end reaches the Alarm Unit, or is held. -/
theorem Rejudges.handReport {r : ScanReport} (hr : ∀ v : State, (takeReport v r).scanned = v.scanned) (h : Rejudges u n s0 s) :
    Rejudges u n s0 (handReports [r] s) := by
  unfold handReports; split
  · exact h.then_scanned (hr s)
  · exact h.then_scanned rfl

theorem Rejudges.reportAlarm (m : Nat) (mark : AlarmMark) (h : Rejudges u n s0 s) : Rejudges u n s0 (Machine.reportAlarm m mark s) :=
  (h.mapChannel m (fun c => { c with alarmReported := true }) (fun _ => rfl) fun _ x => x).handReport fun v => takeAlarm_scanned v ..

theorem Rejudges.reportClear (m : Nat) (h : Rejudges u n s0 s) : Rejudges u n s0 (Machine.reportClear m s) := by
  unfold Machine.reportClear; split
  · exact (h.mapChannel m (fun c => { c with alarmReported := false }) (fun _ => rfl) fun _ x => x).handReport fun v => takeOutOfAlarm_scanned v ..
  · exact h

theorem abandoned_num (c : ChannelRecord) : c.abandoned.num = c.num := by
  unfold ChannelRecord.abandoned; split
  · split <;> rfl
  · rfl

theorem abandoned_of_uncut (c : ChannelRecord) (h : c.cut = none) : c.abandoned.cut = none := by
  rw [ChannelRecord.abandoned, h]; exact h

theorem Rejudges.foldl {α : Type} {g : State → α → State} (hg : ∀ (v : State) (a : α), Rejudges u n s0 v → Rejudges u n s0 (g v a)) (l : List α) :
    ∀ {v : State}, Rejudges u n s0 v → Rejudges u n s0 (l.foldl g v) := by
  induction l with
  | nil => exact id
  | cons a l ih => exact fun h => ih (hg _ a h)

theorem Rejudges.alarmConfirmed (m : Nat) (previous : ChannelState) (h : Rejudges u n s0 s) : Rejudges u n s0 (Machine.alarmConfirmed m previous s) :=
  Rejudges.foldl (fun _ k x => (x.mapChannel k _ abandoned_num abandoned_of_uncut).changeNotice _ _ _ _) _
    ((Rejudges.foldl (fun _ k x => x.reportAlarm k _) _ (h.reportAlarm m _)).changeNotice _ _ _ _)

/-- R28 to R30, R34: a change of state. -/
theorem changeState_rejudges (b : Band) (previous : ChannelState) (s : State) :
    Rejudges (b ≠ .alarm ∨ verifies n s = false) n s (changeState n b previous s) := by
  have h := Rejudges.refl (u := b ≠ .alarm ∨ verifies n s = false) (n := n) s
  unfold changeState
  split
  · rename_i hb
    split
    · rename_i hv
      refine Rejudges.changeNotice _ _ _ _ ⟨rfl, rfl, fun hu => ?_⟩
      obtain hu | hu := hu
      · exact absurd hb hu
      · rw [hu] at hv; cases hv
    · have hmap := h.mapChannel n (fun c => { c with state := .alarm, firstPending := false }) (fun _ => rfl) (fun _ x => x)
      dsimp only
      split
      · exact hmap.changeNotice _ _ _ _
      · exact hmap.alarmConfirmed n previous
  · exact (((h.mapChannel n (fun c => { c with state := bandState b, firstPending := false }) (fun _ => rfl) fun _ x => x).reportClear n).reportWiring
      n b).changeNotice _ _ _ _

theorem takeConfirmed_rejudges (b : Band) (s : State) : Rejudges (b ≠ .alarm ∨ verifies n s = false) n s (takeConfirmed n b s) := by
  have h := Rejudges.refl (u := b ≠ .alarm ∨ verifies n s = false) (n := n) s
  unfold takeConfirmed; split
  · exact h
  split
  · exact h.mapChannel n (fun c => { c with state := bandState b, firstPending := false }) (fun _ => rfl) fun _ x => x
  split
  · exact ((h.mapChannel n (fun c => { c with firstPending := false }) (fun _ => rfl) fun _ x => x).reportClear n).clearWiring n
  split
  · exact changeState_rejudges b _ s
  · exact h

end

/-- R34: an ALARM is not checked first where the zone does not ask it, or where the channel's own alarm has been reported. -/
theorem not_verifies {s : State} {n : Nat} {c : ChannelRecord} (hr : s.scanner.record n = some c)
    (h : (s.settings.zone (s.settings.channel n).zone).verify = false ∨ (c.alarmReported = true ∧ n ∈ s.settings.channels.channels.map (·.num))) :
    verifies n s = false := by
  by_contra hv
  rw [Bool.not_eq_false] at hv
  unfold verifies at hv; dsimp only at hv
  simp only [Bool.and_eq_true, beq_iff_eq, Bool.not_eq_true'] at hv
  obtain ⟨⟨⟨⟨⟨htype, -⟩, hver⟩, -⟩, hrep⟩, -⟩ := hv
  obtain h | ⟨ha, hn⟩ := h
  · rw [h] at hver; cases hver
  · refine List.any_eq_false.1 hrep n ?_ (by rw [hr]; exact ha)
    obtain ⟨x, hx, hxn⟩ := List.mem_map.1 hn
    cases hf : s.settings.channels.channels.find? (fun x => x.num == n) with
    | none => exact absurd (List.find?_eq_none.1 hf x hx) (by simp [hxn])
    | some y =>
      have hy : s.settings.channel n = y := by rw [Settings.channel, hf]; rfl
      refine List.mem_map.2 ⟨y, List.mem_filter.2 ⟨List.mem_of_find?_eq_some hf, ?_⟩, by simpa using List.find?_some hf⟩
      rw [hy] at htype
      simp [hy, htype]

/-- R32: a channel's check counted in a claim. -/
theorem count_eq (n : Nat) (inAlarm : Bool) (k : ResetClaim) : k.count n inAlarm = if n ∈ k.channels then { k with
    outstanding := removeNum n k.outstanding, inAlarm := if inAlarm = true then insertNum n k.inAlarm else removeNum n k.inAlarm } else k := by
  unfold ResetClaim.count
  by_cases h : n ∈ k.channels <;> simp [h]

/-- R32: the claims once a channel's recovery check has ended. -/
def countedClaims (n : Nat) (inAlarm : Bool) (l : List ResetClaim) : List ResetClaim := (l.map (ResetClaim.count n inAlarm)).filter (fun k => !k.complete)

/-- R32: the last visit of a recovery check. -/
theorem judgeVisit_lastCheck {n visits : Nat} {c : ChannelRecord} {s : State} {ends : Option Nat} (b : Band) (confirmed : Bool)
    (hc : c.cut = some ⟨.loopReset, .recoveryCheck, ends, visits⟩) (hv : (s.settings.channel n).confirm ≤ visits + 1) :
    judgeVisit n c b confirmed s = handResults (countCheck n (confirmed && b == .alarm)
      (if confirmed then takeConfirmed n b (mapChannel n (ChannelRecord.checkVisit (s.settings.channel n).confirm) s)
       else mapChannel n (ChannelRecord.checkVisit (s.settings.channel n).confirm) s)) := by
  rw [judgeVisit, hc]
  dsimp only
  rw [if_pos hv]

theorem checkVisit_num (confirm : Nat) (c : ChannelRecord) : (c.checkVisit confirm).num = c.num := by
  unfold ChannelRecord.checkVisit; split
  · split <;> rfl
  · rfl

theorem checkVisit_last {confirm visits : Nat} {c : ChannelRecord} {ends : Option Nat} {p : CutPurpose} {st : CutStep}
    (hc : c.cut = some ⟨p, st, ends, visits⟩) (hv : confirm ≤ visits + 1) : c.checkVisit confirm = { c with cut := none } := by
  rw [ChannelRecord.checkVisit, hc]
  exact if_pos hv

/-- What the last visit of a recovery check makes of the Scanner. -/
structure EndsCheck (n : Nat) (u : Prop) (counted : List ResetClaim) (s t : State) : Prop where
  settings : t.settings = s.settings
  uncut : u → Uncut n t
  claims : t.alarm.entries ≠ [] → t.scanner.claims = counted
  unmarked : t.scanner.claims.map ResetClaim.unmarked = counted.map ResetClaim.unmarked

/-- R32: the check counted, and the results of the claims that it completes. -/
theorem handResults_countCheck {n : Nat} {u : Prop} {s0 s : State} (inAlarm : Bool) (h : Rejudges u n s0 s) (hcut : Uncut n s0) :
    EndsCheck n u (countedClaims n inAlarm s0.scanner.claims) s0 (handResults (countCheck n inAlarm s)) := by
  have hres := TakesResults.handResults (countCheck n inAlarm s)
  have hclaims : (mapScanner Scanner.dropComplete (countCheck n inAlarm s)).scanner.claims = countedClaims n inAlarm s0.scanner.claims := by
    rw [← h.claims]; rfl
  refine ⟨hres.settings.trans h.settings, fun hu => ?_, fun he => (hres.claims he).trans hclaims, hres.unmarked.trans (by rw [hclaims])⟩
  unfold Uncut
  rw [record_of_channels hres.channels]
  exact h.uncut hu hcut

/-! ## The visit's cases -/

/-- R26, R27: a visit that confirms nothing, outside a recovery check. -/
theorem visit_unconfirmed {s : State} {n : Nat} {c : ChannelRecord} {reading : Byte} (hh : s.resetHeld = false) (hp : s.scanner.path = some n)
    (hr : s.scanner.record n = some c) (hcut : c.cut.all (fun k => k.step == .window) = true)
    (hc : c.confirms (bandOf (s.settings.channel n) reading) (s.settings.channel n).confirm = false) :
    ∃ t, exec (.visit reading) s = .next t ∧
      t.scanner.record n = some (c.read reading (bandOf (s.settings.channel n) reading) (s.settings.channel n).confirm) ∧
      (∀ m, m ≠ n → t.scanner.record m = s.scanner.record m) ∧ t.sup = s.sup ∧ t.perf = s.perf ∧ t.settings = s.settings := by
  obtain ⟨t, ht, he⟩ := execVisit_ends reading hh hp hr
  rw [hc, judgeVisit_unconfirmed _ hcut] at he
  exact ⟨t, ht, (he.record n).trans (record_withReading reading hr), fun m hm => (he.record m).trans (record_withReading_other reading hm),
    he.sup, he.perf, he.settings⟩

/-- R27 to R29, R49: a visit that confirms a band other than ALARM. -/
theorem visit_band {s : State} {n : Nat} {c : ChannelRecord} {reading : Byte} (hp : s.scanner.path = some n)
    (hr : s.scanner.record n = some c) (hcut : c.cut = none)
    (hc : c.confirms (bandOf (s.settings.channel n) reading) (s.settings.channel n).confirm = true)
    (hb : bandOf (s.settings.channel n) reading ≠ .alarm) (hi : s.settings.isolatedInEffect n = false) (ha : s.awake) (hd : s.startStep = .done)
    (hst : if c.firstPending then c.state = .normal else c.state ≠ bandState (bandOf (s.settings.channel n) reading)) :
    ∃ t a, exec (.visit reading) s = .next t ∧ EndsVisit a t ∧ a.loop.roomOwed = false ∧
      TakesBand n (bandOf (s.settings.channel n) reading)
        (c.read reading (bandOf (s.settings.channel n) reading) (s.settings.channel n).confirm) (s.withReading n reading) a := by
  obtain ⟨t, ht, he⟩ := execVisit_ends reading ha.1 hp hr
  rw [hc, judgeVisit_uncut _ hcut] at he
  have hband := takeConfirmed_takesBand (s := s.withReading n reading) hb hd (record_withReading reading hr) hi hst
  exact ⟨t, _, ht, he, by rw [hband.loop]; exact ((idle_iff s).1 ha.2).1, hband⟩

/-- R34: a visit that confirms an ALARM to be checked first. -/
theorem visit_verifies {s : State} {n : Nat} {c : ChannelRecord} {reading : Byte} (hn : (s.settings.channels.channels.map (·.num)).Nodup)
    (hp : s.scanner.path = some n) (hr : s.scanner.record n = some c) (hcut : c.cut = none)
    (hc : c.confirms .alarm (s.settings.channel n).confirm = true)
    (hb : bandOf (s.settings.channel n) reading = .alarm) (hst : c.state ≠ .alarm) (ht : (s.settings.channel n).type = .detectorLoop)
    (hi : s.settings.isolatedInEffect n = false) (hv : (s.settings.zone (s.settings.channel n).zone).verify = true)
    (he : s.alarm.entry (s.settings.channel n).zone = none)
    (hquiet : ∀ x ∈ s.scanner.channels, (s.settings.channel x.num).zone = (s.settings.channel n).zone →
      x.alarmReported = false ∧ x.inCut .verification = false) (ha : s.awake) :
    ∃ t, exec (.visit reading) s = .next t ∧
      t.scanner.record n = some (ChannelRecord.verify (s.uptime + s.settings.channels.offTime)
        (c.read reading .alarm (s.settings.channel n).confirm)) ∧
      t.alarm.entries = s.alarm.entries ∧ t.alarm.relay = s.alarm.relay ∧ t.sup = s.sup ∧ t.perf = s.perf := by
  obtain ⟨t, hexec, hend⟩ := execVisit_ends reading ha.1 hp hr
  have hrec := record_withReading reading hr
  rw [hb] at hend hrec
  rw [hc, judgeVisit_uncut _ hcut] at hend
  have hreported : ∀ m x, (s.withReading n reading).scanner.record m = some x →
      (s.settings.channel m).zone = (s.settings.channel n).zone → x.alarmReported = false := by
    have hold : ∀ m x, s.scanner.record m = some x → (s.settings.channel m).zone = (s.settings.channel n).zone → x.alarmReported = false := by
      intro m x hx hz
      have hnum : x.num = m := by simpa using List.find?_some hx
      exact (hquiet x (List.mem_of_find?_eq_some hx) (hnum ▸ hz)).1
    intro m x hx hz
    by_cases hm : m = n
    · subst hm
      rw [hrec] at hx; cases hx
      exact hold m c hr rfl
    · rw [record_withReading_other reading hm] at hx
      exact hold m x hx hz
  have hverifying : verifyingIn (s.settings.channel n).zone (s.withReading n reading) = [] :=
    (verifyingIn_mapChannel (f := fun c => c.read reading (bandOf (s.settings.channel n) reading) (s.settings.channel n).confirm)
      (fun _ => ⟨rfl, rfl⟩) _ n s).trans (verifyingIn_nil fun x hx hz => (hquiet x hx hz).2)
  have hverifies : verifies n (s.withReading n reading) = true := verifies_of (s := s.withReading n reading) hn ht hi hv he hreported hverifying
  rw [takeConfirmed_verifies hrec hi hst hverifies] at hend
  obtain ⟨q, hq⟩ := changeNotice_eq n (c.read reading .alarm (s.settings.channel n).confirm).state .cut .plain
    (mapChannel n (ChannelRecord.verify (s.uptime + s.settings.channels.offTime)) (s.withReading n reading))
  have hbegin : beginVerification n (c.read reading .alarm (s.settings.channel n).confirm).state (s.withReading n reading) = _ := hq
  rw [hbegin] at hend
  exact ⟨t, hexec, (hend.record n).trans (record_mapChannel (fun _ => rfl) hrec), hend.entries ((idle_iff s).1 ha.2).1, hend.relay, hend.sup, hend.perf⟩

/-- R32: the last visit of a recovery check. -/
theorem visit_lastCheck {s : State} {n visits : Nat} {c : ChannelRecord} {reading : Byte} {ends : Option Nat} (hh : s.resetHeld = false)
    (hp : s.scanner.path = some n) (hr : s.scanner.record n = some c) (hcut : c.cut = some ⟨.loopReset, .recoveryCheck, ends, visits⟩)
    (hv : (s.settings.channel n).confirm ≤ visits + 1) :
    ∃ t, exec (.visit reading) s = .next t ∧
      EndsCheck n (bandOf (s.settings.channel n) reading ≠ .alarm ∨ (c.alarmReported = true ∧ s.channelsSettled) ∨
          (s.settings.zone (s.settings.channel n).zone).verify = false)
        (countedClaims n (c.confirms (bandOf (s.settings.channel n) reading) (s.settings.channel n).confirm &&
          bandOf (s.settings.channel n) reading == .alarm) s.scanner.claims) s t ∧
      (c.confirms (bandOf (s.settings.channel n) reading) (s.settings.channel n).confirm = false →
        t.scanner.record n = some { c.read reading (bandOf (s.settings.channel n) reading) (s.settings.channel n).confirm with cut := none }) := by
  let b := bandOf (s.settings.channel n) reading
  let confirm := (s.settings.channel n).confirm
  let s1 := mapChannel n (ChannelRecord.checkVisit confirm) (s.withReading n reading)
  have hrec : s1.scanner.record n = some { c.read reading b confirm with cut := none } :=
    (record_mapChannel (checkVisit_num _) (record_withReading reading hr)).trans (congrArg some (checkVisit_last hcut hv))
  have huncut : Uncut n s1 := by unfold Uncut; rw [hrec]; rfl
  obtain ⟨t, hexec, hend⟩ := execVisit_ends reading hh hp hr
  rw [judgeVisit_lastCheck (s := s.withReading n reading) b _ hcut hv] at hend
  have hjudged : ∀ confirmed : Bool, Rejudges (b ≠ .alarm ∨ (c.alarmReported = true ∧ s.channelsSettled) ∨
      (s.settings.zone (s.settings.channel n).zone).verify = false) n s1 (if confirmed then takeConfirmed n b s1 else s1) := by
    intro confirmed
    cases confirmed with
    | false => exact .refl s1
    | true =>
      obtain ⟨hset, hclaims, hstay⟩ := takeConfirmed_rejudges (n := n) b s1
      refine ⟨hset, hclaims, fun hu => hstay ?_⟩
      obtain hu | ⟨ha, -, hnums⟩ | hu := hu
      · exact .inl hu
      · have hmem := hnums c (List.mem_of_find?_eq_some hr)
        rw [show c.num = n by simpa using List.find?_some hr] at hmem
        exact .inr (not_verifies (s := s1) hrec (.inr ⟨ha, hmem⟩))
      · exact .inr (not_verifies (s := s1) hrec (.inl hu))
  have hcheck := handResults_countCheck (c.confirms b confirm && b == .alarm) (hjudged (c.confirms b confirm)) huncut
  refine ⟨t, hexec, ⟨hend.settings.trans hcheck.settings, fun hu => ?_, fun he => ?_, hend.results.unmarked.trans hcheck.unmarked⟩, fun hc => ?_⟩
  · unfold Uncut
    rw [hend.record]
    exact hcheck.uncut hu
  · exact (hend.results.claims he).trans (hcheck.claims fun h => he (hend.results.noEntry h))
  · rw [hend.record, record_of_channels (TakesResults.handResults _).channels]
    show Scanner.record (State.scanner (if c.confirms b confirm = true then _ else _)) n = _
    rw [show c.confirms b confirm = false from hc]
    exact hrec

/-- Settles O24, case by case. -/
theorem visitTakesReading : Obligations.VisitTakesReading := by
  intro s n c d reading v b hh hp hr hv hb hd
  have hread : d = c.read reading b v.confirm := hd
  clear hd
  subst hread hb hv
  refine ⟨fun hcut hc => visit_unconfirmed hh hp hr hcut hc, fun hcut hc hb hi ha hd hst => ?_,
    fun hn hcut hc hb hst ht hi hv he hquiet ha => ?_, fun ends visits hcut hv => ?_⟩
  · obtain ⟨t, a, hexec, hend, hroom, hband⟩ := visit_band hp hr hcut hc hb hi ha hd hst
    refine ⟨t, hexec, (hend.record n).trans (hband.record.trans ?_),
      fun m hm => (hend.record m).trans ((hband.others m hm).trans (record_withReading_other reading hm)),
      (hend.sup.trans hband.sup).trans ?_, (hend.entries hroom).trans hband.entries, hend.relay.trans hband.relay, hend.perf.trans hband.perf,
      hend.settings.trans hband.settings⟩
    · cases hbb : bandOf (s.settings.channel n) reading with
      | alarm => exact absurd hbb hb
      | openBand | normal | prealarm | short => rfl
    · refine (supReported_congr (s := s) (t := s.withReading n reading) n _ _ rfl rfl).trans ?_
      cases bandOf (s.settings.channel n) reading with
      | openBand | short => rfl
      | normal | prealarm | alarm =>
        show supWithoutWiring n c.loopFault s = _
        unfold supWithoutWiring
        cases c.loopFault with
        | none => rfl
        | some w => cases w <;> rfl
  · rw [hb] at hc ⊢
    obtain ⟨t, hexec, hrec, hrest⟩ := visit_verifies hn.1 hp hr hcut hc hb hst ht hi hv he hquiet ha
    exact ⟨t, hexec, hrec, hrest⟩
  · obtain ⟨t, hexec, hcheck, hrec⟩ := visit_lastCheck (reading := reading) hh hp hr hcut hv
    have hcounted : ∀ b : Band, countedClaims n (c.confirms b (s.settings.channel n).confirm && b == .alarm) s.scanner.claims =
        (s.scanner.claims.map (fun k => if n ∈ k.channels then { k with
          outstanding := removeNum n k.outstanding
          inAlarm := if c.confirms b (s.settings.channel n).confirm = true ∧ b = .alarm then insertNum n k.inAlarm else removeNum n k.inAlarm }
          else k)).filter (fun k => !k.outstanding.isEmpty) := by
      intro b
      refine congrArg (List.filter _) (List.map_congr_left fun k _ => (count_eq n _ k).trans ?_)
      simp only [Bool.and_eq_true, beq_iff_eq]
    obtain ⟨hset, huncut, hclaims, hunmarked⟩ := hcheck
    rw [hcounted] at hclaims hunmarked
    exact ⟨t, hexec, huncut, hrec, ⟨hclaims, hunmarked⟩, hset⟩

end Sys2Proof.Machine


/-! The Settings Store's own steps (R191, R193): a CONFIG or a STORE SECTION refused, a STORE SECTION taken, and the end of the write. -/

namespace Sys2Proof.Machine

/-! ## The judgements -/

/-- R191: a CONFIG that its judgement refuses is answered with the reason. -/
theorem execConfig_refused {s : State} {tag : Tag} {n : Option SectionName} {fs : List ConfigField} {r : Reason} (h : s.awake)
    (ho : s.owns .stage tag .config = true) (hg : gateConfig n fs s = some r) :
    execConfig .stage tag n fs s = .next (transmit (reply .stage tag (.refused r) s)) := by
  rw [execConfig, request_replied h ho]
  rw [hg]; rfl

/-- R193: a STORE SECTION that its judgement refuses is answered with the reason. -/
theorem execStoreSection_refused {s : State} {tag : Tag} {n : Option SectionName} {r : Reason} (h : s.awake)
    (ho : s.owns .stage tag .storeSection = true) (hg : gateStore n s = some r) :
    execStoreSection .stage tag n s = .next (transmit (reply .stage tag (.refused r) s)) := by
  rw [execStoreSection, request_replied h ho]
  rw [hg]; rfl

/-- R193: a STORE SECTION taken begins the store. -/
theorem execStoreSection_taken {s : State} {tag : Tag} {n : SectionName} (h : s.awake) (ho : s.owns .stage tag .storeSection = true)
    (hg : gateStore (some n) s = none) :
    execStoreSection .stage tag (some n) s = .next (transmit (accept .stage tag (beginStore n s))) := by
  have hs : settle (accept .stage tag (beginStore n s)) = transmit (accept .stage tag (beginStore n s)) := settle_frames s _ h.2 rfl rfl rfl rfl rfl
  rw [execStoreSection, request_owned _ h.1 ho, hg, ← hs]; rfl

/-! ## A fault cleared -/

/-- R146: no entry of a pair of source and kind is ACTIVE any longer, and the other entries are held as before. -/
structure ClearsPair (q : FaultSource × FaultKind) (u v : Supervision) : Prop where
  ended : ∀ e ∈ v.entries, e.pair = q → e.state ≠ .active
  others : ∀ e : FaultEntry, e.pair ≠ q → (e ∈ v.entries ↔ e ∈ u.entries)

theorem ClearsPair.remove (src : FaultSource) (k : FaultKind) (u : Supervision) : ClearsPair (src, k) u (u.remove src k).judge where
  ended e he hp := by
    have := (List.mem_filter.1 he).2
    rw [(isOf_pair e src k).2 hp] at this
    exact absurd this (by decide)
  others e hp := by
    have hno : e.isOf src k = false := Bool.eq_false_iff.2 fun h => hp ((isOf_pair e src k).1 h)
    simp [Supervision.remove, Supervision.judge, hno]

theorem ClearsPair.change {src : FaultSource} {k : FaultKind} {x : FaultEntry} (hx : x.pair = (src, k)) (hc : x.state ≠ .active) (u : Supervision) :
    ClearsPair (src, k) u (u.change src k fun _ => x).judge where
  ended e he hp := by
    obtain ⟨y, -, rfl⟩ := List.mem_map.1 he
    by_cases hy : y.isOf src k = true
    · rwa [if_pos hy]
    · rw [if_neg hy] at hp
      exact absurd ((isOf_pair y src k).2 hp) hy
  others e hp := by
    constructor
    · intro he
      obtain ⟨y, hy, rfl⟩ := List.mem_map.1 he
      by_cases hof : y.isOf src k = true
      · rw [if_pos hof] at hp; exact absurd hx hp
      · rwa [if_neg hof]
    · intro he
      exact List.mem_map.2 ⟨e, he, if_neg fun h => hp ((isOf_pair e src k).1 h)⟩

/-- R146: what a clear does to a list with at most one entry for a pair. -/
theorem clearFault_clearsPair (src : FaultSource) (k : FaultKind) {s : State} (h : s.sup.sound) :
    ClearsPair (src, k) s.sup (clearFault src k s).sup := by
  obtain ⟨-, -, -, hnodup⟩ := h
  unfold clearFault
  cases hf : s.sup.find src k with
  | none =>
    refine ⟨fun e he hp => ?_, fun _ _ => Iff.rfl⟩
    exact absurd ((isOf_pair e src k).2 hp) (List.find?_eq_none.1 hf e he)
  | some x =>
    have hx : x.pair = (src, k) := find_pair hf
    dsimp only
    split
    · rename_i hc
      refine ⟨fun e he hp => ?_, fun _ _ => Iff.rfl⟩
      have : e = x := List.inj_on_of_nodup_map hnodup he (List.mem_of_find?_eq_some hf) (hp.trans hx.symm)
      rw [this, hc]; decide
    · split
      · unfold faultNotice; rw [notify_sup]; exact .remove src k s.sup
      · unfold faultNotice; rw [notify_sup]
        exact .change (x := { x with state := .cleared }) hx nofun s.sup

theorem Spares.clearFault {s0 s : State} (src : FaultSource) (k : FaultKind) (h : Spares s0 s) : Spares s0 (Machine.clearFault src k s) := by
  unfold Machine.clearFault
  split
  · exact h
  · split
    · exact h
    · dsimp only; split <;> exact (h.setSup _).faultNotice _ _ _ _

theorem clearFault_sound (src : FaultSource) (k : FaultKind) {s : State} (h : s.sup.sound) : (clearFault src k s).sup.sound :=
  ((Keeps.refl s).clearFault src k).holds.sup h

/-! ## The end of the write -/

/-- R193: the Settings Store at the end of the write: the snapshot stands in its section's place, and no operation is left. -/
def Store.written (op : StoreOperation) (v : Settings) (u : Store) : Store where
  rows := u.rows.map (fun r => if r.name = op.name then { r with
    cell := .checked op.snapshot, stored := .valid, changed := r.changed && !(v.value op.name == op.snapshot) } else r)
  operation := none

/-- R193: the store written, with its notice still to come. -/
def State.storeWritten (op : StoreOperation) (s : State) : State := { s with store := s.store.written op s.settings }

/-- R193: the end of the write is the store, the notice and the two clears. -/
theorem endStore_eq (op : StoreOperation) (s : State) : endStore op s = clearFault (.store op.name) .storeAborted
    (clearFault (.store op.name) .sectionLost (notify .store (.storeDone op.name s.uptime) (s.storeWritten op))) := rfl

theorem endStore_spares (op : StoreOperation) (s : State) :
    Spares (notify .store (.storeDone op.name s.uptime) (s.storeWritten op)) (endStore op s) :=
  ((Spares.refl _).clearFault _ _).clearFault _ _

theorem notify_spares (f : Family) (n : Notice) (s : State) : Spares s (notify f n s) := (Spares.refl s).notify f n

theorem endStore_perf (op : StoreOperation) (s : State) : (endStore op s).perf = s.perf := by
  rw [endStore_eq]
  obtain ⟨q, hq⟩ := notify_eq (s.storeWritten op) .store (.storeDone op.name s.uptime)
  obtain ⟨u, r, hr⟩ := clearFault_eq (.store op.name) .sectionLost (notify .store (.storeDone op.name s.uptime) (s.storeWritten op))
  obtain ⟨v, l, hl⟩ := clearFault_eq (.store op.name) .storeAborted (clearFault (.store op.name) .sectionLost (notify .store (.storeDone op.name s.uptime) (s.storeWritten op)))
  rw [hl, hr, hq]; rfl

/-- R193: the notice "done" joins the queue of a port that takes it. -/
theorem endStore_queue {op : StoreOperation} {s : State} {p : Port} (h : s.Takes p .store) :
    (s.port p).queue ++ [.notice (s.port p).dropped (.storeDone op.name s.uptime)] <+: ((endStore op s).port p).queue := by
  have hn := notify_queue (.storeDone op.name s.uptime) (h.congr (t := s.storeWritten op) rfl rfl)
  exact hn ▸ (endStore_spares op s).queues p

/-- R193: "section lost" and "store aborted" of the section are ACTIVE no longer, and no other entry changes. -/
theorem endStore_clears (op : StoreOperation) {s : State} (h : s.sup.sound) : ∃ u : Supervision,
    ClearsPair (.store op.name, .sectionLost) s.sup u ∧ ClearsPair (.store op.name, .storeAborted) u (endStore op s).sup := by
  have hs : (notify .store (.storeDone op.name s.uptime) (s.storeWritten op)).sup = s.sup := notify_sup _ _ _
  have hsound : (notify .store (.storeDone op.name s.uptime) (s.storeWritten op)).sup.sound := hs.symm ▸ h
  exact ⟨_, hs ▸ clearFault_clearsPair _ _ hsound, clearFault_clearsPair _ _ (clearFault_sound _ _ hsound)⟩

theorem execStoreWriteEnd_running {s : State} {op : StoreOperation} (h : s.resetHeld = false) (ho : s.store.operation = some op) :
    execStoreWriteEnd s = .next (settle (endStore op s)) := by
  rw [execStoreWriteEnd, command_next _ h, ho]

end Sys2Proof.Machine


/-! A changed CHANNELS section applied by the Scanner (R41). -/

namespace Sys2Proof.Machine

/-! ## What stands while no alarm entry is held -/

/-- The settings stand; and while the alarm list is empty it stays empty, and the store and the performance record stand too. -/
structure Unalarmed (s t : State) : Prop where
  settings : t.settings = s.settings
  quiet : s.alarm.entries = [] → t.alarm.entries = [] ∧ t.store = s.store ∧ t.perf = s.perf

theorem Unalarmed.refl (s : State) : Unalarmed s s := ⟨rfl, fun h => ⟨h, rfl, rfl⟩⟩

theorem Unalarmed.trans {a b c : State} (h : Unalarmed a b) (k : Unalarmed b c) : Unalarmed a c :=
  ⟨k.settings.trans h.settings, fun e =>
    have ⟨he, hstore, hperf⟩ := h.quiet e
    have ⟨he', hstore', hperf'⟩ := k.quiet he
    ⟨he', hstore'.trans hstore, hperf'.trans hperf⟩⟩

theorem Unalarmed.of_scans {s t : State} (h : Scans s t) : Unalarmed s t := by
  obtain ⟨c, u, q, rfl⟩ := h
  exact ⟨rfl, fun e => ⟨e, rfl, rfl⟩⟩

theorem Unalarmed.foldl {α : Type} {g : State → α → State} (hg : ∀ (s : State) (a : α), Unalarmed s (g s a)) (l : List α) :
    ∀ s : State, Unalarmed s (l.foldl g s) := by
  induction l with
  | nil => exact .refl
  | cons a l ih => exact fun s => (hg s a).trans (ih _)

/-- R69: a successful alarm reset cuts an order and stands the release timer down. -/
theorem resetSucceeds_store_perf (s : State) : (resetSucceeds s).store = s.store ∧ (resetSucceeds s).perf = s.perf := by
  obtain ⟨c, q, e⟩ := resetSucceeds_afterEmpty s
  have h := cutHeldEvac_leaves (emptyAlarms s)
  rw [e]
  exact ⟨h.store, h.perf⟩

theorem Unalarmed.takeResult (p : ResetPurpose) (l : List Nat) (s : State) : Unalarmed s (Machine.takeResult p l s) := by
  refine ⟨(TakesResults.takeResult p l s).settings, fun he => ⟨(TakesResults.takeResult p l s).noEntry he, ?_⟩⟩
  cases p with
  | standDown z =>
    show (takeStandDown z l s).store = _ ∧ (takeStandDown z l s).perf = _
    rw [takeStandDown_noEntry z l he]; exact ⟨rfl, rfl⟩
  | alarmReset =>
    show (takeReset l s).store = _ ∧ (takeReset l s).perf = _
    unfold takeReset
    split
    · exact ⟨rfl, rfl⟩
    split
    · exact resetSucceeds_store_perf s
    · obtain ⟨q, e⟩ := notifyAlways_eq (.alarmResetFailed l _) s
      rw [resetFails, e]; exact ⟨rfl, rfl⟩

theorem Unalarmed.handResults (s : State) : Unalarmed s (Machine.handResults s) := by
  refine (Unalarmed.of_scans ((Scans.refl s).mapScanner Scanner.dropComplete)).trans ?_
  unfold Machine.handResults handReports
  split
  · rw [Scanner.results, List.foldl_map]
    exact .foldl (fun u (k : ResetClaim) => Unalarmed.takeResult k.purpose k.inAlarm u) _ _
  · exact .of_scans ((Scans.refl _).mapScanner _)

/-! ## One channel -/

/-- R41 step 1: the supply switched on, and the results of the claims that the channel completes. -/
def uncutChannel (n : Nat) (s : State) : State := handResults (countCheck n false (mapChannel n ChannelRecord.uncut s))

/-- R41 steps 2 and 3: the faults cleared, and the fresh run. -/
def restartChannel (n : Nat) (s : State) : State :=
  mapChannel n (ChannelRecord.reconfigured (s.settings.channel n).type) (clearWiring n (mapChannel n (fun c => { c with alarmReported := false }) s))

theorem reconfigured_num (type : ChannelType) (c : ChannelRecord) : (c.reconfigured type).num = c.num := by
  unfold ChannelRecord.reconfigured; split <;> rfl

/-- R41: a reconfigured channel is its two parts, with at most a notice. -/
theorem reconfigureChannel_eq {s : State} {n : Nat} {c : ChannelRecord} (h : s.scanner.record n = some c) :
    ∃ q, reconfigureChannel s n = { restartChannel n (uncutChannel n s) with ports := q } := by
  have hsettings : (uncutChannel n s).settings = s.settings := (Unalarmed.handResults _).settings
  unfold reconfigureChannel
  rw [h]
  dsimp only
  rw [show s.settings.channel n = (uncutChannel n s).settings.channel n by rw [hsettings]]
  split
  · exact ⟨_, rfl⟩
  · exact changeNotice_eq _ _ _ _ _

theorem uncutChannel_unalarmed (n : Nat) (s : State) : Unalarmed s (uncutChannel n s) :=
  (Unalarmed.of_scans (((Scans.refl s).mapChannel n _).mapScanner _)).trans (.handResults _)

theorem Unalarmed.reconfigureChannel (s : State) (n : Nat) : Unalarmed s (Machine.reconfigureChannel s n) := by
  cases h : s.scanner.record n with
  | none =>
    have : Machine.reconfigureChannel s n = s := by rw [Machine.reconfigureChannel, h]
    rw [this]; exact .refl s
  | some c =>
    obtain ⟨q, e⟩ := reconfigureChannel_eq h
    rw [e]
    refine (uncutChannel_unalarmed n s).trans (.of_scans ?_)
    exact Scans.trans ((((Scans.refl _).mapChannel n _).clearWiring n).mapChannel n _) ⟨_, _, _, rfl⟩

/-- The results of claims leave the channel records. -/
theorem uncutChannel_record (n m : Nat) (s : State) : (uncutChannel n s).scanner.record m = (mapChannel n ChannelRecord.uncut s).scanner.record m :=
  record_of_channels (TakesResults.handResults (countCheck n false (mapChannel n ChannelRecord.uncut s))).channels m

/-- R41: a channel's record after a change of its settings. -/
def ChannelRecord.retyped (type : ChannelType) (c : ChannelRecord) : ChannelRecord :=
  { c with
    candidate := none, run := 0, cut := none, supply := true, alarmReported := false, loopFault := none
    state := if type = .notUsed then .notUsed else .normal
    firstPending := decide (type ≠ .notUsed) }

theorem reconfigureChannel_record {s : State} {n : Nat} {c : ChannelRecord} (h : s.scanner.record n = some c) :
    (reconfigureChannel s n).scanner.record n = some (c.retyped (s.settings.channel n).type) := by
  obtain ⟨q, e⟩ := reconfigureChannel_eq h
  have h1 : (uncutChannel n s).scanner.record n = some c.uncut :=
    (uncutChannel_record n n s).trans (record_mapChannel (f := ChannelRecord.uncut) (fun _ => rfl) h)
  have h2 := clearWiring_record (record_mapChannel (f := fun c => { c with alarmReported := false }) (fun _ => rfl) h1)
  rw [e]
  show (restartChannel n (uncutChannel n s)).scanner.record n = _
  rw [restartChannel, record_mapChannel (reconfigured_num _) h2, (uncutChannel_unalarmed n s).settings]
  unfold ChannelRecord.retyped ChannelRecord.reconfigured
  by_cases ht : (s.settings.channel n).type = .notUsed
  · rw [if_pos ht, if_pos ht, decide_eq_false (not_not.2 ht)]; rfl
  · rw [if_neg ht, if_neg ht, decide_eq_true ht]; rfl

theorem reconfigureChannel_record_other {n m : Nat} (hm : m ≠ n) (s : State) :
    (reconfigureChannel s n).scanner.record m = s.scanner.record m := by
  cases h : s.scanner.record n with
  | none => rw [reconfigureChannel, h]
  | some c =>
    obtain ⟨q, e⟩ := reconfigureChannel_eq h
    rw [e]
    show (restartChannel n (uncutChannel n s)).scanner.record m = _
    rw [restartChannel, record_mapChannel_other (reconfigured_num _) hm, clearWiring_record_other hm,
      record_mapChannel_other (f := fun c => { c with alarmReported := false }) (fun _ => rfl) hm, uncutChannel_record,
      record_mapChannel_other (f := ChannelRecord.uncut) (fun _ => rfl) hm]

/-! ## The changed channels -/

theorem foldl_reconfigure_record_other {m : Nat} (l : List Nat) : ∀ s : State, m ∉ l →
    (l.foldl reconfigureChannel s).scanner.record m = s.scanner.record m := by
  induction l with
  | nil => exact fun _ _ => rfl
  | cons n l ih =>
    intro s hm
    obtain ⟨hn, hl⟩ := List.ne_and_not_mem_of_not_mem_cons hm
    rw [List.foldl_cons, ih _ hl, reconfigureChannel_record_other hn]

/-- R41: each channel of a list is reconfigured once, and no other channel's record is touched. -/
theorem foldl_reconfigure_record {m : Nat} {c : ChannelRecord} (l : List Nat) : ∀ s : State, l.Nodup → s.scanner.record m = some c →
    (l.foldl reconfigureChannel s).scanner.record m = some (if m ∈ l then c.retyped (s.settings.channel m).type else c) := by
  induction l with
  | nil => exact fun _ _ h => h
  | cons n l ih =>
    intro s hl h
    obtain ⟨hn, hl⟩ := List.nodup_cons.1 hl
    rw [List.foldl_cons]
    by_cases e : m = n
    · subst e
      rw [foldl_reconfigure_record_other l _ hn, reconfigureChannel_record h, if_pos List.mem_cons_self]
    · rw [ih _ hl ((reconfigureChannel_record_other e s).trans h), (Unalarmed.reconfigureChannel s n).settings]
      simp only [List.mem_cons, e, false_or]

theorem changedChannels_nodup (a b : Settings) : (changedChannels a b).Nodup := by
  have h : channelNumbers.Nodup := by decide
  exact h.filter _

/-- R41: the channels left alone are those that differ in their own isolated field at most. -/
theorem mem_changedChannels {a b : Settings} {m : Nat} (h1 : 1 ≤ m) (h16 : m ≤ 16) :
    m ∈ changedChannels a b ↔ ¬ { a.channel m with isolated := (b.channel m).isolated } = b.channel m := by
  have hm : m ∈ channelNumbers := List.mem_map.2 ⟨m - 1, by simp; omega, by omega⟩
  rw [changedChannels, List.mem_filter, bne_iff_ne, and_iff_right hm, not_iff_not]
  cases a.channel m; cases b.channel m
  simp

end Sys2Proof.Machine


/-! What the marking, the request and the flash of lamp units leave (R114, R115, R106, R161): the loop but for its lanes, the presence and the outputs of the units, and the darkness of a unit out of service. -/

namespace Sys2Proof.Machine

/-! ## Records found by a key -/

/-- A record that a change keeps under its key is found where the one it was made from was. -/
theorem find_changed {α : Type} (key : α → Nat) {f : α → α} {n : Nat} (hf : ∀ x, key x = n → key (f x) = n) (m : Nat) (l : List α) :
    (l.map fun x => if key x == n then f x else x).find? (fun x => key x == m) =
      (l.find? fun x => key x == m).map (fun x => if m = n then f x else x) := by
  induction l with
  | nil => rfl
  | cons x l ih =>
    rw [List.map_cons, List.find?_cons, List.find?_cons, ih]
    by_cases hn : key x = n
    · by_cases hm : m = n
      · simp [hn, hm, hf x hn]
      · simp [hn, hf x hn, beq_eq_false_iff_ne.2 (Ne.symm hm)]
    · by_cases hm : key x = m
      · simp [hm, show m ≠ n from fun e => hn (hm.trans e)]
      · simp [beq_eq_false_iff_ne.2 hm, hn]

theorem row_change {f : UnitRow → UnitRow} (hf : ∀ r, (f r).address = r.address) (u : Loop) (a b : Nat) :
    (u.change a f).row b = (u.row b).map (fun r => if b = a then f r else r) :=
  find_changed UnitRow.address (fun r h => (hf r).trans h) b u.rows

theorem unit_changeUnit {f : LightUnit → LightUnit} (hf : ∀ x, (f x).address = x.address) (u : Light) (a b : Nat) :
    (u.changeUnit a f).unit b = (u.unit b).map (fun x => if b = a then f x else x) :=
  find_changed LightUnit.address (fun x h => (hf x).trans h) b u.units

theorem lamp_putLamp (u : Light) (l : Lamp) (m : Nat) : (u.putLamp l).lamp m = (u.lamp m).map (fun x => if m = l.num then l else x) :=
  find_changed (f := fun _ => l) Lamp.num (fun _ _ => rfl) m u.lamps

/-! ## The lanes -/

/-- The Loop Master but for its two lanes and the room that they report. -/
def Loop.core (u : Loop) : Loop := { u with urgent := [], ordinary := [], roomOwed := false }

theorem row_of_core {u v : Loop} (h : v.core = u.core) (a : Nat) : v.row a = u.row a := by
  show v.core.row a = u.core.row a
  rw [h]

theorem holdsSet_eq_false (u : Loop) (a : Nat) :
    u.holdsSet a = false ↔ (∀ i ∈ u.urgent, i.isSet a = false) ∧ ∀ i ∈ u.ordinary, i.isSet a = false := by
  simp [Loop.holdsSet]

theorem isSet_raiseTo (a : Nat) (c : TrafficClass) (i : LaneItem) : (i.raiseTo c).isSet a = i.isSet a := by
  unfold LaneItem.raiseTo
  cases h : i.work <;> simp [LaneItem.isSet, h]

/-- What a lane operation leaves: the rest of the Loop Master, and a unit with no SET held. -/
structure Lanes (p : Nat → Prop) (u v : Loop) : Prop where
  core : v.core = u.core
  unset : ∀ a, p a → u.holdsSet a = false → v.holdsSet a = false

theorem Lanes.refl (p : Nat → Prop) (u : Loop) : Lanes p u u := ⟨rfl, fun _ _ => id⟩

theorem Lanes.trans {p : Nat → Prop} {u v w : Loop} (h : Lanes p u v) (k : Lanes p v w) : Lanes p u w :=
  ⟨k.core.trans h.core, fun a ha hu => k.unset a ha (h.unset a ha hu)⟩

/-- Lanes of which every item's unit was held already. -/
theorem Lanes.of_items {p : Nat → Prop} {u v : Loop} (hc : v.core = u.core)
    (hi : ∀ i, i ∈ v.urgent ∨ i ∈ v.ordinary → (∃ j, (j ∈ u.urgent ∨ j ∈ u.ordinary) ∧ ∀ a, i.isSet a = j.isSet a) ∨ ∀ a, p a → i.isSet a = false) :
    Lanes p u v := by
  refine ⟨hc, fun a ha hu => ?_⟩
  obtain ⟨h1, h2⟩ := (holdsSet_eq_false u a).1 hu
  have key : ∀ i, i ∈ v.urgent ∨ i ∈ v.ordinary → i.isSet a = false := fun i hm => by
    obtain ⟨j, hj, e⟩ | h := hi i hm
    · exact (e a).trans (hj.elim (h1 j) (h2 j))
    · exact h a ha
  exact (holdsSet_eq_false v a).2 ⟨fun i h => key i (.inl h), fun i h => key i (.inr h)⟩

theorem Lanes.dropItems (p : Nat → Prop) (q : LaneItem → Bool) (u : Loop) : Lanes p u (u.dropItems q) :=
  .of_items rfl fun i hi => .inl ⟨i, hi.imp (fun h => (List.mem_filter.1 h).1) (fun h => (List.mem_filter.1 h).1), fun _ => rfl⟩

theorem Lanes.placeItem {p : Nat → Prop} (lane : Lane) {w : Work} (hw : ∀ a, p a → LaneItem.isSet a ⟨w, false⟩ = false) (u : Loop) :
    Lanes p u (u.placeItem lane w).1 := by
  unfold Loop.placeItem
  cases lane with
  | urgent =>
    refine .of_items rfl fun i hi => ?_
    obtain h | h := hi
    · obtain h | h := List.mem_append.1 h
      · exact .inl ⟨i, .inl h, fun _ => rfl⟩
      · rw [List.mem_singleton.1 h]; exact .inr hw
    · exact .inl ⟨i, .inr h, fun _ => rfl⟩
  | ordinary =>
    dsimp only; split
    · exact .refl p u
    refine .of_items rfl fun i hi => ?_
    obtain h | h := hi
    · exact .inl ⟨i, .inl h, fun _ => rfl⟩
    · obtain h | h := List.mem_append.1 h
      · exact .inl ⟨i, .inr h, fun _ => rfl⟩
      · rw [List.mem_singleton.1 h]; exact .inr hw

/-- An item of a lane in which the SET of a unit is raised. -/
theorem mem_raised {b : Nat} {c : TrafficClass} {i : LaneItem} {l : List LaneItem} (h : i ∈ l.map fun j => if j.isSet b then j.raiseTo c else j) :
    ∃ j ∈ l, ∀ a, i.isSet a = j.isSet a := by
  obtain ⟨j, hj, rfl⟩ := List.mem_map.1 h
  refine ⟨j, hj, fun a => ?_⟩
  split
  · exact isSet_raiseTo a c j
  · rfl

theorem Lanes.raiseSet (p : Nat → Prop) (v : LoopSection) (b : Nat) (c : TrafficClass) (u : Loop) : Lanes p u (u.raiseSet v b c) := by
  unfold Loop.raiseSet
  split
  · rename_i j hj
    split
    · split
      · refine .of_items rfl fun i hi => .inl ?_
        obtain h | h := hi
        · obtain h | h := List.mem_append.1 h
          · exact ⟨i, .inl h, fun _ => rfl⟩
          · exact ⟨j, .inr (List.mem_of_find?_eq_some hj), fun a => by rw [List.mem_singleton.1 h]; exact isSet_raiseTo a c j⟩
        · exact ⟨i, .inr (List.mem_filter.1 h).1, fun _ => rfl⟩
      · refine .of_items rfl fun i hi => .inl ?_
        obtain h | h := hi
        · exact ⟨i, .inl h, fun _ => rfl⟩
        · obtain ⟨k, hk, e⟩ := mem_raised h
          exact ⟨k, .inr hk, e⟩
    · exact .refl p u
  · refine .of_items rfl fun i hi => .inl ?_
    obtain h | h := hi
    · obtain ⟨k, hk, e⟩ := mem_raised h
      exact ⟨k, .inl hk, e⟩
    · exact ⟨i, .inr h, fun _ => rfl⟩

theorem Lanes.requestSet (v : LoopSection) (b : Nat) (c : TrafficClass) (u : Loop) : Lanes (· ≠ b) u (u.requestSet v b c).1 := by
  unfold Loop.requestSet
  split
  · exact .raiseSet _ v b c u
  · exact .placeItem _ (fun a ha => by simpa [LaneItem.isSet] using ha) u

theorem Lanes.placeCall (p : Nat → Prop) (v : LoopSection) (b : CallBroadcast) (u : Loop) : Lanes p u (u.placeCall v b).1 :=
  .placeItem _ (fun _ _ => rfl) u

theorem Lanes.removeCall (p : Nat → Prop) (n : Nat) (u : Loop) : Lanes p u (u.removeCall n) := .dropItems p _ u

/-- R162: a serial joined to a CANCEL leaves every item the SET that it was. -/
theorem mem_joinCancel {n : Nat} : ∀ {l m : List LaneItem} {i : LaneItem}, joinCancel n l = some m → i ∈ m →
    ∃ j ∈ l, ∀ a, i.isSet a = j.isSet a
  | [], _, _, h, _ => by simp [joinCancel] at h
  | x :: l, m, i, h, hi => by
    have tail : ∀ {k : List LaneItem}, (joinCancel n l).map (x :: ·) = some k → i ∈ k → ∃ j ∈ x :: l, ∀ a, i.isSet a = j.isSet a := by
      intro k hk hik
      obtain ⟨t, ht, rfl⟩ := Option.map_eq_some_iff.1 hk
      obtain h | h := List.mem_cons.1 hik
      · exact ⟨x, List.mem_cons_self, fun _ => by rw [h]⟩
      · obtain ⟨j, hj, e⟩ := mem_joinCancel ht h
        exact ⟨j, List.mem_cons_of_mem _ hj, e⟩
    unfold joinCancel at h
    split at h
    · rename_i ns hw _
      split at h
      · rw [← Option.some.inj h] at hi
        exact ⟨i, hi, fun _ => rfl⟩
      split at h
      · rw [← Option.some.inj h] at hi
        obtain h | h := List.mem_cons.1 hi
        · exact ⟨x, List.mem_cons_self, fun a => by rw [h]; simp [LaneItem.isSet, hw]⟩
        · exact ⟨i, List.mem_cons_of_mem _ h, fun _ => rfl⟩
      · exact tail h hi
    · exact tail h hi

theorem Lanes.placeCancel (p : Nat → Prop) (n : Nat) (u : Loop) : Lanes p u (u.placeCancel n) := by
  refine (Lanes.removeCall p n u).trans ?_
  unfold Loop.placeCancel; dsimp only
  split
  · rename_i l hl
    refine .of_items rfl fun i hi => .inl ?_
    obtain h | h := hi
    · obtain ⟨j, hj, e⟩ := mem_joinCancel hl h
      exact ⟨j, .inl hj, e⟩
    · exact ⟨i, .inr h, fun _ => rfl⟩
  · exact .placeItem .urgent (fun _ _ => rfl) _

theorem removeSet_unset (a : Nat) (u : Loop) : (u.removeSet a).holdsSet a = false := by
  rw [holdsSet_eq_false]
  constructor <;> intro i hi <;> simpa using (List.mem_filter.1 hi).2

end Sys2Proof.Machine


/-! What the refresh of lamp units leaves of the Light Engine's part of the state (R114 to R116), and what a flash does (R106). -/

namespace Sys2Proof.Machine

/-! ## Requests and marks -/

/-- A unit record but for its refresh: its address, whether it is present, and its outputs. -/
def LightUnit.place (x : LightUnit) : Nat × Bool × Nat := (x.address, x.present, x.outputs)

/-- A unit that has a record is due for refresh, or queued for it. -/
def Field.Unclean (f : Field) (a : Nat) : Prop := ∀ x, f.light.unit a = some x → x.refresh ≠ .clean

/-- The refresh of lamp units touches of the Loop Master the lanes alone, and of a unit's record the refresh alone, which it makes CLEAN
nowhere. -/
structure Refreshes (f g : Field) : Prop where
  settings : g.settings = f.settings
  core : g.loop.core = f.loop.core
  places : g.light.units.map LightUnit.place = f.light.units.map LightUnit.place
  unclean : ∀ a, f.Unclean a → g.Unclean a

theorem Refreshes.refl (f : Field) : Refreshes f f := ⟨rfl, rfl, rfl, fun _ => id⟩

theorem Refreshes.trans {f g k : Field} (h : Refreshes f g) (h' : Refreshes g k) : Refreshes f k :=
  ⟨h'.settings.trans h.settings, h'.core.trans h.core, h'.places.trans h.places, fun a ha => h'.unclean a (h.unclean a ha)⟩

theorem Refreshes.foldl {α : Type} {g : Field → α → Field} (hg : ∀ (f : Field) (a : α), Refreshes f (g f a)) (l : List α) :
    ∀ f : Field, Refreshes f (l.foldl g f) := by
  induction l with
  | nil => exact .refl
  | cons a l ih => exact fun f => (hg f a).trans (ih _)

/-- The units stand, and of the Loop Master the lanes alone change. -/
theorem Refreshes.of_units {f g : Field} (hs : g.settings = f.settings) (hc : g.loop.core = f.loop.core) (hu : g.light.units = f.light.units) :
    Refreshes f g := by
  refine ⟨hs, hc, by rw [hu], fun a ha x hx => ha x ?_⟩
  rwa [Light.unit, hu] at hx

theorem unclean_changeUnit {u : LightUnit → LightUnit} (hu : ∀ x, (u x).address = x.address) (hr : ∀ x, (u x).refresh ≠ .clean) (f : Field) (a b : Nat) :
    (a = b ∨ f.Unclean b) → ({ f with light := f.light.changeUnit a u } : Field).Unclean b := by
  intro h x hx
  have hx : (f.light.changeUnit a u).unit b = some x := hx
  rw [unit_changeUnit hu] at hx
  obtain ⟨y, hy, rfl⟩ := Option.map_eq_some_iff.1 hx
  split
  · exact hr y
  · rename_i hne
    exact h.elim (fun e => absurd e.symm hne) fun h => h y hy

theorem Refreshes.changeUnit {u : LightUnit → LightUnit} (hu : ∀ x, (u x).place = x.place) (hr : ∀ x, (u x).refresh ≠ .clean) (f : Field) (a : Nat) :
    Refreshes f { f with light := f.light.changeUnit a u } := by
  refine ⟨rfl, rfl, ?_, fun b h => unclean_changeUnit (fun x => congrArg Prod.fst (hu x)) hr f a b (.inr h)⟩
  show (f.light.units.map _).map _ = _
  rw [List.map_map]
  refine List.map_congr_left fun x _ => ?_
  simp only [Function.comp]; split
  · exact hu x
  · rfl

theorem Refreshes.request (a : Nat) (c : TrafficClass) (f : Field) : Refreshes f (f.request a c) := by
  have hc := (Lanes.requestSet f.settings.loop a c f.loop).core
  unfold Field.request; dsimp only
  split
  · have ht : Refreshes f ⟨f.settings, { f.light with waiting := removeNum a f.light.waiting }, (f.loop.requestSet f.settings.loop a c).1⟩ :=
      .of_units rfl hc rfl
    exact ht.trans (.changeUnit (u := fun x => { x with refresh := .queued c none }) (fun _ => rfl) nofun _ a)
  · exact .of_units rfl hc rfl

/-- The marks of a unit that is not yet to be refreshed at a class. -/
theorem Refreshes.dirty (a : Nat) (c d : TrafficClass) (f : Field) :
    Refreshes f (Field.request a c { f with light := f.light.changeUnit a (fun y => { y with refresh := .dirty d }) }) :=
  (Refreshes.changeUnit (u := fun y => { y with refresh := .dirty d }) (fun _ => rfl) nofun f a).trans (.request a c _)

theorem Refreshes.markUnit (a : Nat) (c : TrafficClass) (f : Field) : Refreshes f (f.markUnit a c) := by
  unfold Field.markUnit
  split
  · exact .refl f
  split
  · exact .dirty a c c f
  · split
    · exact .dirty a c c f
    · exact .refl f
  · rename_i d ch _
    have hq : ∀ e, Refreshes f { f with light := f.light.changeUnit a (fun y => { y with refresh := .queued (d.max c) e }) } := fun e =>
      .changeUnit (u := fun y => { y with refresh := .queued (d.max c) e }) (fun _ => rfl) nofun f a
    dsimp only
    split
    · exact (hq _).trans (.of_units rfl (Lanes.raiseSet (fun _ => True) _ a c _).core rfl)
    · exact hq _

theorem Refreshes.judgeLamp (n : Nat) (f : Field) : Refreshes f (f.judgeLamp n) := by
  unfold Field.judgeLamp
  split
  · exact .refl f
  split
  · exact .markUnit _ _ f
  · exact .refl f

theorem Refreshes.putLamp (l : Lamp) (f : Field) : Refreshes f { f with light := f.light.putLamp l } := .of_units rfl rfl rfl

theorem Refreshes.putJudged (l : Lamp) (f : Field) : Refreshes f (f.putJudged l) := (Refreshes.putLamp l f).trans (.judgeLamp _ _)

theorem Refreshes.changeLamp (n : Nat) (g : Lamp → Lamp) (f : Field) : Refreshes f (f.changeLamp n g) := by
  unfold Field.changeLamp
  split
  · exact .refl f
  · dsimp only; split
    · exact (Refreshes.putLamp _ f).trans (.judgeLamp n _)
    · exact .putLamp _ f

theorem Refreshes.placeFlash (ns : List Nat) (f : Field) : Refreshes f (f.placeFlash ns) :=
  Refreshes.foldl (fun f n => .changeLamp n _ f) ns f

theorem Refreshes.rehandList (l : List Nat) : ∀ f : Field, Refreshes f (Field.rehandList l f) := by
  induction l with
  | nil => exact .refl
  | cons a l ih =>
    intro f
    unfold Field.rehandList
    split
    · dsimp only; split
      · exact .request a _ f
      · exact (Refreshes.request a _ f).trans (ih _)
    · exact ih f

/-! ## A mark made -/

theorem request_unclean (a : Nat) (c : TrafficClass) {f : Field} (h : f.Unclean a) : (f.request a c).Unclean a := (Refreshes.request a c f).unclean a h

/-- R114: a unit marked is due for refresh, or queued for it. -/
theorem markUnit_unclean (a : Nat) (c : TrafficClass) (f : Field) : (f.markUnit a c).Unclean a := by
  have hdirty : ∀ d, ({ f with light := f.light.changeUnit a (fun y => { y with refresh := .dirty d }) } : Field).Unclean a := fun d =>
    unclean_changeUnit (u := fun y => { y with refresh := .dirty d }) (fun _ => rfl) nofun f a a (.inl rfl)
  cases h : f.light.unit a with
  | none =>
    have hno : f.Unclean a := fun x hx => by rw [h] at hx; cases hx
    exact (Refreshes.markUnit a c f).unclean a hno
  | some x =>
    cases hr : x.refresh with
    | clean =>
      have : f.markUnit a c = Field.request a c { f with light := f.light.changeUnit a (fun y => { y with refresh := .dirty c }) } := by
        simp only [Field.markUnit, h, hr]
      rw [this]; exact request_unclean a c (hdirty c)
    | dirty d | queued d ch =>
      refine (Refreshes.markUnit a c f).unclean a fun y hy => ?_
      rw [h] at hy
      rw [← Option.some.inj hy, hr]; nofun

/-! ## The darkness of a unit out of service -/

/-- A unit out of service: no lane holds its SET, it waits for no room, and its lamp channels are not placed and have no sent level. -/
structure Field.Dark (f : Field) (a : Nat) : Prop where
  unset : f.loop.holdsSet a = false
  waiting : a ∉ f.light.waiting
  lamps : ∀ l ∈ f.light.lamps, (f.settings.lamp l.num).unit = a → l.placed = false ∧ l.sent = none

/-- A dark unit stays dark while others are refreshed. -/
theorem Field.Dark.request {f : Field} {a b : Nat} (h : f.Dark a) (hab : a ≠ b) (c : TrafficClass) : (f.request b c).Dark a := by
  have hl := (Lanes.requestSet f.settings.loop b c f.loop).unset a hab h.unset
  refine ⟨?_, ?_, ?_⟩
  · unfold Field.request; dsimp only; split <;> exact hl
  · unfold Field.request; dsimp only; split
    · exact fun hm => h.waiting (List.mem_filter.1 hm).1
    · intro hm
      have hm : a ∈ (if f.light.waiting.contains b then f.light.waiting else f.light.waiting ++ [b]) := hm
      split at hm
      · exact h.waiting hm
      · exact (List.mem_append.1 hm).elim h.waiting fun e => hab (List.mem_singleton.1 e)
  · rw [request_lamps, request_settings]; exact h.lamps

/-- A change of a unit's record alone. -/
theorem Field.Dark.changeUnit {f : Field} {a : Nat} (h : f.Dark a) (b : Nat) (u : LightUnit → LightUnit) :
    ({ f with light := f.light.changeUnit b u } : Field).Dark a := ⟨h.unset, h.waiting, h.lamps⟩

theorem Field.Dark.markUnit {f : Field} {a b : Nat} (h : f.Dark a) (hab : a ≠ b) (c : TrafficClass) : (f.markUnit b c).Dark a := by
  unfold Field.markUnit
  split
  · exact h
  split
  · exact (h.changeUnit b _).request hab c
  · split
    · exact (h.changeUnit b _).request hab c
    · exact h
  · dsimp only; split
    · exact ⟨(Lanes.raiseSet (fun _ => True) f.settings.loop b c f.loop).unset a trivial h.unset, h.waiting, h.lamps⟩
    · exact h.changeUnit b _

theorem Field.Dark.judgeLamp {f : Field} {a : Nat} (h : f.Dark a) (n : Nat) : (f.judgeLamp n).Dark a := by
  unfold Field.judgeLamp
  split
  · exact h
  rename_i l hl
  split
  · rename_i hp
    refine h.markUnit (fun e => ?_) _
    have hn : l.num = n := by simpa using List.find?_some hl
    have := (h.lamps l (List.mem_of_find?_eq_some hl) (by rw [hn, e])).1
    rw [this] at hp
    exact absurd hp.1 (by decide)
  · exact h

/-- A change of a channel that moves neither its place nor its sent level. -/
theorem Field.Dark.changeLamp {f : Field} {a : Nat} (h : f.Dark a) (n : Nat) {g : Lamp → Lamp}
    (hg : ∀ l, (g l).placed = l.placed ∧ (g l).sent = l.sent) : (f.changeLamp n g).Dark a := by
  unfold Field.changeLamp
  split
  · exact h
  rename_i l hl
  have hput : ({ f with light := f.light.putLamp { g l with num := l.num } } : Field).Dark a := by
    refine ⟨h.unset, h.waiting, fun x hx hu => ?_⟩
    obtain ⟨y, hy, rfl⟩ := List.mem_map.1 hx
    by_cases e : (y.num == l.num) = true
    · rw [if_pos e] at hu ⊢
      obtain ⟨hplaced, hsent⟩ := h.lamps l (List.mem_of_find?_eq_some hl) hu
      exact ⟨(hg l).1.trans hplaced, (hg l).2.trans hsent⟩
    · rw [if_neg e] at hu ⊢
      exact h.lamps y hy hu
  dsimp only; split
  · exact hput.judgeLamp n
  · exact hput

theorem retarget_placed_sent (rest release : Nat) (lit : Bool) (l : Lamp) :
    (l.retarget rest release lit).placed = l.placed ∧ (l.retarget rest release lit).sent = l.sent := by
  unfold Lamp.retarget
  split
  · exact ⟨rfl, rfl⟩
  split
  · exact ⟨rfl, rfl⟩
  · unfold Lamp.startFade; split <;> exact ⟨rfl, rfl⟩

theorem Field.Dark.placeFlash {a : Nat} (ns : List Nat) {f : Field} (h : f.Dark a) : (f.placeFlash ns).Dark a := by
  unfold Field.placeFlash Field.claim Field.changeLamps
  generalize hr : (fun (f' : Field) (n : Nat) => f'.changeLamp n fun l => Lamp.retarget (f.settings.lamp n).rest 0 f.light.lit { l with curtain := true }) = g
  have step : ∀ (k : Field) (n : Nat), k.Dark a → (g k n).Dark a := by
    intro k n hk
    rw [← hr]
    exact hk.changeLamp n fun l => retarget_placed_sent _ _ _ { l with curtain := true }
  clear hr
  induction ns generalizing f with
  | nil => exact h
  | cons n ns ih => exact ih (step f n h)

theorem Field.Dark.rehandList {a : Nat} (l : List Nat) : ∀ {f : Field}, f.Dark a → a ∉ l → (Field.rehandList l f).Dark a := by
  induction l with
  | nil => exact fun h _ => h
  | cons b l ih =>
    intro f h hl
    obtain ⟨hab, hl⟩ := List.ne_and_not_mem_of_not_mem_cons hl
    unfold Field.rehandList
    split
    · dsimp only; split
      · exact h.request hab _
      · exact ih (h.request hab _) hl
    · exact ih h hl

/-- R115: the waiting units' requests handed again leave a dark unit dark. -/
theorem Field.Dark.rehand {f : Field} {a : Nat} (h : f.Dark a) : f.rehand.Dark a := h.rehandList _ h.waiting

end Sys2Proof.Machine


/-! What the call line and the report of room leave (R131 to R138, R163): of the loop all but the lanes, the reachable table, the presence of lamp units, and the lamp channels themselves while no display announcement is waited for (R96). -/

namespace Sys2Proof.Machine

/-! ## The relation -/

/-- The Light Engine's part of a state, with the settings. -/
def State.field (s : State) : Field := ⟨s.settings, s.light, s.loop⟩

/-- What the work of the call line leaves. -/
structure LineWork (s t : State) : Prop where
  leaves : Leaves s t
  refreshes : Refreshes s.field t.field
  dark : ∀ a, s.field.Dark a → t.field.Dark a
  reachable : t.calls.reachable = s.calls.reachable
  lamps : s.calm → t.light.lamps = s.light.lamps

theorem LineWork.refl (s : State) : LineWork s s := ⟨.refl s, .refl _, fun _ => id, rfl, fun _ => rfl⟩

/-- The call line's work never begins a wait for an announcement. -/
theorem Leaves.keeps_calm {s t : State} (h : Leaves s t) (hc : s.calm) : t.calm := by
  unfold State.calm
  rw [(h.calm hc).1]; exact hc

theorem LineWork.trans {a b c : State} (h : LineWork a b) (k : LineWork b c) : LineWork a c :=
  ⟨h.leaves.trans k.leaves, h.refreshes.trans k.refreshes, fun n hn => k.dark n (h.dark n hn), k.reachable.trans h.reachable,
    fun hc => (k.lamps (h.leaves.keeps_calm hc)).trans (h.lamps hc)⟩

section
variable {s0 s t : State}

/-- Work that touches neither the lamps nor the lanes. -/
theorem LineWork.of_field (hl : Leaves s t) (hf : t.field = s.field) (hr : t.calls.reachable = s.calls.reachable) : LineWork s t :=
  ⟨hl, hf ▸ .refl _, fun _ h => hf ▸ h, hr, fun _ => congrArg (fun f : Field => f.light.lamps) hf⟩

theorem LineWork.notify (f : Family) (n : Notice) (h : LineWork s0 s) : LineWork s0 (Machine.notify f n s) := by
  have hl := (Leaves.refl s).notify f n
  obtain ⟨q, e⟩ := notify_eq s f n
  rw [e] at hl ⊢
  exact h.trans (.of_field hl rfl rfl)

theorem LineWork.mapCalls (f : Calls → Calls) (h : LineWork s0 s) (hf : ∀ u, (f u).reachable = u.reachable := by intro _; rfl) :
    LineWork s0 (Machine.mapCalls f s) :=
  h.trans (.of_field ((Leaves.refl s).mapCalls f) rfl (hf _))

theorem LineWork.withLoop (u : Loop) (hu : Lanes (fun _ => True) s.loop u) (h : LineWork s0 s) : LineWork s0 { s with loop := u } :=
  h.trans ⟨(Leaves.refl s).mapLoop fun _ => u, .of_units rfl hu.core rfl, fun a d => ⟨hu.unset a trivial d.unset, d.waiting, d.lamps⟩, rfl,
    fun _ => rfl⟩

theorem LineWork.mapLoop (f : Loop → Loop) (hf : Lanes (fun _ => True) s.loop (f s.loop)) (h : LineWork s0 s) : LineWork s0 (Machine.mapLoop f s) :=
  h.withLoop _ hf

theorem LineWork.transmit (h : LineWork s0 s) : LineWork s0 (Machine.transmit s) := h.trans (.of_field (Leaves.refl s).transmit rfl rfl)

theorem LineWork.settlePath (h : LineWork s0 s) : LineWork s0 { s with scanner := s.scanner.settlePath s.settings } :=
  h.trans (.of_field (Leaves.refl s).settlePath rfl rfl)

/-! ## The display lowering -/

theorem onField_field {f : Field → Field} (h : (f s.field).settings = s.settings) : (onField f s).field = f s.field := by
  rw [show f s.field = ⟨(f s.field).settings, (f s.field).light, (f s.field).loop⟩ from rfl, h]; rfl

theorem curtainNotice_field (n : Notice) (s : State) : (curtainNotice n s).field = s.field := by
  obtain ⟨q, e⟩ := notify_eq s .curtain n
  rw [curtainNotice, e]; rfl

theorem abandonFields_field (r : AbandonReason) (s : State) : (abandonFields r s).field = s.field := by
  unfold abandonFields; split
  · rfl
  · exact curtainNotice_field _ _

/-- A part of a state that is as it was, or as a flash placed on some channels leaves it (R106). -/
def FlashedAtMost (f g : Field) : Prop := g = f ∨ ∃ ns, g = f.placeFlash ns

/-- R94: a curtain that begins to lower has its warning flash placed, and none removed. -/
theorem judgeWarning_lowering (previous : CurtainState) (s : State) : FlashedAtMost s.field (judgeWarning .lowering previous s).field := by
  unfold judgeWarning
  split
  · exact .inr ⟨warningLamps s.settings, onField_field (s := mapCurtain _ s) (Refreshes.placeFlash (warningLamps s.settings) s.field).settings⟩
  split
  · rename_i h; exact absurd rfl h.1
  · exact .inl rfl

/-- R73, R96: outside SHOW a lowering that begins changes the lamps and the lanes by its warning flash alone. -/
theorem shiftCurtain_lowering (hp : s.perf.phase ≠ .inShow) : FlashedAtMost s.field (shiftCurtain .lowering s).field := by
  have hstay : ∀ u : State, u.perf.phase ≠ .inShow → (if s.curtain.state = .up then curtainDeparture u else u) = u := fun u hu => by
    rw [curtainDeparture, if_neg hu, ite_self]
  unfold shiftCurtain; dsimp only
  rw [hstay (mapCurtain _ s) hp]
  exact judgeWarning_lowering _ _

theorem judgeDisplayLowering_field (s : State) : FlashedAtMost s.field (judgeDisplayLowering s).field := by
  unfold judgeDisplayLowering
  split
  · exact .inl (abandonFields_field _ s)
  split
  · exact .inl (abandonFields_field _ s)
  split
  · exact .inl (abandonFields_field _ s)
  rename_i hp
  split
  · exact .inl (abandonFields_field _ s)
  unfold enterCurtain; dsimp only
  split
  · exact .inl rfl
  · rw [curtainNotice_field]
    exact shiftCurtain_lowering (s := mapCurtain _ s) hp

theorem LineWork.judgeDisplayLowering (hd : s.curtain.display = some .announcing) : LineWork s (Machine.judgeDisplayLowering s) := by
  have hl := (Leaves.refl s).judgeDisplayLowering hd rfl
  have hcalls : (Machine.judgeDisplayLowering s).calls.reachable = s.calls.reachable := by rw [calls_judgeDisplayLowering]
  obtain e | ⟨ns, e⟩ := judgeDisplayLowering_field s
  · exact .of_field hl e hcalls
  · exact ⟨hl, e ▸ .placeFlash ns _, fun a h => e ▸ h.placeFlash ns, hcalls, fun hc => absurd hd hc⟩

theorem LineWork.handOutcome (g : CallOrigin) (tag : Nat) (out : CallOutcome) (h : LineWork s0 s) : LineWork s0 (Machine.handOutcome g tag out s) := by
  refine h.trans ?_
  have hl := (Leaves.refl s).handOutcome g tag out
  cases g with
  | stage | front | sequencer => exact .refl s
  | alarm => exact .of_field hl rfl rfl
  | curtain =>
    show LineWork s (announcementOutcome tag out s)
    unfold announcementOutcome
    split
    · have hm : LineWork s (mapCurtain (fun c => { c with announcement := none }) s) :=
        .of_field ⟨rfl, rfl, rfl, rfl, rfl, rfl, rfl, rfl, rfl, rfl, rfl, rfl, rfl, rfl, rfl, fun _ => rfl, fun _ => ⟨rfl, rfl⟩,
          fun _ => ⟨rfl, rfl⟩, rfl, rfl, fun _ _ => id, fun _ => rfl⟩ rfl rfl
      dsimp only; split
      · rename_i hx; exact hm.trans (.judgeDisplayLowering hx.1)
      · exact hm
    · exact .refl s

/-! ## The call line -/

theorem LineWork.outcomeNotice (out : CallOutcome) (o : Order) (h : LineWork s0 s) : LineWork s0 (Machine.outcomeNotice out o s) := by
  have place : ∀ (p : Port) (f : Family) (n : Notice), LineWork s (placeOn p f n s) := fun p f n => by
    have hl := (Leaves.refl s).placeOn p f n
    obtain ⟨q, e⟩ := placeOn_eq s p f n
    rw [e] at hl ⊢
    exact .of_field hl rfl rfl
  unfold Machine.outcomeNotice callNotice
  split
  · exact h.trans (place _ _ _)
  · exact h.trans (place _ _ _)
  all_goals exact h.notify _ _

theorem LineWork.endOrder (out : CallOutcome) (o : Order) (h : LineWork s0 s) : LineWork s0 (Machine.endOrder out o s) := by
  unfold Machine.endOrder; dsimp only
  refine ((LineWork.mapCalls _ ?_).handOutcome _ _ _).outcomeNotice _ _
  split
  · exact (h.mapLoop _ (.placeCancel _ _ _)).mapCalls _
  · exact h

theorem LineWork.arbitrateFuel (k : Nat) : ∀ {s0 s : State}, LineWork s0 s → LineWork s0 (Machine.arbitrateFuel k s) := by
  induction k with
  | zero => exact id
  | succ k ih =>
    intro s0 s h
    unfold Machine.arbitrateFuel; dsimp only
    split
    · exact h
    split
    · exact h
    split
    · exact ih (h.endOrder _ _)
    split
    · exact ((h.withLoop _ (.placeCall _ _ _ _)).mapCalls _).notify _ _
    · exact h

theorem LineWork.arbitrate (h : LineWork s0 s) : LineWork s0 (Machine.arbitrate s) := h.arbitrateFuel _

theorem LineWork.endRepetition (o : Order) (h : LineWork s0 s) : LineWork s0 (Machine.endRepetition o s) := by
  unfold Machine.endRepetition
  split
  · exact h
  rename_i n _
  have h1 := (h.mapLoop (Loop.removeCall n) (.removeCall _ n _)).mapCalls
    (fun u => { u.change o.id (fun _ => { o with done := satSucc 255 o.done, state := .due o.since }) with repetition := none })
  dsimp only
  split_ifs
  · exact (h1.endOrder _ _).arbitrate
  · exact (h1.endOrder _ _).arbitrate
  · exact h1.arbitrate

theorem LineWork.judgeRepetition (h : LineWork s0 s) : LineWork s0 (Machine.judgeRepetition s) := by
  unfold Machine.judgeRepetition
  split
  · split
    · exact h.endRepetition _
    · exact h
  · exact h

/-- R123, R133: a call unit leaves the reachable table, and the call line works on. -/
theorem callUnitGone_lineWork (a : Nat) (s : State) :
    LineWork (mapCalls (fun u => { u with reachable := u.reachable.filter (·.address != a) }) s) (callUnitGone a s) := by
  unfold callUnitGone; dsimp only
  split
  · split
    · exact ((LineWork.refl _).mapCalls _).judgeRepetition
    · exact .refl _
  · exact .refl _

/-! ## The report of room -/

theorem LineWork.rehand (h : LineWork s0 s) : LineWork s0 (onField Field.rehand s) := by
  have hr := Refreshes.rehandList s.light.waiting s.field
  have hfield : (onField Field.rehand s).field = s.field.rehand := onField_field hr.settings
  exact h.trans ⟨(Leaves.refl s).rehand, hfield ▸ hr, fun a d => hfield ▸ d.rehand, rfl, fun _ => rehandList_lamps _ s.field⟩

theorem LineWork.serveRoom (k : Nat) : ∀ {s0 s : State}, LineWork s0 s → LineWork s0 (Machine.serveRoom k s) := by
  induction k with
  | zero => exact fun h => h.mapLoop _ ⟨rfl, fun _ _ => id⟩
  | succ k ih =>
    intro s0 s h
    unfold Machine.serveRoom
    split
    · exact ih (h.mapLoop _ ⟨rfl, fun _ _ => id⟩).rehand.arbitrate
    · exact h

/-- An event ends with work of the call line, then the loop's next work, then the sending of frames. -/
theorem settle_lineWork (s : State) : ∃ u, LineWork s u ∧ settle s = transmit (takeWork u) :=
  ⟨_, ((LineWork.refl s).serveRoom 8).settlePath, rfl⟩

end

end Sys2Proof.Machine


/-! What the loop's next work leaves (R164 to R166, R116, R177): the unit table, the presence of lamp units, and the darkness of a unit out of service. -/

namespace Sys2Proof.Machine

/-- What the free loop leaves when it takes its next work: a reprobe waits on, or is on the loop. -/
structure StartsWork (s t : State) : Prop where
  rows : t.loop.rows = s.loop.rows
  reprobes : ∀ a ∈ s.loop.reprobes, t.loop.transaction = some (.probe a .reprobe) ∨ a ∈ t.loop.reprobes
  places : t.light.units.map LightUnit.place = s.light.units.map LightUnit.place
  unclean : ∀ a, s.field.Unclean a → t.field.Unclean a
  dark : ∀ a, s.field.Dark a → t.field.Dark a

theorem StartsWork.refl (s : State) : StartsWork s s := ⟨rfl, fun _ => .inr, rfl, fun _ => id, fun _ => id⟩

/-- A change of the loop alone that keeps its rows, its lanes and the waiting reprobes. -/
theorem StartsWork.of_loop {s : State} {u : Loop} (hr : u.rows = s.loop.rows)
    (hp : ∀ a ∈ s.loop.reprobes, u.transaction = some (.probe a .reprobe) ∨ a ∈ u.reprobes)
    (hl : ∀ a, s.loop.holdsSet a = false → u.holdsSet a = false) : StartsWork s { s with loop := u } :=
  ⟨hr, hp, rfl, fun _ => id, fun a d => ⟨hl a d.unset, d.waiting, d.lamps⟩⟩

theorem mem_markFirst {p : LaneItem → Bool} {i : LaneItem} : ∀ {l : List LaneItem}, i ∈ markFirst p l → ∃ j ∈ l, ∀ a, i.isSet a = j.isSet a
  | x :: l, h => by
    unfold markFirst at h
    split at h
    · obtain h | h := List.mem_cons.1 h
      · exact ⟨x, List.mem_cons_self, fun _ => by rw [h]; rfl⟩
      · exact ⟨i, List.mem_cons_of_mem _ h, fun _ => rfl⟩
    · obtain h | h := List.mem_cons.1 h
      · exact ⟨x, List.mem_cons_self, fun _ => by rw [h]⟩
      · obtain ⟨j, hj, e⟩ := mem_markFirst h
        exact ⟨j, List.mem_cons_of_mem _ hj, e⟩

/-- The lanes with the item begun marked in its lane. -/
def Loop.markItem (lane : Lane) (i : LaneItem) (u : Loop) : Loop :=
  match lane with
  | .urgent => { u with urgent := markFirst (· == i) u.urgent }
  | .ordinary => { u with ordinary := markFirst (· == i) u.ordinary }

theorem Lanes.markItem (p : Nat → Prop) (lane : Lane) (i : LaneItem) (u : Loop) : Lanes p u (u.markItem lane i) := by
  unfold Loop.markItem
  cases lane with
  | urgent =>
    refine .of_items rfl fun x hx => .inl ?_
    obtain h | h := hx
    · obtain ⟨j, hj, e⟩ := mem_markFirst h
      exact ⟨j, .inl hj, e⟩
    · exact ⟨x, .inr h, fun _ => rfl⟩
  | ordinary =>
    refine .of_items rfl fun x hx => .inl ?_
    obtain h | h := hx
    · exact ⟨x, .inl h, fun _ => rfl⟩
    · obtain ⟨j, hj, e⟩ := mem_markFirst h
      exact ⟨j, .inr hj, e⟩

/-- An item begun. -/
theorem StartsWork.markItem (lane : Lane) (i : LaneItem) (t : Transaction) (window now : Nat) (s : State) :
    StartsWork s { s with loop := (s.loop.markItem lane i).begin t window now } := by
  have h := Lanes.markItem (fun _ => True) lane i s.loop
  have hrows : (s.loop.markItem lane i).core.rows = s.loop.core.rows := by rw [h.core]
  have hre : (s.loop.markItem lane i).core.reprobes = s.loop.core.reprobes := by rw [h.core]
  exact .of_loop hrows (fun a ha => .inr (hre ▸ ha)) fun a => h.unset a trivial

/-- R116: a unit's record at the issue of its SET. -/
def LightUnit.atIssue (x : LightUnit) : LightUnit :=
  match x.refresh with
  | .queued c _ => { x with refresh := .queued c none }
  | _ => x

theorem atIssue_place (x : LightUnit) : x.atIssue.place = x.place := by unfold LightUnit.atIssue; split <;> rfl

theorem atIssue_unclean {x : LightUnit} (h : x.refresh ≠ .clean) : x.atIssue.refresh ≠ .clean := by
  unfold LightUnit.atIssue; split
  · exact nofun
  · exact h

/-- R116: the issue of a SET changes the sent levels of placed channels, and a QUEUED unit's refresh alone. -/
theorem StartsWork.issue (a : Nat) (s : State) : StartsWork s { s with light := (s.field.issue a).light } := by
  refine ⟨rfl, fun _ => .inr, ?_, fun b hb x hx => ?_, fun b d => ⟨d.unset, d.waiting, fun l hl hu => ?_⟩⟩
  · show (s.light.units.map fun r => if r.address == a then r.atIssue else r).map LightUnit.place = _
    rw [List.map_map]
    refine List.map_congr_left fun x _ => ?_
    simp only [Function.comp]; split
    · exact atIssue_place x
    · rfl
  · have hx : (s.light.changeUnit a LightUnit.atIssue).unit b = some x := hx
    rw [unit_changeUnit fun y => congrArg Prod.fst (atIssue_place y)] at hx
    obtain ⟨y, hy, rfl⟩ := Option.map_eq_some_iff.1 hx
    split
    · exact atIssue_unclean (hb y hy)
    · exact hb y hy
  · obtain ⟨y, hy, rfl⟩ := List.mem_map.1 hl
    have hnum : ∀ b : Bool, (if b then { y with sent := some y.current } else y).num = y.num := fun b => by cases b <;> rfl
    rw [hnum] at hu
    obtain ⟨hp, hsent⟩ := d.lamps y hy hu
    simp [hp, hsent]

theorem StartsWork.trans {a b c : State} (h : StartsWork a b) (hr : b.loop.reprobes = a.loop.reprobes) (k : StartsWork b c) : StartsWork a c :=
  ⟨k.rows.trans h.rows, fun n hn => k.reprobes n (hr ▸ hn), k.places.trans h.places, fun n hn => k.unclean n (h.unclean n hn),
    fun n hn => k.dark n (h.dark n hn)⟩

theorem StartsWork.startItem (lane : Lane) (i : LaneItem) (s : State) : StartsWork s (Machine.startItem lane i s) := by
  unfold Machine.startItem; dsimp only
  split
  · exact (StartsWork.issue _ s).trans rfl (.markItem lane i _ _ _ _)
  all_goals exact .markItem lane i _ _ _ s

/-- R164: a reprobe taken is the first that waits. -/
theorem nextProbe_reprobe {u : Loop} {a : Nat} (h : u.nextProbe = some (a, .reprobe)) : ∃ l, u.reprobes = a :: l := by
  unfold Loop.nextProbe at h
  split at h
  · simp at h
  · rename_i b l _ hl
    simp only [Option.some.injEq, Prod.mk.injEq, and_true] at h
    exact ⟨l, h ▸ hl⟩
  · simp at h
  · split at h <;> simp at h

theorem StartsWork.startProbe {s : State} {a : Nat} {k : ProbeKind} (window now : Nat) (h : s.loop.nextProbe = some (a, k)) :
    StartsWork s { s with loop := s.loop.startProbe a k window now } := by
  cases k with
  | survey => exact .of_loop rfl (fun _ => .inr) fun _ => id
  | sweep => exact .of_loop rfl (fun _ => .inr) fun _ => id
  | reprobe =>
    obtain ⟨l, hl⟩ := nextProbe_reprobe h
    refine .of_loop rfl (fun b hb => ?_) fun _ => id
    rw [hl] at hb
    obtain rfl | hb := List.mem_cons.1 hb
    · exact .inl rfl
    · refine .inr ?_
      show b ∈ s.loop.reprobes.drop 1
      rw [hl]; exact hb

theorem takeWork_startsWork (s : State) : StartsWork s (takeWork s) := by
  unfold takeWork
  split
  · exact .refl s
  split
  · exact .startItem _ _ s
  split
  · exact .of_loop rfl (fun _ => .inr) fun _ => id
  split
  · rename_i h; exact .startProbe _ _ h
  split
  · exact .startItem _ _ s
  · exact .refl s

end Sys2Proof.Machine


/-! A changed LOOP section applied by the Loop Master (R177), one address after another. -/

namespace Sys2Proof.Machine

/-! ## What the change of one row leaves -/

/-- What the Loop Master leaves when it works on the rows of some addresses: the settings, the store, the performance record and the other rows; the
reprobes that wait, wait on; no call unit becomes reachable and no dark unit lit. -/
structure RowWork (p : Nat → Prop) (s t : State) : Prop where
  settings : t.settings = s.settings
  store : t.store = s.store
  perf : t.perf = s.perf
  rows : ∀ b, ¬ p b → t.loop.row b = s.loop.row b
  reprobes : ∀ b ∈ s.loop.reprobes, b ∈ t.loop.reprobes
  reachable : ∀ y ∈ t.calls.reachable, y ∈ s.calls.reachable
  dark : ∀ b, s.field.Dark b → t.field.Dark b

theorem RowWork.refl (p : Nat → Prop) (s : State) : RowWork p s s := ⟨rfl, rfl, rfl, fun _ _ => rfl, fun _ => id, fun _ => id, fun _ => id⟩

theorem RowWork.trans {p : Nat → Prop} {s t u : State} (h : RowWork p s t) (k : RowWork p t u) : RowWork p s u :=
  ⟨k.settings.trans h.settings, k.store.trans h.store, k.perf.trans h.perf, fun b hb => (k.rows b hb).trans (h.rows b hb),
    fun b hb => k.reprobes b (h.reprobes b hb), fun y hy => h.reachable y (k.reachable y hy), fun b hb => k.dark b (h.dark b hb)⟩

theorem RowWork.mono {p q : Nat → Prop} {s t : State} (hpq : ∀ a, p a → q a) (h : RowWork p s t) : RowWork q s t :=
  { h with rows := fun b hb => h.rows b fun hp => hb (hpq b hp) }

theorem reprobes_of_core {u v : Loop} (h : v.core = u.core) : v.reprobes = u.reprobes := by
  show v.core.reprobes = u.core.reprobes
  rw [h]

theorem RowWork.of_lineWork (p : Nat → Prop) {s t : State} (h : LineWork s t) : RowWork p s t :=
  ⟨h.leaves.settings, h.leaves.store, h.leaves.perf, fun b _ => row_of_core h.refreshes.core b, fun _ hb => reprobes_of_core h.refreshes.core ▸ hb,
    fun _ hy => h.reachable ▸ hy, h.dark⟩

theorem row_mapRow {f : UnitRow → UnitRow} (hf : ∀ r, (f r).address = r.address) (a b : Nat) (s : State) :
    (mapRow a f s).loop.row b = (s.loop.row b).map (fun r => if b = a then f r else r) := row_change hf s.loop a b

theorem row_mapRow_self {f : UnitRow → UnitRow} (hf : ∀ r, (f r).address = r.address) (a : Nat) (s : State) :
    (mapRow a f s).loop.row a = (s.loop.row a).map f := by
  rw [row_mapRow hf]; simp

theorem row_mapRow_other {f : UnitRow → UnitRow} (hf : ∀ r, (f r).address = r.address) {a b : Nat} (hb : b ≠ a) (s : State) :
    (mapRow a f s).loop.row b = s.loop.row b := by
  rw [row_mapRow hf]; simp [hb]

theorem RowWork.mapRow {f : UnitRow → UnitRow} (hf : ∀ r, (f r).address = r.address) (a : Nat) (s : State) : RowWork (· = a) s (Machine.mapRow a f s) :=
  ⟨rfl, rfl, rfl, fun _ hb => row_mapRow_other hf hb s, fun _ => id, fun _ => id, fun _ d => ⟨d.unset, d.waiting, d.lamps⟩⟩

/-! ## The faults that a row holds -/

/-- A row with a fault of one kind held no more. -/
def UnitRow.dropFault (k : FaultKind) (r : UnitRow) : UnitRow := { r with faultsHeld := removeKind k r.faultsHeld }

theorem dropFault_of_not_held {k : FaultKind} {r : UnitRow} (h : r.faultsHeld.contains k = false) : r.dropFault k = r := by
  have : removeKind k r.faultsHeld = r.faultsHeld := by
    refine List.filter_eq_self.2 fun x hx => bne_iff_ne.2 fun e => ?_
    rw [← e, List.contains_iff_mem.2 hx] at h
    exact absurd h (by decide)
  rw [UnitRow.dropFault, this]

/-- A fault cleared for a unit changes its row, and beyond that Supervision and the Port Units alone. -/
theorem clearUnitFault_eq (a : Nat) (k : FaultKind) (s : State) :
    ∃ u q, clearUnitFault a k s = s ∨ clearUnitFault a k s = { mapRow a (UnitRow.dropFault k) s with sup := u, ports := q } := by
  unfold clearUnitFault
  split
  · obtain ⟨u, q, e⟩ := clearFault_eq (.unit a) k (mapRow a (UnitRow.dropFault k) s)
    exact ⟨u, q, .inr e⟩
  · exact ⟨s.sup, s.ports, .inl rfl⟩

theorem RowWork.clearUnitFault (a : Nat) (k : FaultKind) (s : State) : RowWork (· = a) s (Machine.clearUnitFault a k s) := by
  obtain ⟨u, q, e | e⟩ := clearUnitFault_eq a k s
  · rw [e]; exact .refl _ s
  · have h := RowWork.mapRow (f := UnitRow.dropFault k) (fun _ => rfl) a s
    rw [e]
    exact ⟨h.settings, h.store, h.perf, h.rows, h.reprobes, h.reachable, h.dark⟩

theorem clearUnitFault_row {a : Nat} {r : UnitRow} (k : FaultKind) {s : State} (h : s.loop.row a = some r) :
    (clearUnitFault a k s).loop.row a = some (r.dropFault k) := by
  unfold clearUnitFault
  split
  · obtain ⟨u, q, e⟩ := clearFault_eq (.unit a) k (mapRow a (UnitRow.dropFault k) s)
    show (clearFault (.unit a) k (mapRow a (UnitRow.dropFault k) s)).loop.row a = _
    rw [e]
    show (mapRow a (UnitRow.dropFault k) s).loop.row a = _
    rw [row_mapRow_self (f := UnitRow.dropFault k) (fun _ => rfl), h]; rfl
  · rename_i hn
    rw [holdsUnitFault, h] at hn
    rw [h, dropFault_of_not_held (by simpa using hn)]

theorem RowWork.foldl_clear (a : Nat) (l : List FaultKind) : ∀ s : State, RowWork (· = a) s (l.foldl (fun s k => Machine.clearUnitFault a k s) s) := by
  induction l with
  | nil => exact .refl _
  | cons k l ih => exact fun s => (RowWork.clearUnitFault a k s).trans (ih _)

theorem foldl_clear_row {a : Nat} (l : List FaultKind) : ∀ {s : State} {r : UnitRow}, s.loop.row a = some r →
    (l.foldl (fun s k => clearUnitFault a k s) s).loop.row a = some { r with faultsHeld := r.faultsHeld.filter fun k => !l.contains k } := by
  induction l with
  | nil =>
    intro s r h
    rw [List.foldl_nil, h]
    simp
  | cons k l ih =>
    intro s r h
    rw [List.foldl_cons, ih (clearUnitFault_row k h)]
    simp only [UnitRow.dropFault, removeKind, List.filter_filter, List.contains_cons, Bool.not_or]
    congr 3
    funext x
    rw [Bool.and_comm]; rfl

theorem RowWork.clearRowFaults (a : Nat) (s : State) : RowWork (· = a) s (Machine.clearRowFaults a s) := by
  unfold Machine.clearRowFaults
  split
  · exact .refl _ s
  · exact .foldl_clear a _ s

/-- R177: a row is left with no fault held. -/
theorem clearRowFaults_row {a : Nat} {r : UnitRow} {s : State} (h : s.loop.row a = some r) :
    (clearRowFaults a s).loop.row a = some { r with faultsHeld := [] } := by
  rw [clearRowFaults, h, foldl_clear_row _ h]
  simp

/-! ## An absence -/

theorem absent_dark {f : Field} {a b : Nat} (h : f.Dark b) : (f.absent a).Dark b where
  unset := h.unset
  waiting hm := h.waiting (List.mem_filter.1 hm).1
  lamps l hl hu := by
    obtain ⟨x, hx, rfl⟩ := List.mem_map.1 hl
    split at hu
    · rename_i e; rw [if_pos e]; exact ⟨rfl, rfl⟩
    · rename_i e; rw [if_neg e]; exact h.lamps x hx hu

/-- R118: a lamp unit reported absent, with no SET held, is dark. -/
theorem absent_dark_self {f : Field} {a : Nat} (h : f.loop.holdsSet a = false) : (f.absent a).Dark a where
  unset := h
  waiting hm := by
    have := (List.mem_filter.1 hm).2
    simp at this
  lamps l hl hu := by
    obtain ⟨x, hx, rfl⟩ := List.mem_map.1 hl
    split at hu
    · rename_i e; rw [if_pos e]; exact ⟨rfl, rfl⟩
    · rename_i e; exact absurd (beq_iff_eq.2 hu) e

theorem RowWork.reportAbsence (a : Nat) (e : UnitKind) (s : State) : RowWork (· = a) s (Machine.reportAbsence a e s) := by
  cases e with
  | none => exact .refl _ s
  | lamp =>
    exact ⟨rfl, rfl, rfl, fun _ _ => rfl, fun _ => id, fun _ => id, fun b d => onField_field (s := s) (f := Field.absent a) rfl ▸ absent_dark d⟩
  | call =>
    have hgone : RowWork (· = a) s (mapCalls (fun u => { u with reachable := u.reachable.filter (·.address != a) }) s) :=
      ⟨rfl, rfl, rfl, fun _ _ => rfl, fun _ => id, fun _ hy => (List.mem_filter.1 hy).1, fun _ d => ⟨d.unset, d.waiting, d.lamps⟩⟩
    exact hgone.trans (.of_lineWork _ (callUnitGone_lineWork a s))

theorem reportAbsence_core (a : Nat) (e : UnitKind) (s : State) : (reportAbsence a e s).loop.core = s.loop.core := by
  cases e with
  | none | lamp => rfl
  | call => exact (callUnitGone_lineWork a s).refreshes.core

theorem lose_row (a b : Nat) (u : Loop) : (u.lose a).row b = (u.row b).map (fun r => if b = a then r.absent else r) :=
  row_change (f := UnitRow.absent) (fun _ => rfl) u a b

theorem RowWork.lose (a : Nat) (s : State) : RowWork (· = a) s (mapLoop (Loop.lose a) s) := by
  have hl := Lanes.dropItems (fun _ => True) (LaneItem.isSet a) (s.loop.change a UnitRow.absent)
  refine ⟨rfl, rfl, rfl, fun b hb => ?_, fun _ => id, fun _ => id, fun b d => ⟨hl.unset b trivial d.unset, d.waiting, d.lamps⟩⟩
  show (s.loop.lose a).row b = _
  rw [lose_row]; simp [hb]

theorem RowWork.goAbsent (a : Nat) (e : UnitKind) (n : Notice) (s : State) : RowWork (· = a) s (Machine.goAbsent a e none n s) :=
  ((RowWork.lose a s).trans (.reportAbsence a e _)).trans (.of_lineWork _ ((LineWork.refl _).notify _ _))

/-- R169: the row of a unit that becomes ABSENT. -/
theorem goAbsent_row {a : Nat} {r : UnitRow} {s : State} (e : UnitKind) (n : Notice) (h : s.loop.row a = some r) :
    (goAbsent a e none n s).loop.row a = some r.absent := by
  have hn := ((LineWork.refl (reportAbsence a e (mapLoop (Loop.lose a) s))).notify .loop n).refreshes.core
  have hcore : (goAbsent a e none n s).loop.core = (s.loop.lose a).core := hn.trans (reportAbsence_core a e _)
  rw [row_of_core hcore, lose_row, h]
  simp

/-- R169, R118: a lamp unit that becomes ABSENT is dark. -/
theorem goAbsent_dark (a : Nat) (n : Notice) (s : State) : (goAbsent a .lamp none n s).field.Dark a := by
  refine ((LineWork.refl _).notify _ _).dark a ?_
  show (onField (Field.absent a) (mapLoop (Loop.lose a) s)).field.Dark a
  rw [onField_field rfl]
  exact absent_dark_self (removeSet_unset a _)

/-- R169, R123: a call unit that becomes ABSENT is reachable no more. -/
theorem goAbsent_unreachable (a : Nat) (n : Notice) (s : State) : ∀ y ∈ (goAbsent a .call none n s).calls.reachable, y.address ≠ a := by
  have h := (callUnitGone_lineWork a (mapLoop (Loop.lose a) s)).trans ((LineWork.refl _).notify .loop n)
  intro y hy
  have hy : y ∈ (notify .loop n (callUnitGone a (mapLoop (Loop.lose a) s))).calls.reachable := hy
  rw [h.reachable] at hy
  simpa using (List.mem_filter.1 hy).2

/-! ## One address -/

theorem stillPresent_of_row {a : Nat} {r : UnitRow} {s : State} (h : s.loop.row a = some r) : stillPresent a s = r.present := by
  rw [stillPresent, h]; rfl

/-- R177: the unit at an address whose expected kind has changed goes out of service. -/
def leaveService (old : Settings) (a : Nat) (s : State) : State :=
  if stillPresent a s then goAbsent a (old.loopRow a).expected none (.unitAbsent a (old.loopRow a).expected s.uptime) s else s

/-- R177: a reprobe of an address waits, once. -/
def Loop.addReprobe (a : Nat) (u : Loop) : Loop := { u with reprobes := if u.reprobes.contains a then u.reprobes else u.reprobes ++ [a] }

theorem reexpect_eq (old : Settings) (s : State) (a : Nat) :
    reexpect old s a = mapLoop (Loop.addReprobe a) (clearRowFaults a (mapRow a (fun r => { r with room := .room }) (leaveService old a s))) := rfl

theorem mem_addReprobe {a b : Nat} {u : Loop} : b ∈ (u.addReprobe a).reprobes ↔ b ∈ u.reprobes ∨ b = a := by
  show b ∈ (if u.reprobes.contains a then u.reprobes else u.reprobes ++ [a]) ↔ _
  split
  · rename_i h
    exact ⟨.inl, fun hb => hb.elim id fun e => e ▸ List.contains_iff_mem.1 h⟩
  · simp

theorem RowWork.leaveService (old : Settings) (a : Nat) (s : State) : RowWork (· = a) s (Machine.leaveService old a s) := by
  unfold Machine.leaveService; split
  · exact .goAbsent a _ _ s
  · exact .refl _ s

theorem RowWork.afterLeaving (a : Nat) (s : State) :
    RowWork (· = a) s (mapLoop (Loop.addReprobe a) (Machine.clearRowFaults a (Machine.mapRow a (fun r => { r with room := .room }) s))) :=
  ((RowWork.mapRow (f := fun r => { r with room := .room }) (fun _ => rfl) a s).trans (.clearRowFaults a _)).trans
    ⟨rfl, rfl, rfl, fun _ _ => rfl, fun _ hb => mem_addReprobe.2 (.inl hb), fun _ => id, fun _ d => ⟨d.unset, d.waiting, d.lamps⟩⟩

theorem RowWork.reexpect (old : Settings) (s : State) (a : Nat) : RowWork (· = a) s (Machine.reexpect old s a) := by
  rw [reexpect_eq]; exact (RowWork.leaveService old a s).trans (.afterLeaving a _)

theorem leaveService_row {old : Settings} {a : Nat} {r : UnitRow} {s : State} (h : s.loop.row a = some r) :
    (leaveService old a s).loop.row a = some (if r.present then r.absent else r) := by
  unfold leaveService
  rw [stillPresent_of_row h]
  split
  · exact goAbsent_row _ _ h
  · exact h

/-- R177: the row of an address whose expected kind has changed. -/
def UnitRow.reexpected (r : UnitRow) : UnitRow := { (if r.present then r.absent else r) with room := .room, faultsHeld := [] }

theorem reexpect_row {old : Settings} {a : Nat} {r : UnitRow} {s : State} (h : s.loop.row a = some r) :
    (reexpect old s a).loop.row a = some r.reexpected := by
  have hroom := row_mapRow_self (f := fun r => { r with room := .room }) (fun _ => rfl) a (leaveService old a s)
  rw [leaveService_row h] at hroom
  rw [reexpect_eq]
  exact clearRowFaults_row hroom

theorem reexpect_reprobes (old : Settings) (s : State) (a : Nat) : a ∈ (reexpect old s a).loop.reprobes := mem_addReprobe.2 (.inr rfl)

theorem leaveService_present {old : Settings} {a : Nat} {r : UnitRow} {s : State} (h : s.loop.row a = some r) (hp : r.present = true) :
    leaveService old a s = goAbsent a (old.loopRow a).expected none (.unitAbsent a (old.loopRow a).expected s.uptime) s := by
  rw [leaveService, stillPresent_of_row h, if_pos hp]

/-- R177, R118: a lamp unit taken out of service by the change is dark. -/
theorem reexpect_dark {old : Settings} {a : Nat} {r : UnitRow} {s : State} (h : s.loop.row a = some r) (hp : r.present = true)
    (he : (old.loopRow a).expected = .lamp) : (reexpect old s a).field.Dark a := by
  refine (RowWork.afterLeaving a (leaveService old a s)).dark a ?_
  rw [leaveService_present h hp, he]
  exact goAbsent_dark a _ s

/-- R177, R123: a call unit taken out of service by the change is reachable no more. -/
theorem reexpect_unreachable {old : Settings} {a : Nat} {r : UnitRow} {s : State} (h : s.loop.row a = some r) (hp : r.present = true)
    (he : (old.loopRow a).expected = .call) : ∀ y ∈ (reexpect old s a).calls.reachable, y.address ≠ a := by
  intro y hy
  have hy := (RowWork.afterLeaving a (leaveService old a s)).reachable y hy
  rw [leaveService_present h hp, he] at hy
  exact goAbsent_unreachable a _ s y hy

end Sys2Proof.Machine


/-! The whole LOOP section applied (R177), and the end of its event. -/

namespace Sys2Proof.Machine

/-! ## One address applied -/

/-- R177: the row of an address after a change of its expected kind or its issue mode. -/
def UnitRow.applied (old new : LoopRowSettings) (r : UnitRow) : UnitRow :=
  if new.expected = old.expected then if new.mode = old.mode then r else r.dropFault .promiseBroken else r.reexpected

/-- R177: what an address is left with when its row of the section has been applied. -/
structure RowApplied (old new : LoopRowSettings) (a : Nat) (r : UnitRow) (t : State) : Prop where
  row : t.loop.row a = some (r.applied old new)
  reprobe : new.expected ≠ old.expected → a ∈ t.loop.reprobes
  dark : new.expected ≠ old.expected → r.present = true → old.expected = .lamp → t.field.Dark a
  unreachable : new.expected ≠ old.expected → r.present = true → old.expected = .call → ∀ y ∈ t.calls.reachable, y.address ≠ a

/-- Work on other rows leaves what has been applied. -/
theorem RowApplied.elsewhere {old new : LoopRowSettings} {a : Nat} {r : UnitRow} {s t : State} {p : Nat → Prop} (h : RowApplied old new a r s)
    (k : RowWork p s t) (hp : ¬ p a) : RowApplied old new a r t :=
  ⟨(k.rows a hp).trans h.row, fun he => k.reprobes a (h.reprobe he), fun he hr hl => k.dark a (h.dark he hr hl),
    fun he hr hc y hy => h.unreachable he hr hc y (k.reachable y hy)⟩

/-- R177: the fault that a change of the issue mode clears. -/
def clearPromise (old new : LoopRowSettings) (a : Nat) (s : State) : State := if old.mode ≠ new.mode then clearUnitFault a .promiseBroken s else s

theorem RowWork.clearPromise (old new : LoopRowSettings) (a : Nat) (s : State) : RowWork (· = a) s (Machine.clearPromise old new a s) := by
  unfold Machine.clearPromise; split
  · exact .clearUnitFault a _ s
  · exact .refl _ s

theorem applyLoopRow_same {old : Settings} {s : State} {a : Nat} (he : (old.loopRow a).expected = (s.settings.loopRow a).expected) :
    applyLoopRow old s a = clearPromise (old.loopRow a) (s.settings.loopRow a) a s := by
  unfold applyLoopRow clearPromise; dsimp only
  rw [if_neg (not_not.2 he)]

theorem applyLoopRow_changed {old : Settings} {s : State} {a : Nat} (he : (old.loopRow a).expected ≠ (s.settings.loopRow a).expected) :
    applyLoopRow old s a = clearPromise (old.loopRow a) (s.settings.loopRow a) a (reexpect old s a) := by
  unfold applyLoopRow clearPromise; dsimp only
  rw [if_pos he]

theorem RowWork.applyLoopRow (old : Settings) (s : State) (a : Nat) : RowWork (· = a) s (Machine.applyLoopRow old s a) := by
  by_cases he : (old.loopRow a).expected = (s.settings.loopRow a).expected
  · rw [applyLoopRow_same he]; exact .clearPromise _ _ a s
  · rw [applyLoopRow_changed he]; exact (RowWork.reexpect old s a).trans (.clearPromise _ _ a _)

theorem clearPromise_row {old new : LoopRowSettings} {a : Nat} {r : UnitRow} {s : State} (h : s.loop.row a = some r) :
    (clearPromise old new a s).loop.row a = some (if new.mode = old.mode then r else r.dropFault .promiseBroken) := by
  unfold clearPromise
  by_cases hm : new.mode = old.mode
  · rw [if_neg (not_not.2 hm.symm), if_pos hm, h]
  · rw [if_pos (Ne.symm hm), if_neg hm]; exact clearUnitFault_row _ h

/-- R177: one address applied. -/
theorem applyLoopRow_applied {old : Settings} {s : State} {a : Nat} {r : UnitRow} (h : s.loop.row a = some r) :
    RowApplied (old.loopRow a) (s.settings.loopRow a) a r (applyLoopRow old s a) := by
  by_cases he : (s.settings.loopRow a).expected = (old.loopRow a).expected
  · refine ⟨?_, fun hne => absurd he hne, fun hne => absurd he hne, fun hne => absurd he hne⟩
    rw [applyLoopRow_same he.symm, clearPromise_row h, UnitRow.applied, if_pos he]
  · have hw := RowWork.clearPromise (old.loopRow a) (s.settings.loopRow a) a (reexpect old s a)
    rw [applyLoopRow_changed (Ne.symm he)]
    refine ⟨?_, fun _ => hw.reprobes a (reexpect_reprobes old s a), fun _ hp hl => hw.dark a (reexpect_dark h hp hl),
      fun _ hp hc y hy => reexpect_unreachable h hp hc y (hw.reachable y hy)⟩
    rw [clearPromise_row (reexpect_row h), UnitRow.applied, if_neg he]
    split
    · rfl
    · rfl

/-! ## The whole section -/

theorem RowWork.foldl_applyLoopRow (old : Settings) (l : List Nat) : ∀ s : State, RowWork (· ∈ l) s (l.foldl (Machine.applyLoopRow old) s) := by
  induction l with
  | nil => exact .refl _
  | cons a l ih =>
    intro s
    exact ((RowWork.applyLoopRow old s a).mono fun b hb => hb ▸ List.mem_cons_self).trans ((ih _).mono fun b hb => List.mem_cons_of_mem a hb)

theorem RowWork.applyLoop (old : Settings) (s : State) : RowWork (· ∈ loopAddresses) s (Machine.applyLoop old s) := .foldl_applyLoopRow old _ s

theorem foldl_applyLoopRow_applied {old : Settings} {a : Nat} {r : UnitRow} (l : List Nat) : ∀ s : State, l.Nodup → a ∈ l →
    s.loop.row a = some r → RowApplied (old.loopRow a) (s.settings.loopRow a) a r (l.foldl (applyLoopRow old) s) := by
  induction l with
  | nil => exact fun _ _ ha => absurd ha List.not_mem_nil
  | cons b l ih =>
    intro s hl ha h
    obtain ⟨hb, hl⟩ := List.nodup_cons.1 hl
    rw [List.foldl_cons]
    by_cases e : a = b
    · subst e
      exact (applyLoopRow_applied h).elsewhere (.foldl_applyLoopRow old l _) hb
    · have hw := RowWork.applyLoopRow old s b
      have := ih _ hl ((List.mem_cons.1 ha).resolve_left e) ((hw.rows a e).trans h)
      rwa [hw.settings] at this

/-- R177: the LOOP section applied, at one address. -/
theorem applyLoop_applied {old : Settings} {s : State} {a : Nat} {r : UnitRow} (h1 : 1 ≤ a) (h31 : a ≤ 31) (h : s.loop.row a = some r) :
    RowApplied (old.loopRow a) (s.settings.loopRow a) a r (applyLoop old s) := by
  have ha : a ∈ loopAddresses := List.mem_map.2 ⟨a - 1, by simp; omega, by omega⟩
  exact foldl_applyLoopRow_applied loopAddresses s (by decide) ha h

/-! ## The end of the event -/

/-- The end of an event, for the unit table and the call units. -/
structure EndsLoopWork (s t : State) : Prop where
  rows : ∀ a, t.loop.row a = s.loop.row a
  reprobes : ∀ a ∈ s.loop.reprobes, t.loop.transaction = some (.probe a .reprobe) ∨ a ∈ t.loop.reprobes
  reachable : t.calls.reachable = s.calls.reachable
  dark : ∀ a, s.field.Dark a → t.field.Dark a

theorem settle_endsLoopWork (s : State) : EndsLoopWork s (settle s) := by
  obtain ⟨u, h, e⟩ := settle_lineWork s
  have k := takeWork_startsWork u
  have hcalls : (takeWork u).calls.reachable = u.calls.reachable := by rw [takeWork_calls]
  have hrow : ∀ a, (takeWork u).loop.row a = u.loop.row a := fun a => by
    unfold Loop.row; rw [k.rows]
  rw [e]
  exact ⟨fun a => (hrow a).trans (row_of_core h.refreshes.core a), fun a ha => k.reprobes a (reprobes_of_core h.refreshes.core ▸ ha),
    hcalls.trans h.reachable, fun a d => k.dark a (h.dark a d)⟩

end Sys2Proof.Machine


/-! A changed LIGHTS section applied by the Light Engine (R102), one channel after another. -/

namespace Sys2Proof.Machine

/-! ## Where a channel's unit and its record are found -/

theorem unit_place (u : Light) (a : Nat) : (u.unit a).map LightUnit.place = (u.units.map LightUnit.place).find? (·.1 == a) := by
  rw [List.find?_map]; rfl

/-- R102: whether a channel is placed depends on the presence and the outputs of its unit alone. -/
theorem placedNow_eq (n : Nat) (f : Field) : f.placedNow n =
    ((f.light.unit (f.settings.lamp n).unit).map LightUnit.place).any (fun p => p.2.1 && decide ((f.settings.lamp n).output ≤ p.2.2)) := by
  unfold Field.placedNow
  split
  · rename_i h; rw [h]; rfl
  · rename_i h; rw [h]; rfl

theorem placedNow_congr {f g : Field} (hs : g.settings = f.settings) (hp : g.light.units.map LightUnit.place = f.light.units.map LightUnit.place)
    (n : Nat) : g.placedNow n = f.placedNow n := by
  rw [placedNow_eq, placedNow_eq, unit_place, unit_place, hs, hp]

theorem lamp_of_lamps {u v : Light} (h : v.lamps = u.lamps) (n : Nat) : v.lamp n = u.lamp n := by
  rw [Light.lamp, h]; rfl

theorem lamp_num {u : Light} {n : Nat} {l : Lamp} (h : u.lamp n = some l) : l.num = n := by simpa using List.find?_some h

theorem lamp_changeLamp (n m : Nat) (g : Lamp → Lamp) (f : Field) :
    (f.changeLamp n g).light.lamp m = (f.light.lamp m).map (fun l => if m = n then { g l with num := l.num } else l) := by
  unfold Field.changeLamp
  cases h : f.light.lamp n with
  | none =>
    by_cases e : m = n
    · rw [e, h]; rfl
    · simp [e]
  | some l =>
    have hput := lamp_putLamp f.light { g l with num := l.num } m
    have hn : l.num = n := lamp_num h
    have hlamp : (f.light.putLamp { g l with num := l.num }).lamp m = (f.light.lamp m).map (fun l => if m = n then { g l with num := l.num } else l) := by
      rw [hput]
      by_cases e : m = n
      · rw [e, h]; simp [hn]
      · simp [e, hn]
    dsimp only; split
    · rw [lamp_of_lamps (judgeLamp_lamps _ _), hlamp]
    · exact hlamp

theorem lamp_putJudged (l : Lamp) (f : Field) (m : Nat) : (f.putJudged l).light.lamp m = (f.light.lamp m).map (fun x => if m = l.num then l else x) := by
  rw [lamp_of_lamps (putJudged_lamps l f), lamp_putLamp]

/-! ## One channel -/

/-- R104, R110: the target and the fade time of a channel that holds no claim. -/
theorem unclaimed_goal {l : Lamp} (h : l.unclaimed = true) (rest release : Nat) : l.goal rest = .level rest ∧ l.fadeTime release = release := by
  simp only [Lamp.unclaimed, Bool.and_eq_true, Option.isNone_iff_eq_none, Bool.not_eq_true'] at h
  obtain ⟨⟨⟨hsafety, hcurtain⟩, hmanual⟩, hcue⟩ := h
  rw [Lamp.goal, Lamp.fadeTime, hsafety, hcurtain, hmanual, hcue]
  exact ⟨rfl, rfl⟩

/-- R102: the record of a channel that takes a new rest level: only its target, its current level and its fade move, and they only on a channel
that holds no claim. -/
theorem rested_eq (rest : Nat) (lit : Bool) (l : Lamp) :
    l.rested rest lit = if l.unclaimed = true ∧ l.target ≠ .level rest then { l with target := .level rest, current := rest, fade := none } else l := by
  unfold Lamp.rested Lamp.retarget
  by_cases hu : l.unclaimed = true
  · obtain ⟨hgoal, hfade⟩ := unclaimed_goal hu rest 0
    rw [if_pos hu, hgoal, hfade]
    by_cases ht : l.target = .level rest
    · rw [if_pos ht.symm, if_neg fun h => h.2 ht]
    · rw [if_neg (Ne.symm ht), if_pos ⟨hu, ht⟩]
      exact if_pos (.inl rfl)
  · rw [if_neg hu, if_neg fun h => hu h.1]

/-- R102: what a channel's record becomes where its settings change. -/
structure LampApplied (was now : LampSettings) (placed : Bool) (l x : Lamp) : Prop where
  claims : (x.safety, x.curtain, x.manual, x.cue) = (l.safety, l.curtain, l.manual, l.cue)
  rests : (l.unclaimed = true → l.target = .level was.rest) → (x.target, x.current, x.fade) =
    (if l.unclaimed = true ∧ now.rest ≠ was.rest then (.level now.rest, now.rest, none) else (l.target, l.current, l.fade))
  stays : was.unit = now.unit ∧ was.output = now.output → x.placed = l.placed ∧ x.sent = l.sent
  moves : was.unit ≠ now.unit ∨ was.output ≠ now.output → x.placed = placed ∧ x.sent = none

/-- R102: the new rest level taken by a record whose place has been judged. -/
theorem rested_applied {was now : LampSettings} {placed place lit : Bool} {sent : Option Nat} {l : Lamp}
    (hstay : was.unit = now.unit ∧ was.output = now.output → place = l.placed ∧ sent = l.sent)
    (hmove : was.unit ≠ now.unit ∨ was.output ≠ now.output → place = placed ∧ sent = none) :
    LampApplied was now placed l (({ l with placed := place, sent := sent } : Lamp).rested now.rest lit) := by
  rw [rested_eq]
  refine ⟨by split <;> rfl, fun ht => ?_, fun h => by split <;> exact hstay h, fun h => by split <;> exact hmove h⟩
  by_cases hu : l.unclaimed = true
  · have hlevel : l.target ≠ .level now.rest ↔ now.rest ≠ was.rest := by
      rw [ht hu, Ne, LampTarget.level.injEq, eq_comm]
    by_cases hr : now.rest ≠ was.rest
    · rw [if_pos ⟨hu, hlevel.2 hr⟩, if_pos ⟨hu, hr⟩]
    · rw [if_neg fun h => hr (hlevel.1 h.2), if_neg fun h => hr h.2]
  · rw [if_neg fun h => hu h.1, if_neg fun h => hu h.1]

/-- R102: a channel whose settings keep its place and its rest level stands. -/
theorem LampApplied.same {was now : LampSettings} (placed : Bool) (l : Lamp) (hp : was.unit = now.unit ∧ was.output = now.output)
    (hr : now.rest = was.rest) : LampApplied was now placed l l where
  claims := rfl
  rests _ := by rw [if_neg fun h => h.2 hr]
  stays _ := ⟨rfl, rfl⟩
  moves h := h.elim (absurd hp.1) (absurd hp.2)

theorem applyLamp_refreshes (old : Settings) (f : Field) (n : Nat) : Refreshes f (f.applyLamp old n) := by
  unfold Field.applyLamp; dsimp only
  split
  · split
    · exact .refl f
    · refine Refreshes.trans ?_ (.putJudged _ _)
      split
      · exact .markUnit _ _ f
      · exact .refl f
  · split
    · exact .changeLamp n _ f
    · exact .refl f

theorem applyLamp_other (old : Settings) (f : Field) {n m : Nat} (hm : m ≠ n) : (f.applyLamp old n).light.lamp m = f.light.lamp m := by
  unfold Field.applyLamp; dsimp only
  split
  · split
    · rfl
    · rename_i l hl
      rw [lamp_putJudged]
      have hn : m ≠ l.num := lamp_num hl ▸ hm
      simp only [hn, if_false, Option.map_id']
      split
      · exact lamp_of_lamps (markUnit_lamps _ _ _) m
      · rfl
  · split
    · rw [lamp_changeLamp]; simp [hm]
    · rfl

/-- R102: the unit that a moving channel leaves is marked, if the channel was placed there. -/
def Field.markLeft (a : Nat) (l : Lamp) (f : Field) : Field := if l.placed then f.markUnit a .light else f

theorem markLeft_refreshes (a : Nat) (l : Lamp) (f : Field) : Refreshes f (f.markLeft a l) := by
  unfold Field.markLeft; split
  · exact .markUnit _ _ f
  · exact .refl f

theorem markLeft_lamps (a : Nat) (l : Lamp) (f : Field) : (f.markLeft a l).light.lamps = f.light.lamps := by
  unfold Field.markLeft; split
  · exact markUnit_lamps _ _ f
  · rfl

theorem rested_num (rest : Nat) (lit : Bool) (l : Lamp) : (l.rested rest lit).num = l.num := by
  rw [rested_eq]; split <;> rfl

theorem lamp_withNum {l : Lamp} {n : Nat} (h : l.num = n) : { l with num := n } = l := by rw [← h]

theorem applyLamp_moving {old : Settings} {f : Field} {n : Nat} {l : Lamp} (h : f.light.lamp n = some l)
    (hm : (old.lamp n).unit ≠ (f.settings.lamp n).unit ∨ (old.lamp n).output ≠ (f.settings.lamp n).output) :
    f.applyLamp old n = (f.markLeft (old.lamp n).unit l).putJudged
      ((l.moved (f.placedNow n)).rested (f.settings.lamp n).rest (f.markLeft (old.lamp n).unit l).light.lit) := by
  have hplaced : (f.markLeft (old.lamp n).unit l).placedNow n = f.placedNow n :=
    placedNow_congr (markLeft_refreshes _ l f).settings (markLeft_refreshes _ l f).places n
  rw [← hplaced, ← lamp_withNum (rested_num _ _ (l.moved _))]
  unfold Field.applyLamp; dsimp only
  rw [if_pos hm, h]; rfl

/-- R102: one channel's record after its settings have been applied. -/
theorem applyLamp_applied {old : Settings} {f : Field} {n : Nat} {l : Lamp} (h : f.light.lamp n = some l) :
    ∃ x, (f.applyLamp old n).light.lamp n = some x ∧ LampApplied (old.lamp n) (f.settings.lamp n) (f.placedNow n) l x := by
  have hn : l.num = n := lamp_num h
  by_cases hm : (old.lamp n).unit ≠ (f.settings.lamp n).unit ∨ (old.lamp n).output ≠ (f.settings.lamp n).output
  · refine ⟨_, ?_, rested_applied (place := f.placedNow n) (sent := none) (lit := (f.markLeft (old.lamp n).unit l).light.lit)
      (fun hs => hm.elim (absurd hs.1) (absurd hs.2)) fun _ => ⟨rfl, rfl⟩⟩
    rw [applyLamp_moving h hm, lamp_putJudged, lamp_of_lamps (markLeft_lamps _ l f), h, rested_num]
    exact congrArg some (if_pos hn.symm)
  · have hs : (old.lamp n).unit = (f.settings.lamp n).unit ∧ (old.lamp n).output = (f.settings.lamp n).output := by
      simpa only [ne_eq, not_or, not_not] using hm
    unfold Field.applyLamp; dsimp only
    rw [if_neg hm]
    by_cases hr : (old.lamp n).rest = (f.settings.lamp n).rest
    · rw [if_neg (not_not.2 hr)]
      exact ⟨l, h, .same _ l hs hr.symm⟩
    · rw [if_pos hr, lamp_changeLamp, h]
      refine ⟨_, congrArg some ((if_pos rfl).trans (lamp_withNum (rested_num _ _ l))), ?_⟩
      exact rested_applied (place := l.placed) (sent := l.sent) (fun _ => ⟨rfl, rfl⟩) fun h => h.elim (absurd hs.1) (absurd hs.2)

/-- R102: a channel that moves away marks the unit on which it was placed. -/
theorem applyLamp_leaves_unclean {old : Settings} {f : Field} {n : Nat} {l : Lamp} (h : f.light.lamp n = some l) (hp : l.placed = true)
    (hm : (old.lamp n).unit ≠ (f.settings.lamp n).unit ∨ (old.lamp n).output ≠ (f.settings.lamp n).output) :
    (f.applyLamp old n).Unclean (old.lamp n).unit := by
  rw [applyLamp_moving h hm]
  refine (Refreshes.putJudged _ _).unclean _ ?_
  rw [Field.markLeft, if_pos hp]
  exact markUnit_unclean _ _ f

/-! ## Every channel -/

/-- R102: what a channel, and the unit that it leaves, are left with when its settings have been applied. -/
structure ChannelApplied (old : Settings) (m : Nat) (placed : Bool) (l : Lamp) (f : Field) : Prop where
  record : ∃ x, f.light.lamp m = some x ∧ LampApplied (old.lamp m) (f.settings.lamp m) placed l x
  left : l.placed = true → (old.lamp m).unit ≠ (f.settings.lamp m).unit ∨ (old.lamp m).output ≠ (f.settings.lamp m).output →
    f.Unclean (old.lamp m).unit

theorem foldl_applyLamp_refreshes (old : Settings) (l : List Nat) (f : Field) : Refreshes f (l.foldl (Field.applyLamp old) f) :=
  Refreshes.foldl (applyLamp_refreshes old) l f

theorem foldl_applyLamp_other {old : Settings} {m : Nat} (l : List Nat) : ∀ f : Field, m ∉ l →
    (l.foldl (Field.applyLamp old) f).light.lamp m = f.light.lamp m := by
  induction l with
  | nil => exact fun _ _ => rfl
  | cons n l ih =>
    intro f hm
    obtain ⟨hn, hl⟩ := List.ne_and_not_mem_of_not_mem_cons hm
    rw [List.foldl_cons, ih _ hl, applyLamp_other old f hn]

theorem foldl_applyLamp_applied {old : Settings} {m : Nat} {l : Lamp} (ns : List Nat) : ∀ f : Field, ns.Nodup → m ∈ ns →
    f.light.lamp m = some l → ChannelApplied old m (f.placedNow m) l (ns.foldl (Field.applyLamp old) f) := by
  induction ns with
  | nil => exact fun _ _ hm => absurd hm List.not_mem_nil
  | cons n ns ih =>
    intro f hns hm h
    obtain ⟨hn, hns⟩ := List.nodup_cons.1 hns
    have hstep := applyLamp_refreshes old f n
    rw [List.foldl_cons]
    by_cases e : m = n
    · subst e
      have hrest := foldl_applyLamp_refreshes old ns (f.applyLamp old m)
      obtain ⟨x, hx, hxl⟩ := applyLamp_applied (old := old) h
      have hset : (ns.foldl (Field.applyLamp old) (f.applyLamp old m)).settings = f.settings := hrest.settings.trans hstep.settings
      refine ⟨⟨x, (foldl_applyLamp_other ns _ hn).trans hx, hset.symm ▸ hxl⟩, fun hp hmove => ?_⟩
      rw [hset] at hmove
      exact hrest.unclean _ (applyLamp_leaves_unclean h hp hmove)
    · rw [← placedNow_congr hstep.settings hstep.places m]
      exact ih _ hns ((List.mem_cons.1 hm).resolve_left e) ((applyLamp_other old f e).trans h)

/-- R102: the LIGHTS section applied, at one channel. -/
theorem applySettings_applied {old : Settings} {f : Field} {m : Nat} {l : Lamp} (hn : (f.light.lamps.map (·.num)).Nodup)
    (h : f.light.lamp m = some l) : ChannelApplied old m (f.placedNow m) l (f.applySettings old) :=
  foldl_applyLamp_applied f.numbers f hn (List.mem_map.2 ⟨l, List.mem_of_find?_eq_some h, lamp_num h⟩) h

theorem applySettings_refreshes (old : Settings) (f : Field) : Refreshes f (f.applySettings old) := foldl_applyLamp_refreshes old _ f

/-! ## The end of the event -/

/-- The end of an event, for the lamp channels and their units, while no announcement is waited for (R96, R116). -/
structure EndsCalm (s t : State) : Prop where
  settings : t.settings = s.settings
  places : t.light.units.map LightUnit.place = s.light.units.map LightUnit.place
  unclean : ∀ a, s.field.Unclean a → t.field.Unclean a
  lamp : ∀ n, (t.light.lamp n).map Lamp.unsent = (s.light.lamp n).map Lamp.unsent
  busy : s.loop.transaction ≠ none → ∀ n, t.light.lamp n = s.light.lamp n

theorem lamp_unsent (u : Light) (n : Nat) : (u.lamp n).map Lamp.unsent = (u.lamps.map Lamp.unsent).find? (·.num == n) := by
  rw [List.find?_map]; rfl

theorem settle_endsCalm {s : State} (hc : s.calm) : EndsCalm s (settle s) := by
  obtain ⟨u, h, e⟩ := settle_lineWork s
  have k := takeWork_startsWork u
  have hl := (Leaves.refl s).settle
  refine ⟨hl.settings, ?_, fun a ha => ?_, fun n => ?_, fun hb n => ?_⟩
  · rw [e]; exact k.places.trans h.refreshes.places
  · rw [e]; exact k.unclean a (h.refreshes.unclean a ha)
  · rw [lamp_unsent, lamp_unsent, (hl.calm hc).2]
  · have hbusy : u.loop.transaction ≠ none := by
      have : u.loop.core.transaction = s.loop.core.transaction := congrArg Loop.transaction h.refreshes.core
      exact fun hu => hb (this.symm.trans hu)
    rw [e, takeWork_of_busy u hbusy]
    exact lamp_of_lamps (h.lamps hc) n

end Sys2Proof.Machine


/-! CONFIG, STORE SECTION and the end of the write, as a whole (R191, R193). -/

namespace Sys2Proof.Machine

/-! ## A CONFIG taken -/

/-- R191: a CONFIG that its judgement lets pass: the phase is DARK, no alarm entry is held where the section is CHANNELS, and the values are sound. -/
theorem gateConfig_none {n : SectionName} {fs : List ConfigField} {s : State} (h : gateConfig (some n) fs s = none) :
    (n = .channels → s.alarm.entries = []) ∧ configSound n fs s.settings = true := by
  unfold gateConfig at h
  split at h
  · cases h
  split at h
  · cases h
  rename_i ha
  split at h
  · cases h
  rename_i hs
  exact ⟨fun hn => by_contra fun he => ha ⟨congrArg some hn, he⟩, by simpa using hs⟩

theorem execConfig_taken {s : State} {tag : Tag} {n : SectionName} {fs : List ConfigField} (h : s.resetHeld = false)
    (ho : s.owns .stage tag .config = true) (hg : gateConfig (some n) fs s = none) :
    execConfig .stage tag (some n) fs s = .next (settle (done .stage tag (applyConfig n fs s))) := by
  rw [execConfig, request_owned _ h ho, hg]; rfl

/-- R190, R191: the settings changed and the section marked, with the change still to be handed to its block. -/
def State.configured (n : SectionName) (fs : List ConfigField) (s : State) : State :=
  markChanged n { s with settings := applyFields fs s.settings }

theorem applyConfig_eq (n : SectionName) (fs : List ConfigField) (s : State) : applyConfig n fs s = handSection n s.settings (s.configured n fs) := rfl

/-- R191: the blocks leave the settings, the store and the performance record as the change has made them. -/
theorem handSection_stands {n : SectionName} (old : Settings) {s : State} (h : n = .channels → s.alarm.entries = []) :
    (handSection n old s).settings = s.settings ∧ (handSection n old s).store = s.store ∧ (handSection n old s).perf = s.perf := by
  cases n with
  | channels =>
    have hf := Unalarmed.foldl Unalarmed.reconfigureChannel (changedChannels old s.settings) s
    obtain ⟨-, hstore, hperf⟩ := hf.quiet (h rfl)
    exact ⟨hf.settings, hstore, hperf⟩
  | loop =>
    have hf := RowWork.applyLoop old s
    exact ⟨hf.settings, hf.store, hf.perf⟩
  | lights | zones | curtain | calls | ports | performance => exact ⟨rfl, rfl, rfl⟩

/-- R190, R191: what every accepted CONFIG makes of the settings, the store and the performance record. -/
structure TakesConfig (n : SectionName) (fs : List ConfigField) (s t : State) : Prop where
  settings : t.settings = applyFields fs s.settings
  marked : ∀ r ∈ t.store.rows, r.name = n → r.changed = true
  operation : t.store.operation = s.store.operation
  perf : t.perf = s.perf

theorem configured_marked (n : SectionName) (fs : List ConfigField) (s : State) : ∀ r ∈ (s.configured n fs).store.rows, r.name = n → r.changed = true := by
  intro r hr hn
  obtain ⟨x, -, rfl⟩ := List.mem_map.1 hr
  split at hn
  · rename_i hx; rw [if_pos hx]
  · rename_i hx; exact absurd hn hx

theorem settle_takesConfig {n : SectionName} {fs : List ConfigField} {s : State} (tag : Tag) (hg : gateConfig (some n) fs s = none) :
    TakesConfig n fs s (settle (done .stage tag (applyConfig n fs s))) := by
  have hl := (Leaves.refl (done .stage tag (applyConfig n fs s))).settle
  rw [applyConfig_eq] at hl ⊢
  obtain ⟨hsettings, hstore, hperf⟩ := handSection_stands (n := n) s.settings (s := s.configured n fs) (gateConfig_none hg).1
  refine ⟨hl.settings.trans hsettings, ?_, ?_, hl.perf.trans hperf⟩
  · rw [hl.store.trans hstore]; exact configured_marked n fs s
  · rw [hl.store.trans hstore]; rfl

theorem settle_config_answered {n : SectionName} {fs : List ConfigField} {s : State} {tag : Tag} (ho : s.owns .stage tag .config = true) :
    (settle (done .stage tag (applyConfig n fs s))).answered .stage tag (.done .empty) :=
  settle_answered ho (((KeepsG.refl s).applyConfig n fs).holds.intakes .stage)

/-! ## The CHANNELS section -/

/-- R41: each channel's record after a CONFIG of the CHANNELS section. -/
theorem settle_config_channels {fs : List ConfigField} {s : State} (tag : Tag) {m : Nat} {c : ChannelRecord} (h1 : 1 ≤ m) (h16 : m ≤ 16)
    (h : s.scanner.record m = some c) :
    (settle (done .stage tag (applyConfig .channels fs s))).scanner.record m = some
      (if { s.settings.channel m with isolated := ((applyFields fs s.settings).channel m).isolated } = (applyFields fs s.settings).channel m then c
        else c.retyped ((applyFields fs s.settings).channel m).type) := by
  rw [settle_record]
  show ((changedChannels s.settings (applyFields fs s.settings)).foldl reconfigureChannel (s.configured .channels fs)).scanner.record m = _
  rw [foldl_reconfigure_record _ (s.configured .channels fs) (changedChannels_nodup _ _) h]
  simp only [mem_changedChannels h1 h16, ite_not]
  rfl

/-! ## The LOOP section -/

/-- R190: a field of the LOOP section leaves the LIGHTS section. -/
theorem applyField_lights {f : ConfigField} (h : fieldSection f = .loop) (v : Settings) : (applyField v f).lights = v.lights := by
  cases f with
  | expectedKind | issueMode | laneOf | pollPeriod | surveyPeriod | replyWindow => rfl
  | _ => cases h

theorem applyFields_lights (fs : List ConfigField) : ∀ v : Settings, (∀ f ∈ fs, fieldSection f = .loop) → (applyFields fs v).lights = v.lights := by
  induction fs with
  | nil => exact fun _ _ => rfl
  | cons f fs ih =>
    intro v h
    exact (ih _ fun g hg => h g (List.mem_cons_of_mem f hg)).trans (applyField_lights (h f List.mem_cons_self) v)

theorem configSound_section {n : SectionName} {fs : List ConfigField} {v : Settings} (h : configSound n fs v = true) : ∀ f ∈ fs, fieldSection f = n := by
  intro f hf
  simp only [configSound, Bool.and_eq_true, List.all_eq_true, beq_iff_eq] at h
  obtain ⟨⟨-, hall⟩, -⟩ := h
  exact (hall f hf).1

theorem lamp_of_lights {v w : Settings} (h : v.lights = w.lights) (m : Nat) : v.lamp m = w.lamp m := by rw [Settings.lamp, h]; rfl

/-- R177: what an address is left with after a CONFIG of the LOOP section. -/
theorem settle_config_loop {fs : List ConfigField} {s : State} (tag : Tag) {a : Nat} {r : UnitRow} (h1 : 1 ≤ a) (h31 : a ≤ 31)
    (h : s.loop.row a = some r) :
    RowApplied (s.settings.loopRow a) ((applyFields fs s.settings).loopRow a) a r (applyConfig .loop fs s) ∧
      EndsLoopWork (applyConfig .loop fs s) (settle (done .stage tag (applyConfig .loop fs s))) := by
  have k := settle_endsLoopWork (done .stage tag (applyConfig .loop fs s))
  exact ⟨applyLoop_applied (s := s.configured .loop fs) h1 h31 h, k.rows, k.reprobes, k.reachable, fun a d => k.dark a ⟨d.unset, d.waiting, d.lamps⟩⟩

theorem reexpected_outOfService (r : UnitRow) : (r.reexpected.present, r.reexpected.room, r.reexpected.faultsHeld) = (false, .room, []) := by
  unfold UnitRow.reexpected
  by_cases hp : r.present = true
  · rw [if_pos hp]; rfl
  · rw [if_neg hp, Bool.eq_false_iff.2 hp]

theorem reexpected_present {r : UnitRow} (hp : r.present = true) : (r.reexpected.misses, r.reexpected.nextPoll) = (0, none) := by
  rw [UnitRow.reexpected, if_pos hp]; rfl

/-- R177: the row of an address whose expected kind has changed, at the end of the event. -/
theorem RowApplied.row_changed {old new : LoopRowSettings} {a : Nat} {r : UnitRow} {y t : State} (h : RowApplied old new a r y)
    (k : EndsLoopWork y t) (he : new.expected ≠ old.expected) : t.loop.row a = some r.reexpected := by
  rw [k.rows, h.row, UnitRow.applied, if_neg he]

/-- R177: the row of an address that keeps its expected kind, at the end of the event. -/
theorem RowApplied.row_kept {old new : LoopRowSettings} {a : Nat} {r : UnitRow} {y t : State} (h : RowApplied old new a r y)
    (k : EndsLoopWork y t) (he : new.expected = old.expected) : t.loop.row a = some { r with
      faultsHeld := if new.mode = old.mode then r.faultsHeld else r.faultsHeld.filter (fun k => k != .promiseBroken) } := by
  rw [k.rows, h.row, UnitRow.applied, if_pos he]
  split
  · rfl
  · rfl

/-! ## The LIGHTS section -/

theorem placedNow_any (n : Nat) (f : Field) : f.placedNow n =
    (f.light.unit (f.settings.lamp n).unit).any (fun u => u.present && decide ((f.settings.lamp n).output ≤ u.outputs)) := by
  unfold Field.placedNow
  split
  · rename_i h; rw [h]; rfl
  · rename_i h; rw [h]; rfl

/-- R102: what a channel is left with after a CONFIG of the LIGHTS section. -/
theorem settle_config_lights {fs : List ConfigField} {s : State} (tag : Tag) (hc : s.calm) (hn : s.numbered) {m : Nat} {l : Lamp}
    (h : s.light.lamp m = some l) :
    ChannelApplied s.settings m ((settle (done .stage tag (applyConfig .lights fs s))).field.placedNow m) l (applyConfig .lights fs s).field ∧
      EndsCalm (applyConfig .lights fs s) (settle (done .stage tag (applyConfig .lights fs s))) := by
  have k := settle_endsCalm (s := done .stage tag (applyConfig .lights fs s)) hc
  have hr := applySettings_refreshes s.settings (s.configured .lights fs).field
  have hfield : (applyConfig .lights fs s).field = (s.configured .lights fs).field.applySettings s.settings :=
    onField_field (s := s.configured .lights fs) hr.settings
  have hplaced : (settle (done .stage tag (applyConfig .lights fs s))).field.placedNow m = (s.configured .lights fs).field.placedNow m :=
    placedNow_congr k.settings (k.places.trans hr.places) m
  refine ⟨?_, k.settings, k.places, k.unclean, k.lamp, k.busy⟩
  rw [hplaced, hfield]
  exact applySettings_applied (f := (s.configured .lights fs).field) hn.2 h

/-- R102: a channel's record at the end of the event: as the section has left it, and its sent level too where the loop was busy. -/
theorem EndsCalm.record {y t : State} {m : Nat} {z : Lamp} (h : EndsCalm y t) (hz : y.light.lamp m = some z) :
    ∃ x, t.light.lamp m = some x ∧ x.unsent = z.unsent ∧ (y.loop.transaction ≠ none → x.sent = z.sent) := by
  have hu := h.lamp m
  rw [hz] at hu
  obtain ⟨x, hx, e⟩ := Option.map_eq_some_iff.1 hu
  refine ⟨x, hx, e, fun hb => ?_⟩
  have hbusy := h.busy hb m
  rw [hx, hz] at hbusy
  rw [Option.some.inj hbusy]

theorem applySettings_transaction (fs : List ConfigField) (s : State) : (applyConfig .lights fs s).loop.transaction = s.loop.transaction := by
  show ((s.configured .lights fs).field.applySettings s.settings).loop.core.transaction = s.loop.core.transaction
  rw [(applySettings_refreshes s.settings (s.configured .lights fs).field).core]; rfl

/-- Two records that differ in their sent level alone. -/
theorem unsent_fields {x z : Lamp} (e : x.unsent = z.unsent) : (x.safety, x.curtain, x.manual, x.cue) = (z.safety, z.curtain, z.manual, z.cue) ∧
    (x.target, x.current, x.fade) = (z.target, z.current, z.fade) ∧ x.placed = z.placed := by
  simp only [Lamp.unsent, Lamp.mk.injEq] at e
  simp only [e, and_self]

/-! ## The end of the write, with its event -/

theorem settle_endStore_spares (op : StoreOperation) (s : State) : Spares (s.storeWritten op) (settle (endStore op s)) :=
  ((notify_spares _ _ _).trans (endStore_spares op s)).settle

theorem settle_endStore_queue {op : StoreOperation} {s : State} {p : Port} (h : s.Takes p .store) : ∃ l, ((settle (endStore op s)).port p).queue =
    (s.port p).queue ++ .notice (s.port p).dropped (.storeDone op.name s.uptime) :: l := by
  obtain ⟨l, e⟩ := (endStore_queue (op := op) h).trans ((Spares.refl (endStore op s)).settle.queues p)
  exact ⟨l, by rw [← e, List.append_assoc]; rfl⟩

/-! ## The whole of it -/

/-- Settles O57, clause by clause: the CONFIG taken with each of its three sections that a block applies, the refusals, the store begun, and the
end of the write. -/
theorem settingsAndStore : Obligations.SettingsAndStore := by
  refine ⟨fun s tag n fs h ho hg => ?_, fun s tag n fs r h => ⟨fun ho => execConfig_refused h ho, fun ho => execStoreSection_refused h ho⟩,
    fun s tag => ⟨fun n h ho hg => execStoreSection_taken h ho hg, fun op h hop => ?_⟩⟩
  · have k := settle_takesConfig tag hg
    refine ⟨_, execConfig_taken h ho hg, settle_config_answered ho, k.settings, k.marked, k.operation, k.perf, ?_, ?_, ?_⟩
    · rintro rfl m c h1 h16 hr
      rw [k.settings]
      exact settle_config_channels tag h1 h16 hr
    · rintro rfl a r h1 h31 hr
      obtain ⟨y, z⟩ := settle_config_loop (fs := fs) tag h1 h31 hr
      have hlights := applyFields_lights fs s.settings (configSound_section (gateConfig_none hg).2)
      rw [k.settings]
      refine ⟨fun he => ⟨?_, z.reprobes a (y.reprobe he), fun hp => ⟨?_, fun hl => ?_, fun hc x hx => ?_⟩⟩, y.row_kept z⟩
      · rw [y.row_changed z he]; exact congrArg some (reexpected_outOfService r)
      · rw [y.row_changed z he]; exact congrArg some (reexpected_present hp)
      · have d := z.dark a (y.dark he hp hl)
        refine ⟨d.unset, fun l hlm hu => d.lamps l hlm ?_⟩
        show ((settle _).settings.lamp l.num).unit = a
        rw [k.settings, lamp_of_lights hlights, hu]
      · exact y.unreachable he hp hc x (z.reachable ▸ hx)
    · rintro rfl - hc hn m l _ _ hl rfl rfl ht
      obtain ⟨⟨⟨z, hz, hap⟩, hleft⟩, hend⟩ := settle_config_lights (fs := fs) tag hc hn hl
      obtain ⟨x, hx, e, hsent⟩ := hend.record hz
      rw [applySettings_transaction] at hsent
      rw [k.settings]
      obtain ⟨hclaims, hlevels, hplaced⟩ := unsent_fields e
      refine ⟨x, hx, hclaims.trans hap.claims, hlevels.trans (hap.rests ht), fun hs => ?_, fun hm => ⟨?_, fun hb => ?_, fun hp u hu => ?_⟩⟩
      · obtain ⟨hplace, hkeep⟩ := hap.stays hs
        exact ⟨hplaced.trans hplace, fun hb => (hsent hb).trans hkeep⟩
      · rw [hplaced, (hap.moves hm).1, placedNow_any, ← k.settings]; rfl
      · exact (hsent hb).trans (hap.moves hm).2
      · exact hend.unclean _ (hleft hp hm) u hu
  · have hl := (Leaves.refl (endStore op s)).settle
    have hw := settle_endStore_spares op s
    refine ⟨_, execStoreWriteEnd_running h hop, hw.store, fun p ho hsub hroom => settle_endStore_queue ⟨ho, hsub, hroom⟩, fun hsound e => ?_,
      hw.settings, hl.perf.trans (endStore_perf op s)⟩
    obtain ⟨u, hlost, haborted⟩ := endStore_clears op hsound
    rw [hl.sup]
    refine ⟨fun hpair he => ?_, fun h1 h2 => (haborted.others e h2).trans (hlost.others e h1)⟩
    obtain hpair | hpair := hpair
    · exact hlost.ended e ((haborted.others e (by rw [hpair]; simp)).1 he) hpair
    · exact haborted.ended e he hpair

end Sys2Proof.Machine

/-! The long status requests (R70, R121, R140, R153, R176, R186, R192): a reply and the free value that chooses its length. -/

namespace Sys2Proof.Machine

/-- On an idle controller a reply that has used up a free value has only its frame to send (log entry 8). -/
theorem request_paged {p : Port} {tag : Tag} {k : RequestKind} {s : State} (r : State → ReplyOutcome) (h : s.awake) (ho : s.owns p tag k = true) :
    request p tag k (fun s => reply p tag (r s) (spend s)) s =
      .next (transmit (reply p tag (r s) { s with freeCount := s.freeCount + 1 })) := by
  obtain ⟨hheld, hidle⟩ := h
  rw [request_owned _ hheld ho]
  exact congrArg _ (settle_frames s _ hidle rfl rfl rfl rfl rfl)

/-- R186: "read and clear" sets the counts of the asking port to 0 after its reply. -/
theorem execPortStatusReadAndClear_paged {p : Port} {tag : Tag} {s : State} (first : Nat) (h : s.awake) (ho : s.owns p tag .portStatus = true) :
    exec (.portStatusReadAndClear p tag first) s = .next (transmit
      ((reply p tag (.done (.ports (portsReply first s))) { s with freeCount := s.freeCount + 1 }).mapPort p PortUnit.clearCounts)) := by
  obtain ⟨hheld, hidle⟩ := h
  show execPortStatusReadAndClear p tag first s = _
  rw [execPortStatusReadAndClear, request_owned _ hheld ho]
  exact congrArg _ (settle_frames s _ hidle rfl rfl rfl rfl rfl)

/-- Settles O23, request by request: each is answered by a reply alone, or refused. -/
theorem longStatusRequests : Obligations.LongStatusRequests := by
  intro s p tag first h u
  refine ⟨fun ho => ?_, fun ho => ?_, fun ho => ?_, fun ho => ?_, fun ho => ?_, fun ho => ⟨?_, ?_, ?_⟩, fun ho => ⟨fun n => ?_, ?_⟩⟩
  · exact request_paged (fun s => .done (.alarmList (alarmListReply first s))) h ho
  · exact request_paged (fun s => .done (.lights (lightReply first s))) h ho
  · exact request_paged (fun s => .done (.calls (callsReply first s))) h ho
  · exact request_paged (fun s => .done (.faults (faultsReply first s))) h ho
  · exact request_paged (fun s => .done (.units (unitsReply first s))) h ho
  · exact request_paged (fun s => .done (.ports (portsReply first s))) h ho
  · show execPortStatus p tag false first s = _
    rw [execPortStatus]
    exact request_replied h ho rfl
  · exact execPortStatusReadAndClear_paged first h ho
  · exact request_paged (fun s => .done (.config (configReply n first s))) h ho
  · show execGetConfig p tag none first s = _
    rw [execGetConfig]
    exact request_replied h ho rfl

end Sys2Proof.Machine

/-! The alarm list under its requests: ACKNOWLEDGE (R52, R63), SILENCE (R64, R65), and the staff windows that expire (R53, R54). -/

namespace Sys2Proof.Machine

/-! ## The entries of the list -/

theorem Leaves.relay {s t : State} (h : Leaves s t) : t.alarm.relay = s.alarm.relay := by rw [h.alarm]

theorem Leaves.sounder {s t : State} (h : Leaves s t) : t.alarm.sounder = s.alarm.sounder := by rw [h.alarm]

/-- Lists of entries that agree but for the staff orders hold the same entries but for those. -/
theorem mem_of_cores {l m : List AlarmEntry} (h : m.map AlarmEntry.core = l.map AlarmEntry.core) {e : AlarmEntry} (he : e ∈ l) :
    ∃ x ∈ m, x.core = e.core :=
  List.mem_map.1 (h ▸ List.mem_map_of_mem he)

/-- R45: an entry that the list holds of a zone. -/
theorem entry_mem {u : AlarmUnit} {z : Nat} {e : AlarmEntry} (h : u.entry z = some e) : e ∈ u.entries ∧ e.zone = z :=
  ⟨List.mem_of_find?_eq_some h, by simpa using List.find?_some h⟩

/-- The entries of a zone changed are among those of the list. -/
theorem mem_change {u : AlarmUnit} {z : Nat} {e : AlarmEntry} (f : AlarmEntry → AlarmEntry) (he : e ∈ u.entries) (hz : e.zone = z) :
    f e ∈ (u.change z f).entries :=
  List.mem_map.2 ⟨e, he, if_pos (beq_iff_eq.2 hz)⟩

/-- The list is as it was where it holds no entry of the zone. -/
theorem change_of_none {u : AlarmUnit} {z : Nat} (f : AlarmEntry → AlarmEntry) (h : u.entry z = none) : (u.change z f).entries = u.entries :=
  (List.map_congr_left fun e he => if_neg (List.find?_eq_none.1 h e he)).trans (List.map_id _)

/-! ## The end of the event -/

/-- What the presentation (R61, R62), the reply and the end of the event leave as the Alarm Unit has made it. -/
structure Concludes (a t : State) : Prop where
  settings : t.settings = a.settings
  perf : t.perf = a.perf
  relay : t.alarm.relay = a.alarm.relay
  resetting : t.alarm.resetting = a.alarm.resetting
  entries : t.alarm.entries.map AlarmEntry.core = a.alarm.entries.map AlarmEntry.core
  channels : t.scanner.channels = a.scanner.channels
  claims : (a.light.lamps.map Lamp.num).Nodup → t.light.lamps.map Lamp.claims = a.light.lamps.map Lamp.claims

theorem settle_concludes (a : State) (q : Ports) : Concludes a (settle { refreshPresented a with ports := q }) := by
  have h := (Leaves.refl { refreshPresented a with ports := q }).settle
  obtain ⟨l, r, e⟩ := refreshPresented_eq a
  rw [e] at h ⊢
  exact ⟨h.settings, h.perf, h.relay, by rw [h.alarm], h.entries, settle_channels _, h.claims⟩

theorem settle_refreshed_concludes (a : State) : Concludes a (settle (refreshPresented a)) := settle_concludes a _

theorem settle_done_concludes (p : Port) (tag : Tag) (a : State) : Concludes a (settle (done p tag (refreshPresented a))) := settle_concludes a _

/-! ## ACKNOWLEDGE -/

/-- R52, R63: an entry acknowledged from a port; one at STAFF_ALERT begins its investigation. -/
def AlarmEntry.acknowledgedAt (p : Port) (deadline : Nat) (st : AlarmStage) (e : AlarmEntry) : AlarmEntry :=
  match st with
  | .staffAlert _ => { e with acked := some p, stage := .investigating deadline }
  | .investigating _ | .standingDown | .general _ => { e with acked := some p }

theorem acknowledgedAt_fields (p : Port) (deadline : Nat) (e : AlarmEntry) :
    (e.acknowledgedAt p deadline e.stage).zone = e.zone ∧ (e.acknowledgedAt p deadline e.stage).acked = some p ∧
      (e.acknowledgedAt p deadline e.stage).stage = match e.stage with
        | .staffAlert _ => .investigating deadline
        | st => st := by
  unfold AlarmEntry.acknowledgedAt
  cases e.stage <;> exact ⟨rfl, rfl, rfl⟩

theorem Leaves.withdrawStaff {s0 s : State} (e : AlarmEntry) (h : Leaves s0 s) : Leaves s0 (Machine.withdrawStaff e s) := by
  unfold Machine.withdrawStaff; split
  · exact h.withdrawInternal _ _
  · exact h

/-- R52, R63: after the change of the entry an acknowledgement withdraws the staff call, sends its notice and presents the next entry. -/
theorem acknowledgeEntry_eq (p : Port) (e : AlarmEntry) (s : State) : ∃ a,
    Leaves (mapAlarm (fun u => u.change e.zone (AlarmEntry.acknowledgedAt p (s.uptime + s.settings.zones.investigationWindow) e.stage)) s) a ∧
      acknowledgeEntry p e s = refreshPresented a := by
  unfold acknowledgeEntry
  cases e.stage with
  | staffAlert d => exact ⟨_, ((Leaves.refl _).withdrawStaff e).notifyAlways _, rfl⟩
  | investigating d | standingDown | general d => exact ⟨_, (Leaves.refl _).notifyAlways _, rfl⟩

theorem execAcknowledge_presented {s : State} {p : Port} {tag : Tag} {e : AlarmEntry} (hh : s.resetHeld = false)
    (ho : s.owns p tag .acknowledge = true) (he : s.alarm.presented = some e) (hz : e.zone ≤ 12) :
    exec (.acknowledge p tag e.zone) s = .next (settle (done p tag (Machine.acknowledgeEntry p e s))) := by
  show execAcknowledge p tag e.zone s = _
  rw [execAcknowledge, request_owned _ hh ho, if_neg (not_lt.2 hz), he]
  dsimp only
  rw [if_pos rfl]

/-! ## SILENCE -/

/-- R64, R65: SOUNDING sounders silenced; the EVAC order is cut, and the notice sent. -/
theorem silenceAlarm_leaves {s : State} (p : Port) (h : s.alarm.sounder = .sounding) :
    Leaves (mapAlarm (fun u => { u with sounder := .silenced }) s) (silenceAlarm p s) := by
  unfold silenceAlarm
  rw [h]
  exact (cutHeldEvac_leaves _).notifyAlways _

theorem execSilence_general {s : State} {p : Port} {tag : Tag} (hh : s.resetHeld = false) (ho : s.owns p tag .silence = true)
    (hg : s.anyGeneral = true) : exec (.silence p tag) s = .next (settle (done p tag (silenceAlarm p s))) := by
  show execSilence p tag s = _
  rw [execSilence, request_owned _ hh ho, if_pos hg]

/-- An entry's zone, stage and acknowledgement are told by the entry but for its staff order. -/
theorem map_of_cores {l m : List AlarmEntry} (h : m.map AlarmEntry.core = l.map AlarmEntry.core) :
    m.map (fun e => (e.zone, e.stage, e.acked)) = l.map (fun e => (e.zone, e.stage, e.acked)) := by
  have := congrArg (List.map fun e => (e.zone, e.stage, e.acked)) h
  rwa [List.map_map, List.map_map] at this

/-- Settles O30: but for the sounders' state, what the cut of the EVAC order and the end of the event leave. -/
theorem silenceSounders : Obligations.SilenceSounders := by
  intro s p tag hh ho hg hs
  have ha := silenceAlarm_leaves p hs
  have ht := (Leaves.refl (done p tag (silenceAlarm p s))).settle
  have hsilenced : (settle (done p tag (silenceAlarm p s))).alarm.sounder = .silenced := ht.sounder.trans ha.sounder
  refine ⟨_, execSilence_general hh ho hg, settle_answered ho ((KeepsG.refl s).silenceAlarm p |>.holds.intakes p), hsilenced, ?_, ?_,
    ht.relay.trans ha.relay, map_of_cores (ht.entries.trans ha.entries), ht.timer.trans ha.timer, ht.perf.trans ha.perf,
    ht.settings.trans ha.settings, ht.sup.trans ha.sup⟩
  · rw [AlarmUnit.sounderStage, hsilenced]; rfl
  · rw [AlarmUnit.sounderFront, hsilenced]; rfl

/-! ## A window that expires -/

/-- R58: an entry made GENERAL stands so in the list, and the others are left. -/
theorem makeGeneral_entries (fresh : Bool) (s : State) (z : Nat) : (makeGeneral fresh s z).alarm.entries.map AlarmEntry.core =
    (s.alarm.change z (AlarmEntry.general s.uptime)).entries.map AlarmEntry.core := by
  unfold makeGeneral; split
  · rename_i hnone
    rw [change_of_none _ hnone]
  · exact ((Spares.refl _).disturb.generalHandOffs _ fresh).entries

theorem makeGeneral_general {s : State} {z : Nat} {e : AlarmEntry} (fresh : Bool) (h : s.alarm.entry z = some e) :
    (makeGeneral fresh s z).perf.phase = .evacuation ∧ (makeGeneral fresh s z).alarm.relay = true := by
  rw [makeGeneral, h]
  exact (generalHandOffs_holds _ _ _).2

/-- R53, R54: the end of the event of a window that expires. -/
theorem settle_makeGeneral {s : State} {z : Nat} {e : AlarmEntry} (fresh : Bool) (h : s.alarm.entry z = some e) :
    (settle (refreshPresented (makeGeneral fresh s z))).perf.phase = .evacuation ∧
      (settle (refreshPresented (makeGeneral fresh s z))).alarm.relay = true ∧
      ∃ x ∈ (settle (refreshPresented (makeGeneral fresh s z))).alarm.entries, x.zone = z ∧ x.stage = .general s.uptime ∧ x.acked = none := by
  have hend := settle_refreshed_concludes (makeGeneral fresh s z)
  obtain ⟨hphase, hrelay⟩ := makeGeneral_general fresh h
  obtain ⟨he, hz⟩ := entry_mem h
  obtain ⟨x, hx, hcore⟩ := mem_of_cores (hend.entries.trans (makeGeneral_entries fresh s z)) (mem_change (AlarmEntry.general s.uptime) he hz)
  obtain ⟨hxzone, -, -, hxstage, hxacked, -⟩ := core_fields hcore
  exact ⟨(congrArg PerfRecord.phase hend.perf).trans hphase, hend.relay.trans hrelay, x, hx, hxzone.trans hz, hxstage, hxacked⟩

theorem execAckWindowExpiry_due {s : State} {z d : Nat} {e : AlarmEntry} (hh : s.resetHeld = false) (h : s.alarm.entry z = some e)
    (hs : e.stage = .staffAlert d) (hd : d ≤ s.uptime) :
    exec (.ackWindowExpiry z) s = .next (settle (refreshPresented (makeGeneral false s z))) := by
  show execAckWindowExpiry z s = _
  rw [execAckWindowExpiry, command_next _ hh, h, Option.map_some, hs]
  dsimp only
  rw [if_pos hd]

theorem execInvestigationWindowExpiry_due {s : State} {z d : Nat} {e : AlarmEntry} (hh : s.resetHeld = false) (h : s.alarm.entry z = some e)
    (hs : e.stage = .investigating d) (hd : d ≤ s.uptime) :
    exec (.investigationWindowExpiry z) s = .next (settle (refreshPresented (makeGeneral false s z))) := by
  show execInvestigationWindowExpiry z s = _
  rw [execInvestigationWindowExpiry, command_next _ hh, h, Option.map_some, hs]
  dsimp only
  rw [if_pos hd]

/-- Settles O33: both windows make the entry GENERAL. -/
theorem windowExpiryBringsGeneral : Obligations.WindowExpiryBringsGeneral := fun _ _ _ _ hh h hd =>
  ⟨fun hs => ⟨_, execAckWindowExpiry_due hh h hs hd, settle_makeGeneral false h⟩,
    fun hs => ⟨_, execInvestigationWindowExpiry_due hh h hs hd, settle_makeGeneral false h⟩⟩

end Sys2Proof.Machine

namespace Sys2Proof.Laws

open Machine

/-- Settles O28: the entry changed in its place is still found at the end of the event. -/
theorem acknowledgeEntry : Obligations.AcknowledgeEntry := by
  intro s p tag e hh ho he hz
  obtain ⟨a, ha, hack⟩ := acknowledgeEntry_eq p e s
  have hend : Concludes a (settle (done p tag (Machine.acknowledgeEntry p e s))) := by rw [hack]; exact settle_done_concludes p tag a
  obtain ⟨hzone, hacked, hstage⟩ := acknowledgedAt_fields p (s.uptime + s.settings.zones.investigationWindow) e
  obtain ⟨x, hx, hcore⟩ := mem_of_cores (hend.entries.trans ha.entries) (mem_change _ (List.mem_of_find?_eq_some he) rfl)
  obtain ⟨hxzone, -, -, hxstage, hxacked, -⟩ := core_fields hcore
  exact ⟨_, execAcknowledge_presented hh ho he hz, settle_answered ho ((KeepsG.refl s).acknowledgeEntry p e |>.holds.intakes p),
    ⟨x, hx, hxzone.trans hzone, hxacked.trans hacked, hxstage.trans hstage⟩, hend.relay.trans ha.relay, hend.perf.trans ha.perf,
    hend.settings.trans ha.settings⟩

end Sys2Proof.Laws

/-! The loop resets that the Alarm Unit asks for: CANCEL (R55, R56) and RESET ALARMS (R67), with the claims taken by the Scanner (R31, R32). -/

namespace Sys2Proof.Machine

theorem Scans.alarm_perf {s t : State} (h : Scans s t) : t.alarm = s.alarm ∧ t.perf = s.perf := by
  obtain ⟨_, _, _, rfl⟩ := h
  exact ⟨rfl, rfl⟩

/-! ## A channel cut -/

/-- A Scanner without a record of the number is as it was. -/
theorem change_of_noRecord {u : Scanner} {n : Nat} (f : ChannelRecord → ChannelRecord) (h : u.record n = none) : u.change n f = u := by
  have hmap : u.channels.map (fun c => if c.num == n then f c else c) = u.channels :=
    (List.map_congr_left fun c hc => if_neg (List.find?_eq_none.1 h c hc)).trans (List.map_id _)
  rw [Scanner.change, hmap]

/-- R31: what cutting a channel makes of the Scanner: the record, and every claim as it was or waiting for the channel again. -/
theorem cutChannel_scanner (s : State) (n : Nat) : ∃ l, (l = s.scanner.claims ∨ l = s.scanner.claims.map (ResetClaim.await n)) ∧
    (cutChannel s n).scanner = { s.scanner.change n (ChannelRecord.cutOff s.uptime s.settings.channels.offTime) with claims := l } := by
  unfold cutChannel; split
  · rename_i hnone
    exact ⟨_, .inl rfl, by rw [change_of_noRecord _ hnone]⟩
  · dsimp only
    rw [changeNotice_scanner]
    split
    · exact ⟨_, .inr rfl, rfl⟩
    · exact ⟨_, .inl rfl, rfl⟩

theorem cutChannel_scans (s : State) (n : Nat) : Scans s (cutChannel s n) := by
  unfold cutChannel; split
  · exact .refl s
  · dsimp only; split
    · exact (((Scans.refl s).mapChannel _ _).mapScanner _).changeNotice _ _ _ _
    · exact ((Scans.refl s).mapChannel _ _).changeNotice _ _ _ _

theorem Spares.cutChannel {s0 s : State} (n : Nat) (h : Spares s0 s) : Spares s0 (Machine.cutChannel s n) := by
  unfold Machine.cutChannel; split
  · exact h
  · dsimp only; split
    · exact Spares.changeNotice _ _ _ _ (h.same rfl)
    · exact Spares.changeNotice _ _ _ _ (h.same rfl)

/-- R31: a channel cut has its supply off, and another keeps its own. -/
theorem cutChannel_supply (s : State) (n m : Nat) : ((cutChannel s n).scanner.record m).map ChannelRecord.supply =
    (s.scanner.record m).map fun c => if m = n then false else c.supply := by
  obtain ⟨l, -, e⟩ := cutChannel_scanner s n
  have hrecord : (cutChannel s n).scanner.record m = (s.scanner.record m).map fun c =>
      if m = n then c.cutOff s.uptime s.settings.channels.offTime else c := by
    rw [e]
    exact find_changed (f := ChannelRecord.cutOff s.uptime s.settings.channels.offTime) ChannelRecord.num (fun _ h => h) m s.scanner.channels
  rw [hrecord, Option.map_map]
  refine congrArg (Option.map · _) (funext fun c => ?_)
  simp only [Function.comp]; split <;> rfl

theorem foldl_cutChannel_supply (ns : List Nat) (m : Nat) : ∀ s : State, ((ns.foldl cutChannel s).scanner.record m).map ChannelRecord.supply =
    (s.scanner.record m).map fun c => if m ∈ ns then false else c.supply := by
  induction ns with
  | nil => intro s; simp only [List.foldl_nil, List.not_mem_nil, if_false]
  | cons n ns ih =>
    intro s
    have hn := cutChannel_supply s n m
    rw [List.foldl_cons, ih]
    by_cases hm : m ∈ ns
    · simp only [hm, List.mem_cons, or_true, if_true] at hn ⊢
      cases hr : s.scanner.record m <;> cases hc : (cutChannel s n).scanner.record m <;> simp [hr, hc] at hn ⊢
    · simp only [hm, List.mem_cons, or_false, if_false]
      exact hn

/-! ## A claim taken -/

theorem takeClaim_scans (p : ResetPurpose) (ns : List Nat) (s : State) : Scans s (takeClaim p ns s) := by
  unfold takeClaim
  exact (Scans.foldl cutChannel cutChannel_scans _ (.refl s)).mapScanner _

theorem Spares.takeClaim {s0 s : State} (p : ResetPurpose) (ns : List Nat) (h : Spares s0 s) : Spares s0 (Machine.takeClaim p ns s) := by
  unfold Machine.takeClaim
  exact (Spares.foldl Machine.cutChannel (fun _ _ n h => h.cutChannel n) _ h).mapScanner _

theorem takeClaim_supply (p : ResetPurpose) (ns : List Nat) (s : State) (m : Nat) :
    ((takeClaim p ns s).scanner.record m).map ChannelRecord.supply =
      (s.scanner.record m).map fun c => if m ∈ usedOf s.settings ns then false else c.supply :=
  foldl_cutChannel_supply _ m s

/-- R32: a claim list has no result to hand over exactly where each complete claim is set aside. -/
theorem results_nil_iff (u : Scanner) : u.results = [] ↔ ∀ k ∈ u.claims, k.complete = true → k.setAside = true := by
  simp [Scanner.results]

/-- R31: a claim that waits for a channel again is not complete by it. -/
theorem complete_of_await {n : Nat} {k : ResetClaim} (h : (k.await n).complete = true) : k.await n = k := by
  have hne : insertNum n k.outstanding ≠ [] := by
    cases k.outstanding with
    | nil => exact List.cons_ne_nil _ _
    | cons m l => unfold insertNum; split_ifs <;> exact List.cons_ne_nil _ _
  unfold ResetClaim.await at h ⊢
  split at h
  · exact absurd (List.isEmpty_iff.1 h) hne
  · rename_i hk; exact if_neg hk

theorem cutChannel_results {s : State} (n : Nat) (h : s.scanner.results = []) : (cutChannel s n).scanner.results = [] := by
  obtain ⟨l, hl, e⟩ := cutChannel_scanner s n
  rw [results_nil_iff] at h
  rw [e, results_nil_iff]
  show ∀ k ∈ l, _
  obtain rfl | rfl := hl
  · exact h
  · intro k hk hc
    obtain ⟨k', hk', rfl⟩ := List.mem_map.1 hk
    have hsame := complete_of_await hc
    rw [hsame] at hc ⊢
    exact h k' hk' hc

theorem foldl_cutChannel_results (ns : List Nat) : ∀ {s : State}, s.scanner.results = [] → (ns.foldl cutChannel s).scanner.results = [] := by
  induction ns with
  | nil => exact id
  | cons n ns ih => exact fun h => ih (cutChannel_results n h)

/-- R32: a claim with a channel in use waits for it, so taking it completes none. -/
theorem takeClaim_results {s : State} (p : ResetPurpose) {ns : List Nat} (h : s.scanner.results = []) (hu : usedOf s.settings ns ≠ []) :
    (takeClaim p ns s).scanner.results = [] := by
  have hold := (results_nil_iff _).1 (foldl_cutChannel_results (usedOf s.settings ns) h)
  rw [results_nil_iff]
  intro k hk hc
  obtain hk | hk := List.mem_append.1 hk
  · exact hold k hk hc
  · rw [List.mem_singleton.1 hk] at hc
    exact absurd (List.isEmpty_iff.1 hc) hu

/-- R32: with no result to hand over the complete claims, which are set aside, are dropped. -/
theorem handResults_none {s : State} (h : s.scanner.results = []) : handResults s = mapScanner Scanner.dropComplete s := by
  unfold handResults handReports
  rw [h]; split
  · rfl
  · simp only [List.append_nil]; rfl

/-- R31, R55, R67: a loop reset with a channel in use is a claim that the Scanner has taken, and no more. -/
theorem claimReset_used {s : State} (p : ResetPurpose) {ns : List Nat} (h : s.scanner.results = []) (hu : usedOf s.settings ns ≠ []) :
    claimReset p ns s = mapScanner Scanner.dropComplete (takeClaim p ns s) := by
  have hne : ns ≠ [] := by rintro rfl; exact hu rfl
  rw [claimReset, if_neg hne, handResults_none (takeClaim_results p h hu)]

/-! ## CANCEL -/

/-- R55, R56: the entry moved to STANDING_DOWN, with the rest that its stand-down leaves. -/
theorem beginStandDown_scans {s : State} {e : AlarmEntry} (h : s.scanner.results = [])
    (hu : usedOf s.settings (standDownChannels s.settings e) ≠ []) :
    Scans (mapAlarm (fun u => u.change e.zone (fun x => { x with stage := .standingDown })) s) (beginStandDown e s) := by
  rw [beginStandDown, claimReset_used (s := mapAlarm _ s) _ h hu]
  exact (takeClaim_scans ..).mapScanner _

/-- R55: CANCEL of an entry, by its stage. -/
def cancelByStage (p : Port) (tag : Tag) (e : AlarmEntry) (s : State) : State :=
  match e.stage with
  | .staffAlert _ => refuse p tag .notAcknowledged s
  | .investigating _ => done p tag (refreshPresented (beginStandDown e s))
  | .standingDown => done p tag s
  | .general _ => refuse p tag .tooLate s

theorem execCancel_owned {s : State} {p : Port} {tag : Tag} {z : Nat} {e : AlarmEntry} (hh : s.resetHeld = false)
    (ho : s.owns p tag .cancel = true) (h1 : 1 ≤ z) (h12 : z ≤ 12) (he : s.alarm.entry z = some e) :
    exec (.cancel p tag z) s = .next (settle (cancelByStage p tag e s)) := by
  have hz : ¬ (z = 0 ∨ 12 < z) := by omega
  show execCancel p tag z s = _
  rw [execCancel, request_owned _ hh ho, if_neg hz, he]; rfl

/-- Settles O29, by the stage of the entry. -/
theorem cancelEntry : Obligations.CancelEntry := by
  intro s p tag z e h1 h12 he ho
  refine ⟨fun hh d hd hu hres => ?_, fun h d hd => ?_, fun h d hd => ?_, fun h hd => ?_⟩
  · have hexec := execCancel_owned hh ho h1 h12 he
    rw [cancelByStage, hd] at hexec
    obtain ⟨hmem, rfl⟩ := entry_mem he
    have hend := settle_done_concludes p tag (beginStandDown e s)
    have hintakes := (KeepsG.lift (Keeps.refl _).refreshPresented ((KeepsG.refl s).beginStandDown e)).holds.intakes p
    obtain ⟨halarm, hperf⟩ := (beginStandDown_scans hres hu).alarm_perf
    have hentries := hend.entries
    rw [halarm] at hentries
    obtain ⟨x, hx, hcore⟩ := mem_of_cores hentries (mem_change (fun x => { x with stage := .standingDown }) hmem rfl)
    obtain ⟨hxzone, -, -, hxstage, -⟩ := core_fields hcore
    exact ⟨_, hexec, settle_answered ho hintakes, ⟨x, hx, hxzone, hxstage⟩, by rw [hend.relay, halarm]; rfl, hend.perf.trans hperf⟩
  all_goals
    rw [execCancel_owned h.1 ho h1 h12 he, cancelByStage, hd]
    exact congrArg _ (settle_reply p tag _ h.2)

/-! ## RESET ALARMS -/

/-- R43: a channel of a zone is in use. -/
theorem used_of_mem_channelsOf {v : Settings} {m z : Nat} (hn : (v.channels.channels.map (·.num)).Nodup) (h : m ∈ v.channelsOf z) :
    (v.channel m).type ≠ .notUsed := by
  obtain ⟨c, hc, rfl⟩ := List.mem_map.1 h
  obtain ⟨hmem, hused⟩ := List.mem_filter.1 hc
  rw [channel_of_mem hn hmem]
  simp only [Bool.and_eq_true, bne_iff_ne] at hused
  exact hused.2

/-- R67: an alarm reset names channels in use alone. -/
theorem usedOf_resetChannels {s : State} (hn : (s.settings.channels.channels.map (·.num)).Nodup) :
    usedOf s.settings (resetChannels s) = resetChannels s := by
  refine List.filter_eq_self.2 fun n h => bne_iff_ne.2 ?_
  obtain ⟨e, -, hw⟩ := List.any_eq_true.1 (List.mem_filter.1 h).2
  have hz : n ∈ s.settings.channelsOf e.zone := List.mem_of_mem_filter (List.contains_iff_mem.1 hw)
  exact used_of_mem_channelsOf hn hz

/-- R67: a reset in progress, as it is begun. -/
def State.resettingAlarms (s : State) : State := mapAlarm (fun u => { u with resetting := some ⟨resetChannels s, false⟩ }) s

/-- R67: a reset with channels in use is the claim of the loop reset that the Scanner has taken. -/
theorem beginReset_used {s : State} (hn : (s.settings.channels.channels.map (·.num)).Nodup) (h : s.scanner.results = []) (hne : resetChannels s ≠ []) :
    beginReset s = refreshPresented (mapScanner Scanner.dropComplete (takeClaim .alarmReset (resetChannels s) s.resettingAlarms)) := by
  have hu : usedOf s.resettingAlarms.settings (resetChannels s) ≠ [] := by
    show usedOf s.settings _ ≠ []
    rwa [usedOf_resetChannels hn]
  exact congrArg refreshPresented (claimReset_used (s := s.resettingAlarms) .alarmReset h hu)

/-- R67: a reset begun, and the end of its event. -/
structure BeginsReset (s t : State) : Prop where
  resetting : t.alarm.resetting = some ⟨resetChannels s, false⟩
  entries : t.alarm.entries.map AlarmEntry.core = s.alarm.entries.map AlarmEntry.core
  relay : t.alarm.relay = s.alarm.relay
  perf : t.perf = s.perf
  supply : ∀ n, n ∈ resetChannels s → (s.scanner.record n).isSome = true → (t.scanner.record n).map ChannelRecord.supply = some false
  queues : ∀ p, (s.port p).queue <+: (t.port p).queue

theorem settle_beginReset {s : State} (hn : (s.settings.channels.channels.map (·.num)).Nodup) (h : s.scanner.results = [])
    (hne : resetChannels s ≠ []) : BeginsReset s (settle (beginReset s)) := by
  rw [beginReset_used hn h hne]
  have hend := settle_refreshed_concludes (mapScanner Scanner.dropComplete (takeClaim .alarmReset (resetChannels s) s.resettingAlarms))
  obtain ⟨halarm, hperf⟩ := ((takeClaim_scans .alarmReset (resetChannels s) s.resettingAlarms).mapScanner Scanner.dropComplete).alarm_perf
  have hbegun : Spares s s.resettingAlarms := (Spares.refl s).same rfl
  refine ⟨by rw [hend.resetting, halarm]; rfl, by rw [hend.entries, halarm]; rfl, by rw [hend.relay, halarm]; rfl, hend.perf.trans hperf,
    fun n hr hsome => ?_, ((hbegun.takeClaim _ _).mapScanner _).refreshPresented.settle.queues⟩
  have hcut : n ∈ usedOf s.resettingAlarms.settings (resetChannels s) := (usedOf_resetChannels hn).symm ▸ hr
  have hsupply := takeClaim_supply .alarmReset (resetChannels s) s.resettingAlarms n
  obtain ⟨c, hc⟩ := Option.isSome_iff_exists.1 hsome
  have hc' : s.resettingAlarms.scanner.record n = some c := hc
  rw [hc', Option.map_some, if_pos hcut] at hsupply
  rw [Scanner.record, hend.channels]
  exact hsupply

theorem gateReset_acked {s : State} (h : s.alarm.resetting = none) (ha : s.alarm.entries.all (·.acked.isSome) = true) : gateReset s = none := by
  have hany : s.alarm.entries.any (·.acked.isNone) = false := by
    rw [List.any_eq_false]
    intro e he hnone
    have := List.all_eq_true.1 ha e he
    rw [Option.isNone_iff_eq_none.1 hnone] at this
    exact Bool.false_ne_true this
  rw [gateReset, h, hany]; rfl

/-- R67: RESET ALARMS of an acknowledged list. -/
theorem execResetAlarms_acked {s : State} {tag : Tag} (hh : s.resetHeld = false) (ho : s.owns .stage tag .resetAlarms = true)
    (h : s.alarm.resetting = none) (ha : s.alarm.entries.all (·.acked.isSome) = true) : exec (.resetAlarms .stage tag) s =
      .next (settle (if s.alarm.entries = [] then done .stage tag s else beginReset (accept .stage tag s))) := by
  show execResetAlarms .stage tag s = _
  rw [execResetAlarms, request_owned _ hh ho, gateReset_acked h ha]; rfl

/-- Settles O32: the acceptance is queued before the claim that cuts the loops. -/
theorem resetAlarmsBegins : Obligations.ResetAlarmsBegins := by
  intro s tag h ho hr ha hn
  have hexec := execResetAlarms_acked h.1 ho hr ha
  refine ⟨fun hne hch hres hsome => ?_, fun he => ?_⟩
  · rw [if_neg hne] at hexec
    have hbegin := settle_beginReset (s := accept .stage tag s) hn hres hch
    refine ⟨_, hexec, ?_, hbegin.resetting, ?_, hbegin.relay, fun n hc => hbegin.supply n hc (hsome n hc), hbegin.perf⟩
    · exact (hbegin.queues .stage).subset (reply_mem .stage tag .accepted s (owes_of_owns ho))
    · have := congrArg (List.map AlarmEntry.stage) hbegin.entries
      rwa [List.map_map, List.map_map] at this
  · rw [hexec, if_pos he]
    exact congrArg _ (settle_reply .stage tag _ h.2)

end Sys2Proof.Machine

/-! The SAFETY claims on the lamp channels (R105, R109): what leaves them, and what the entry to EVACUATION makes of them. -/

namespace Sys2Proof.Machine

/-! ## The SAFETY claims -/

/-- A lamp channel's number with its SAFETY claim. -/
def Lamp.secured (l : Lamp) : Nat × Option LevelClaim := (l.num, l.safety)

/-- The SAFETY claims of the lamp channels, by number. -/
def Light.secured (u : Light) : List (Nat × Option LevelClaim) := u.lamps.map Lamp.secured

/-- One record for each lamp channel (R101). -/
def Light.numbered (u : Light) : Prop := (u.lamps.map Lamp.num).Nodup

theorem secured_fst (u : Light) : u.secured.map Prod.fst = u.lamps.map Lamp.num := by rw [Light.secured, List.map_map]; rfl

theorem numbered_of_fst {u v : Light} (h : v.secured.map Prod.fst = u.secured.map Prod.fst) (hn : u.numbered) : v.numbered := by
  rw [secured_fst, secured_fst] at h
  exact (congrArg List.Nodup h).mpr hn

theorem numbered_of_secured {u v : Light} (h : v.secured = u.secured) (hn : u.numbered) : v.numbered :=
  numbered_of_fst (congrArg _ h) hn

/-- R105: the lamp channels keep their SAFETY claims. -/
def SparesSafety (s t : State) : Prop := s.light.numbered → t.light.secured = s.light.secured

theorem SparesSafety.refl (s : State) : SparesSafety s s := fun _ => rfl

theorem SparesSafety.trans {a b c : State} (h : SparesSafety a b) (k : SparesSafety b c) : SparesSafety a c :=
  fun hn => (k (numbered_of_secured (h hn) hn)).trans (h hn)

/-- What leaves the claims that no flash touches leaves the SAFETY claims. -/
theorem sparesSafety_of_claims {s t : State}
    (h : (s.light.lamps.map Lamp.num).Nodup → t.light.lamps.map Lamp.claims = s.light.lamps.map Lamp.claims) : SparesSafety s t := fun hn => by
  have := congrArg (List.map fun c : Nat × Option LevelClaim × Option LevelClaim × Option LevelClaim => (c.1, c.2.1)) (h hn)
  rwa [List.map_map, List.map_map] at this

theorem Leaves.sparesSafety {s t : State} (h : Leaves s t) : SparesSafety s t := sparesSafety_of_claims h.claims

/-! ## Claims changed -/

/-- A change of one channel's record, as its SAFETY claim shows it. -/
theorem changeLamp_secured (n : Nat) (g : Lamp → Lamp) (f : Field) (hn : f.light.numbered) : (f.changeLamp n g).light.secured =
    f.light.lamps.map fun l => if l.num = n then (l.num, (g l).safety) else l.secured := by
  unfold Field.changeLamp; split
  · rename_i hnone
    refine List.map_congr_left fun l hl => (if_neg fun e => ?_).symm
    exact List.find?_eq_none.1 hnone l hl (beq_iff_eq.2 e)
  · rename_i l hl
    have hnum : l.num = n := by simpa using List.find?_some hl
    have hput : (f.light.putLamp { g l with num := l.num }).secured =
        f.light.lamps.map fun x => if x.num = n then (x.num, (g x).safety) else x.secured := by
      rw [Light.secured, Light.putLamp, List.map_map]
      refine List.map_congr_left fun x hx => ?_
      by_cases hxn : x.num = n
      · obtain rfl : x = l := List.inj_on_of_nodup_map hn hx (List.mem_of_find?_eq_some hl) (hxn.trans hnum.symm)
        simp [hnum, Lamp.secured]
      · simp [hnum, hxn]
    dsimp only; split
    · rw [Light.secured, judgeLamp_lamps]; exact hput
    · exact hput

/-- Changes of several channels that make of each SAFETY claim what `c` gives, which a further change would not alter. -/
theorem changeLamps_secured {g : Nat → Lamp → Lamp} {c : Nat → Option LevelClaim → Option LevelClaim}
    (hg : ∀ n l, l.num = n → (g n l).safety = c n l.safety) (hc : ∀ n x, c n (c n x) = c n x) (ns : List Nat) :
    ∀ f : Field, f.light.numbered → (f.changeLamps ns g).light.secured =
      f.light.secured.map fun p => if p.1 ∈ ns then (p.1, c p.1 p.2) else p := by
  unfold Field.changeLamps
  induction ns with
  | nil => intro f _; simp
  | cons n ns ih =>
    intro f hn
    have hone : (f.changeLamp n (g n)).light.secured = f.light.secured.map fun p => if p.1 = n then (p.1, c p.1 p.2) else p := by
      rw [changeLamp_secured n _ f hn, Light.secured, List.map_map]
      refine List.map_congr_left fun l _ => ?_
      by_cases hl : l.num = n
      · simp [Lamp.secured, hl, hg n l hl]
      · simp [Lamp.secured, hl]
    have hn' : (f.changeLamp n (g n)).light.numbered := by
      unfold Light.numbered
      rw [changeLamp_nums]; exact hn
    rw [List.foldl_cons, ih _ hn', hone, List.map_map]
    refine List.map_congr_left fun p _ => ?_
    by_cases hp : p.1 = n
    · by_cases hm : n ∈ ns <;> simp [hp, hm, hc]
    · by_cases hm : p.1 ∈ ns <;> simp [hp, hm]

/-- R104, R107: claim changes that leave the SAFETY claim of every channel. -/
theorem claim_sparesSafety (ns : List Nat) {g : Lamp → Lamp} (release : Lamp → Nat) (hg : ∀ l, (g l).safety = l.safety) (s : State) :
    SparesSafety s (onField (Field.claim ns g release) s) := fun hn => by
  refine (changeLamps_secured (c := fun _ x => x) (fun n l _ => ((retarget_claims ..).1).trans (hg l)) (fun _ _ => rfl) ns
    ⟨s.settings, s.light, s.loop⟩ hn).trans ?_
  simp

theorem cued_safety (v : Preset) (l : Lamp) : (l.cued v).safety = l.safety := by unfold Lamp.cued; split <;> rfl

/-- R109: a phase entry neither from EVACUATION nor to it. -/
theorem enterPhase_sparesSafety {new previous : Phase} (hn : new ≠ .evacuation) (hp : previous ≠ .evacuation) (b : Bool) (s : State) :
    SparesSafety s (onField (Field.enterPhase new previous b) s) := by
  refine claim_sparesSafety _ _ (fun l => ?_) s
  unfold Lamp.enterPhase
  rw [if_neg hp, if_neg hn]
  dsimp only
  split
  · rw [cued_safety]; split <;> rfl
  · split <;> rfl

/-- R105: the SAFETY claim that the entry to EVACUATION gives a lamp channel. -/
def Settings.panicClaim (v : Settings) (n : Nat) (x : Option LevelClaim) : Option LevelClaim :=
  if (v.lamp n).role = .house ∨ (v.lamp n).role = .working then some ⟨100, v.lights.panicFade⟩ else x

/-- R105, R109: the entry to EVACUATION from another phase. -/
theorem enterEvacuation_secured {previous : Phase} (hp : previous ≠ .evacuation) (b : Bool) (s : State) (hn : s.light.numbered) :
    (onField (Field.enterPhase .evacuation previous b) s).light.secured =
      s.light.secured.map fun p => (p.1, s.settings.panicClaim p.1 p.2) := by
  have hentry : ∀ n l, l.num = n → (Lamp.enterPhase s.settings .evacuation previous b l).safety = s.settings.panicClaim n l.safety := by
    rintro n l rfl
    unfold Lamp.enterPhase Settings.panicClaim
    rw [if_neg hp, if_pos rfl]
    cases (s.settings.lamp l.num).role <;> cases b <;> rfl
  have hidem : ∀ n x, s.settings.panicClaim n (s.settings.panicClaim n x) = s.settings.panicClaim n x := fun n x => by
    unfold Settings.panicClaim; split <;> rfl
  refine (changeLamps_secured (c := s.settings.panicClaim) (fun n l hl => ((retarget_claims ..).1).trans (hentry n l hl)) hidem _
    ⟨s.settings, s.light, s.loop⟩ hn).trans (List.map_congr_left fun p hmem => if_pos ?_)
  obtain ⟨l, hl, rfl⟩ := List.mem_map.1 hmem
  exact List.mem_map_of_mem hl

end Sys2Proof.Machine

/-! EVACUATE (R66): the SAFETY claims through the hand-offs of a general alarm (R58), and every entry at GENERAL. -/

namespace Sys2Proof.Machine

/-! ## The SAFETY claims in the hand-offs of an alarm -/

section
variable {s0 s : State}

/-- A change of nothing of the Light Engine. -/
theorem SparesSafety.same {t : State} (h : SparesSafety s0 s) (e : t.light = s.light) : SparesSafety s0 t :=
  h.trans fun _ => congrArg Light.secured e

theorem SparesSafety.leaves {t : State} (h : SparesSafety s0 s) (k : Leaves s t) : SparesSafety s0 t := h.trans k.sparesSafety

theorem SparesSafety.mapCurtain (f : Curtain → Curtain) (h : SparesSafety s0 s) : SparesSafety s0 (Machine.mapCurtain f s) := h.same rfl

theorem SparesSafety.curtainNotice (n : Notice) (h : SparesSafety s0 s) : SparesSafety s0 (Machine.curtainNotice n s) :=
  h.leaves ((Leaves.refl s).notify _ _)

theorem SparesSafety.raiseCurtainFault (k : FaultKind) (h : SparesSafety s0 s) : SparesSafety s0 (Machine.raiseCurtainFault k s) := by
  unfold Machine.raiseCurtainFault
  obtain ⟨u, q, e⟩ := raiseFault_eq .curtain k (Machine.mapCurtain (fun c => { c with faultsHeld := insertKind k c.faultsHeld }) s)
  rw [e]
  exact h.same rfl

/-- R11: the departure of the curtain enters SHOW_STOP from SHOW. -/
theorem SparesSafety.curtainDeparture (h : SparesSafety s0 s) : SparesSafety s0 (Machine.curtainDeparture s) := by
  unfold Machine.curtainDeparture; split
  · have hr : SparesSafety s0 { s with perf := s.perf.after (s.perf.plainChange .showStop .curtain) s.uptime } := h.same rfl
    exact (hr.leaves (enterRecord_leaves _ s)).trans (enterPhase_sparesSafety (by decide) (by decide) _ _)
  · exact h

/-- R106: the flash claims placed on channels or removed from them. -/
theorem SparesSafety.flash (ns : List Nat) (b : Bool) (h : SparesSafety s0 s) :
    SparesSafety s0 (onField (Field.claim ns (fun l => { l with curtain := b }) fun _ => 0) s) :=
  h.trans (claim_sparesSafety ns (g := fun l => { l with curtain := b }) _ (fun _ => rfl) s)

theorem SparesSafety.judgeWarning (new previous : CurtainState) (h : SparesSafety s0 s) : SparesSafety s0 (Machine.judgeWarning new previous s) := by
  unfold Machine.judgeWarning
  split
  · exact (h.mapCurtain _).flash _ true
  split
  · exact (h.flash _ false).mapCurtain _
  · exact h

theorem SparesSafety.shiftCurtain (new : CurtainState) (h : SparesSafety s0 s) : SparesSafety s0 (Machine.shiftCurtain new s) := by
  unfold Machine.shiftCurtain; dsimp only
  refine SparesSafety.judgeWarning _ _ ?_
  split
  · exact (h.mapCurtain _).curtainDeparture
  · exact h.mapCurtain _

theorem SparesSafety.enterCurtain (new : CurtainState) (cause : CurtainCause) {mid : State → State} (h : SparesSafety s0 s)
    (hmid : ∀ u : State, SparesSafety u (mid u)) : SparesSafety s0 (Machine.enterCurtain new cause mid s) := by
  unfold Machine.enterCurtain; dsimp only; split
  · exact h
  · exact ((h.shiftCurtain new).trans (hmid _)).curtainNotice _

theorem SparesSafety.abandonDisplay (r : AbandonReason) (h : SparesSafety s0 s) : SparesSafety s0 (Machine.abandonDisplay r s) := by
  unfold Machine.abandonDisplay; split
  · exact h
  · dsimp only
    refine SparesSafety.curtainNotice _ ?_
    split
    · exact (h.mapCurtain _).leaves ((Leaves.refl _).withdrawInternal _ _)
    · exact h.mapCurtain _

theorem SparesSafety.idleTimer (n : Notice) (h : SparesSafety s0 s) : SparesSafety s0 (Machine.idleTimer n s) := by
  unfold Machine.idleTimer; split
  · exact h
  · exact (h.mapCurtain _).curtainNotice _

theorem SparesSafety.dropTimer (cause : DropCause) (h : SparesSafety s0 s) : SparesSafety s0 (Machine.dropTimer cause s) := by
  unfold Machine.dropTimer
  cases cause with
  | release | graceEnd => exact h.mapCurtain _
  | emergency | test | startUp => exact h.idleTimer _

theorem SparesSafety.beginDrop (cause : DropCause) {faults : State → State} (h : SparesSafety s0 s) (hf : ∀ u : State, SparesSafety u (faults u)) :
    SparesSafety s0 (Machine.beginDrop cause faults s) := by
  unfold Machine.beginDrop; split
  · exact h.idleTimer _
  · exact h.enterCurtain _ _ fun u => ((((SparesSafety.refl u).mapCurtain _).trans (hf _)).dropTimer _).abandonDisplay _

theorem SparesSafety.endGrace (h : SparesSafety s0 s) : SparesSafety s0 (Machine.endGrace s) :=
  h.beginDrop _ fun u => (SparesSafety.refl u).raiseCurtainFault _

theorem SparesSafety.expireRelease (h : SparesSafety s0 s) : SparesSafety s0 (Machine.expireRelease s) := by
  have hn := h.curtainNotice (.releaseExpired s.lines.obstructed)
  unfold Machine.expireRelease; dsimp only
  split_ifs
  · exact hn.idleTimer _
  · exact (hn.mapCurtain _).endGrace
  · exact hn.mapCurtain _
  · exact hn.beginDrop _ SparesSafety.refl

theorem SparesSafety.startRelease (zone : Nat) (h : SparesSafety s0 s) : SparesSafety s0 (Machine.startRelease zone s) := by
  have ht : SparesSafety s0 (startTimer zone s) := (h.mapCurtain _).curtainNotice _
  unfold Machine.startRelease expireAtOnce; split
  · exact ht.expireRelease
  · exact ht

theorem SparesSafety.curtainTrigger (zone : Nat) (h : SparesSafety s0 s) : SparesSafety s0 (Machine.curtainTrigger zone s) := by
  have ha := h.abandonDisplay .alarm
  unfold Machine.curtainTrigger; dsimp only
  split_ifs
  · exact ha.curtainNotice _
  · exact ha
  · exact ha.startRelease _
  · exact ha

theorem SparesSafety.soundStep (fresh : Bool) (h : SparesSafety s0 s) : SparesSafety s0 (Machine.soundStep fresh s) := by
  have hs : SparesSafety s0 (Machine.soundAlarm s) := by
    unfold Machine.soundAlarm; dsimp only; split
    · exact h.same rfl
    · refine SparesSafety.leaves (s := mapAlarm _ (mapAlarm _ s)) (h.same rfl) (Leaves.refl _).placeEvac
  unfold Machine.soundStep; split
  · exact h
  all_goals exact hs

end

/-! ## The entry to EVACUATION -/

/-- The SAFETY claims that the entry to EVACUATION gives the lamp channels. -/
def State.panicked (s : State) : List (Nat × Option LevelClaim) := s.light.secured.map fun p => (p.1, s.settings.panicClaim p.1 p.2)

theorem panicked_fst (s : State) : s.panicked.map Prod.fst = s.light.secured.map Prod.fst := by rw [State.panicked, List.map_map]; rfl

/-- R13, R105, R109: the house evacuated: the phase is EVACUATION, and where that is an entry to it, the lamp channels have the SAFETY claims
of the entry. -/
structure Evacuates (s t : State) : Prop where
  phase : t.perf.phase = .evacuation
  settings : t.settings = s.settings
  secured : s.light.numbered → t.light.secured = if s.perf.phase = .evacuation then s.light.secured else s.panicked

theorem Evacuates.numbered {s t : State} (h : Evacuates s t) (hn : s.light.numbered) : t.light.numbered := by
  refine numbered_of_fst ?_ hn
  rw [h.secured hn]; split
  · rfl
  · exact panicked_fst s

/-- What follows the entry to EVACUATION and leaves the SAFETY claims. -/
theorem Evacuates.spares {a b c : State} (h : Evacuates a b) (hp : c.perf.phase = .evacuation) (hset : c.settings = b.settings)
    (k : SparesSafety b c) : Evacuates a c :=
  ⟨hp, hset.trans h.settings, fun hn => (k (h.numbered hn)).trans (h.secured hn)⟩

/-- R13: a house evacuated is not entered again. -/
theorem Evacuates.trans {a b c : State} (h : Evacuates a b) (k : Evacuates b c) : Evacuates a c :=
  h.spares k.phase k.settings fun hn => by rw [k.secured hn, if_pos h.phase]

/-- R105, R109: the change of phase from another phase to EVACUATION. -/
theorem changePhase_panicked {c : PhaseChange} {s : State} (hc : c.target = .evacuation) (hp : s.perf.phase ≠ .evacuation)
    (hn : s.light.numbered) : (changePhase c s).light.secured = s.panicked := by
  obtain ⟨a, h, k⟩ := changePhase_leaves c s
  rw [hc] at k
  have ha : a.light.secured = s.light.secured := h.sparesSafety hn
  have hentered : (onField (Field.enterPhase .evacuation s.perf.phase c.clearsManual) a).light.secured = s.panicked := by
    rw [enterEvacuation_secured hp _ a (numbered_of_secured ha hn), ha, h.settings]; rfl
  exact (k.sparesSafety (numbered_of_fst ((congrArg _ hentered).trans (panicked_fst s)) hn)).trans hentered

theorem claimEvacuation_evacuates (s : State) : Evacuates s (claimEvacuation s) := by
  refine ⟨claimEvacuation_phase s, (scanned_fields (claimEvacuation_scanned s)).1, fun hn => ?_⟩
  unfold claimEvacuation
  split
  · rfl
  · rename_i hp
    exact changePhase_panicked rfl hp hn

/-- R58: the hand-offs of an entry evacuate the house. -/
theorem generalHandOffs_evacuates (e : AlarmEntry) (fresh : Bool) (s : State) : Evacuates s (generalHandOffs e fresh s) := by
  have hsettings : (generalHandOffs e fresh s).settings = (claimEvacuation s).settings := by
    rw [(scanned_fields (generalHandOffs_scanned s e fresh)).1, (scanned_fields (claimEvacuation_scanned s)).1]
  refine (claimEvacuation_evacuates s).spares (generalHandOffs_holds e fresh s).2.1 hsettings ?_
  have hstaff : SparesSafety (claimEvacuation s) (mapAlarm (fun u => { u with relay := true }) (withdrawStaff e (claimEvacuation s))) :=
    ((Leaves.refl _).withdrawStaff e).sparesSafety.same rfl
  unfold generalHandOffs; dsimp only; split
  · exact (hstaff.soundStep fresh).curtainTrigger _
  · exact hstaff.soundStep fresh

theorem makeGeneral_evacuates {s : State} {z : Nat} {e : AlarmEntry} (fresh : Bool) (h : s.alarm.entry z = some e) :
    Evacuates s (makeGeneral fresh s z) := by
  obtain ⟨hp, hset, hsec⟩ := generalHandOffs_evacuates e fresh (disturb (mapAlarm (fun u => u.change z (AlarmEntry.general s.uptime)) s))
  rw [makeGeneral, h]
  exact ⟨hp, hset, hsec⟩

/-- R66: once the house is evacuated, the other entries made GENERAL leave it so. -/
theorem Evacuates.makeGenerals (fresh : Bool) (l : List Nat) : ∀ {s0 s : State}, Evacuates s0 s → Evacuates s0 (l.foldl (makeGeneral fresh) s) := by
  induction l with
  | nil => exact id
  | cons z l ih =>
    intro s0 s h
    refine ih ?_
    cases he : s.alarm.entry z with
    | none => rw [makeGeneral, he]; exact h
    | some e => exact h.trans (makeGeneral_evacuates fresh he)

/-! ## EVACUATE -/

/-- An alarm list with an entry, whose entries are at GENERAL but for those of some zones. -/
def AlarmUnit.GeneralBut (l : List Nat) (u : AlarmUnit) : Prop := u.entries ≠ [] ∧ ∀ e ∈ u.entries, e.isGeneral = true ∨ e.zone ∈ l

theorem AlarmUnit.GeneralBut.of_cores {l : List Nat} {u v : AlarmUnit} (h : u.GeneralBut l)
    (e : v.entries.map AlarmEntry.core = u.entries.map AlarmEntry.core) : v.GeneralBut l := by
  obtain ⟨hne, hall⟩ := h
  refine ⟨fun hv => hne ?_, fun x hx => ?_⟩
  · rw [hv] at e
    exact List.map_eq_nil_iff.1 e.symm
  · obtain ⟨y, hy, hcore⟩ := mem_of_cores e.symm hx
    obtain ⟨hzone, -, -, hstage, -⟩ := core_fields hcore
    have := hall y hy
    rwa [AlarmEntry.isGeneral, hstage, hzone] at this

/-- R58: the entries of a zone made GENERAL. -/
theorem AlarmUnit.GeneralBut.change {z : Nat} {l : List Nat} {u : AlarmUnit} (now : Nat) (h : u.GeneralBut (z :: l)) :
    (u.change z (AlarmEntry.general now)).GeneralBut l := by
  obtain ⟨hne, hall⟩ := h
  refine ⟨fun hv => hne (List.map_eq_nil_iff.1 hv), fun x hx => ?_⟩
  obtain ⟨e, he, rfl⟩ := List.mem_map.1 hx
  by_cases hz : e.zone = z
  · rw [if_pos (beq_iff_eq.2 hz)]; exact .inl rfl
  · rw [if_neg (fun hb => hz (beq_iff_eq.1 hb))]
    exact (hall e he).imp_right fun hm => (List.mem_cons.1 hm).resolve_left hz

theorem AlarmUnit.GeneralBut.anyGeneral {s : State} (h : s.alarm.GeneralBut []) : s.anyGeneral = true := by
  obtain ⟨hne, hall⟩ := h
  obtain ⟨e, he⟩ := List.exists_mem_of_ne_nil _ hne
  exact List.any_eq_true.2 ⟨e, he, (hall e he).resolve_right List.not_mem_nil⟩

theorem foldl_makeGeneral_general (fresh : Bool) (l : List Nat) : ∀ {s : State}, s.alarm.GeneralBut l →
    (l.foldl (makeGeneral fresh) s).alarm.GeneralBut [] := by
  induction l with
  | nil => exact id
  | cons z l ih => exact fun {s} h => ih ((h.change s.uptime).of_cores (makeGeneral_entries fresh s z))

theorem generalBut_notGeneral {u : AlarmUnit} (h : u.entries ≠ []) : u.GeneralBut u.notGeneral := by
  refine ⟨h, fun e he => ?_⟩
  by_cases hg : e.isGeneral = true
  · exact .inl hg
  · exact .inr (List.mem_map.2 ⟨e, List.mem_filter.2 ⟨he, by simpa using hg⟩, rfl⟩)

/-- What EVACUATE makes of the alarm list and the house (R66). -/
structure EvacuatesHouse (s t : State) : Prop where
  general : t.alarm.GeneralBut []
  evacuates : Evacuates s t

/-- R66: the entry that EVACUATE makes in an empty list. -/
def State.houseEntry (s : State) : AlarmEntry := ⟨0, none, [], .general s.uptime, none, s.uptime, none⟩

/-- R66: EVACUATE of an empty list. -/
theorem newGeneral_evacuates {s : State} (h : s.alarm.entries = []) : EvacuatesHouse s (newGeneral 0 none s) := by
  have hold : s.alarm.notGeneral = [] := by rw [AlarmUnit.notGeneral, h]; rfl
  have hnew : newGeneral 0 none s = generalHandOffs s.houseEntry true
      (abortStore 0 (disturb (mapAlarm (fun u => { u with entries := u.entries ++ [s.houseEntry] }) s))) := by
    rw [newGeneral, hold]; rfl
  obtain ⟨u, q, ha⟩ := abortStore_eq 0 (disturb (mapAlarm (fun u => { u with entries := u.entries ++ [s.houseEntry] }) s))
  rw [hnew, ha]
  obtain ⟨hp, hset, hsec⟩ := generalHandOffs_evacuates s.houseEntry true _
  refine ⟨.of_cores ⟨?_, fun e he => .inl ?_⟩ ((Spares.refl _).generalHandOffs _ true).entries, ⟨hp, hset, hsec⟩⟩
  · exact List.append_ne_nil_of_right_ne_nil _ (List.cons_ne_nil _ _)
  · have he' : e ∈ s.alarm.entries ++ [s.houseEntry] := he
    rw [h, List.nil_append, List.mem_singleton] at he'
    rw [he']; rfl

/-- R13, R59: where no entry is left to make GENERAL, the house is evacuated. -/
theorem phase_of_notGeneral_nil {s : State} (hs : s.generalSafe) (hne : s.alarm.entries ≠ []) (h : s.alarm.notGeneral = []) :
    s.perf.phase = .evacuation := by
  have hg := generalBut_notGeneral hne
  rw [h] at hg
  exact (hs hg.anyGeneral).1

/-- R66: every entry not at GENERAL made so. -/
theorem makeGenerals_evacuate {s : State} (hs : s.generalSafe) (hne : s.alarm.entries ≠ []) :
    Evacuates s (s.alarm.notGeneral.foldl (makeGeneral true) s) := by
  cases hl : s.alarm.notGeneral with
  | nil =>
    have hp := phase_of_notGeneral_nil hs hne hl
    exact ⟨hp, rfl, fun _ => (if_pos hp).symm⟩
  | cons z l =>
    have hz : z ∈ s.alarm.notGeneral := hl ▸ List.mem_cons_self
    obtain ⟨e, he, rfl⟩ := List.mem_map.1 hz
    have hentry : (s.alarm.entry e.zone).isSome = true :=
      List.find?_isSome.2 ⟨e, List.mem_of_mem_filter he, beq_self_eq_true _⟩
    obtain ⟨x, hx⟩ := Option.isSome_iff_exists.1 hentry
    exact (makeGeneral_evacuates true hx).makeGenerals true l

theorem evacuateHouse_evacuates {s : State} (hs : s.generalSafe) : EvacuatesHouse s (evacuateHouse s) := by
  unfold evacuateHouse; dsimp only
  split
  · rename_i h
    obtain ⟨hg, hp, hset, hsec⟩ := newGeneral_evacuates (s := disturb s) h
    exact ⟨hg, hp, hset, hsec⟩
  · rename_i hne
    obtain ⟨hp, hset, hsec⟩ := makeGenerals_evacuate (s := disturb s) hs hne
    have hsound : Keeps _ (soundStep true ((disturb s).alarm.notGeneral.foldl (makeGeneral true) (disturb s))) := (Keeps.refl _).soundStep true
    refine ⟨(foldl_makeGeneral_general true _ (generalBut_notGeneral hne)).of_cores ((Spares.refl _).soundStep true).entries, ?_⟩
    have he : Evacuates s ((disturb s).alarm.notGeneral.foldl (makeGeneral true) (disturb s)) := ⟨hp, hset, hsec⟩
    exact he.spares (hsound.evac hp) (scanned_fields (soundStep_scanned _ true)).1 ((SparesSafety.refl _).soundStep true)

end Sys2Proof.Machine

namespace Sys2Proof.Laws

open Machine

/-- Settles O31: the house evacuated by the Alarm Unit stays so to the end of the event. -/
theorem evacuateHouse : Obligations.EvacuateHouse := by
  intro s p tag hh ho hs
  have hexec : exec (.evacuate p tag) s = .next (settle (done p tag (refreshPresented (Machine.evacuateHouse s)))) := by
    show execEvacuate p tag s = _
    rw [execEvacuate, request_owned _ hh ho]
  have hkeeps := (KeepsG.refl s).evacuateHouse
  obtain ⟨hmade, hevac⟩ := evacuateHouse_evacuates hs
  have hrelay := (hkeeps.general hs hmade.anyGeneral).2
  have hend := settle_done_concludes p tag (Machine.evacuateHouse s)
  obtain ⟨hne, hall⟩ := hmade.of_cores hend.entries
  have hintakes := (KeepsG.lift (Keeps.refl _).refreshPresented hkeeps).holds.intakes p
  refine ⟨_, hexec, settle_answered ho hintakes, hne, fun e he => (hall e he).resolve_right List.not_mem_nil,
    (congrArg PerfRecord.phase hend.perf).trans hevac.phase, hend.relay.trans hrelay, hend.settings.trans hevac.settings, fun ⟨_, hn⟩ hp => ?_⟩
  have hsecured := (sparesSafety_of_claims hend.claims (hevac.numbered hn)).trans (hevac.secured hn)
  rw [if_neg hp, State.panicked, Light.secured, Light.secured, List.map_map] at hsecured
  exact hsecured

end Sys2Proof.Laws

/-! Every step keeps the curtain's outputs as its state decides them (R72, R99). -/

namespace Sys2Proof.Machine

/-- R99: an assertion of RESET_N leaves the curtain held. -/
theorem assertReset_curtain_sound (s : State) : (assertReset s).curtain.sound := unresolvedWith_sound _

/-- R195: start-up takes the curtain record it is given. -/
theorem Begins.curtain {s t : State} (h : Begins s t) (hs : s.curtain.sound) : t.curtain.sound := by
  obtain ⟨c, b, hc, hk⟩ := h
  exact hk.curtain (hc hs)

/-- Settles O6: R72 and R99 as an invariant of the step, by what a step can do. -/
theorem curtainOutputsFollowState : Obligations.CurtainOutputsFollowState := by
  intro s t hs h
  obtain ⟨q, hk | rfl | hb⟩ := step_outcomes s t h
  · exact hk.curtain hs
  · exact assertReset_curtain_sound _
  · exact hb.curtain hs

end Sys2Proof.Machine

/-! What the Curtain Controller's operations do to the records that its rules speak of (R72 to R98): one equation for each operation, on the scene that the curtain, its lines, the times, the settings, the phase and the fault list make. -/

namespace Sys2Proof.Machine

/-! ## The scene -/

/-- The curtain record but for the two fields that follow the call line and the lamps: the announcement's tag and the channels flashed. -/
def Curtain.core (c : Curtain) : Curtain := { c with announcement := none, flashed := [] }

/-- The records that the rules of the curtain speak of. -/
structure Scene where
  uptime : Nat
  clock : Clock
  lines : Lines
  settings : Settings
  perf : PerfRecord
  sup : Supervision
  curtain : Curtain

/-- The scene of a state. -/
def State.scene (s : State) : Scene := ⟨s.uptime, s.clock, s.lines, s.settings, s.perf, s.sup, s.curtain.core⟩

/-- A scene with its curtain record changed. -/
def Scene.onCurtain (f : Curtain → Curtain) (x : Scene) : Scene := { x with curtain := f x.curtain }

/-- A scene with another fault list and a change of the curtain's own list of faults. -/
def Scene.withFaults (u : Supervision) (g : List FaultKind → List FaultKind) (x : Scene) : Scene :=
  { x with sup := u, curtain := { x.curtain with faultsHeld := g x.curtain.faultsHeld } }

/-- R72, R77: the curtain record as it enters a state, with the outputs of that state and its motion watch. -/
def Curtain.entered (new : CurtainState) (watch : Option Nat) (c : Curtain) : Curtain :=
  Curtain.setOutputs { c with state := new, resolved := true, motionWatch := watch }

/-- The curtain record with no display drop in progress (R98). -/
def Curtain.undisplayed (c : Curtain) : Curtain := { c with display := none }

/-- The curtain record with its release timer IDLE (R92). -/
def Curtain.untimed (c : Curtain) : Curtain := { c with timer := .idle }

section
variable (s : State)

/-! ## Notices, lamps and faults -/

@[simp] theorem notify_scene (f : Family) (n : Notice) : (notify f n s).scene = s.scene := by
  obtain ⟨q, e⟩ := notify_eq s f n; rw [e]; rfl

@[simp] theorem curtainNotice_scene (n : Notice) : (curtainNotice n s).scene = s.scene := notify_scene s _ n

@[simp] theorem reply_scene (p : Port) (tag : Tag) (o : ReplyOutcome) : (reply p tag o s).scene = s.scene := rfl

@[simp] theorem raiseCurtainFault_scene (k : FaultKind) :
    (raiseCurtainFault k s).scene = s.scene.withFaults (raiseCurtainFault k s).sup (insertKind k) := by
  unfold raiseCurtainFault
  obtain ⟨u, q, e⟩ := raiseFault_eq .curtain k (mapCurtain (fun c => { c with faultsHeld := insertKind k c.faultsHeld }) s)
  rw [e]; rfl

theorem removeKind_of_not_held {k : FaultKind} {l : List FaultKind} (h : l.contains k = false) : removeKind k l = l :=
  List.filter_eq_self.2 fun x hx => by
    have : x ≠ k := fun e => by simp [← e, hx] at h
    simpa using this

@[simp] theorem clearCurtainFault_scene (k : FaultKind) :
    (clearCurtainFault k s).scene = s.scene.withFaults (clearCurtainFault k s).sup (removeKind k) := by
  unfold clearCurtainFault
  split
  · obtain ⟨u, q, e⟩ := clearFault_eq .curtain k (mapCurtain (fun c => { c with faultsHeld := removeKind k c.faultsHeld }) s)
    rw [e]; rfl
  · rename_i h
    show s.scene = { s.scene with curtain := { s.curtain.core with faultsHeld := removeKind k s.curtain.faultsHeld } }
    rw [removeKind_of_not_held (by simpa using h)]; rfl

theorem mem_insertKind (k : FaultKind) (l : List FaultKind) : k ∈ insertKind k l := by
  unfold insertKind; split
  · rename_i h; simpa using h
  · simp

theorem not_mem_removeKind (k : FaultKind) (l : List FaultKind) : k ∉ removeKind k l := by simp [removeKind]

/-! ## A change of state (R73) -/

theorem enterRecord_scene (c : PhaseChange) : (enterRecord c s).scene = { s.scene with perf := s.perf.after c s.uptime } := by
  have clearance : ∀ w o, ∀ u : State, (noticeClearanceEnd w o c u).scene = u.scene := fun w o u => by
    unfold noticeClearanceEnd; split
    · exact notify_scene _ _ _
    · rfl
  have cleared : ∀ w b o, ∀ u : State, (noticeCountdownClear w b o u).scene = u.scene := fun w b o u => by
    unfold noticeCountdownClear; split
    · exact notify_scene _ _ _
    · rfl
  have started : ∀ w o, ∀ u : State, (noticeCountdownStart w o u).scene = u.scene := fun w o u => by
    unfold noticeCountdownStart; split
    · rfl
    · dsimp only; split <;> simp [notifyCountdown]
  unfold enterRecord; dsimp only
  rw [started, started, cleared, cleared, clearance, clearance, notify_scene]; rfl

/-- R11: the departure claim changes the performance record alone, and only in SHOW. -/
theorem curtainDeparture_scene : (curtainDeparture s).scene = { s.scene with perf := (curtainDeparture s).perf } := by
  unfold curtainDeparture; split
  · rw [onField_get_perf, enterRecord_perf]
    exact enterRecord_scene s _
  · rfl

theorem curtainDeparture_of_not_inShow (h : s.perf.phase ≠ .inShow) : curtainDeparture s = s := by rw [curtainDeparture, if_neg h]

@[simp] theorem judgeWarning_scene (new previous : CurtainState) : (judgeWarning new previous s).scene = s.scene := by
  unfold judgeWarning; split_ifs <;> rfl

theorem judgeWarning_perf (new previous : CurtainState) : (judgeWarning new previous s).perf = s.perf :=
  congrArg Scene.perf (judgeWarning_scene s new previous)

/-- R73 steps 1 to 3: what a change of state leaves behind. -/
theorem shiftCurtain_scene (new : CurtainState) : (shiftCurtain new s).scene = { s.scene with
    perf := (shiftCurtain new s).perf, curtain := s.curtain.core.entered new (new.watch s.settings.curtain s.clock.now) } := by
  unfold shiftCurtain; dsimp only
  rw [judgeWarning_scene, judgeWarning_perf]
  split
  · rw [curtainDeparture_scene]; rfl
  · rfl

/-- R11: a curtain that leaves UP leaves no SHOW behind. -/
theorem shiftCurtain_phase (new : CurtainState) (h : s.curtain.state = .up) : (shiftCurtain new s).perf.phase ≠ .inShow := by
  unfold shiftCurtain; dsimp only
  rw [h, if_pos rfl, judgeWarning_perf]
  exact curtainDeparture_phase _

/-- A change of state changes the performance record only where the curtain leaves UP in SHOW. -/
theorem shiftCurtain_perf (new : CurtainState) (h : s.curtain.state ≠ .up ∨ s.perf.phase ≠ .inShow) :
    (shiftCurtain new s).perf = s.perf := by
  unfold shiftCurtain; dsimp only
  rw [judgeWarning_perf]
  split
  · rename_i hup
    rw [curtainDeparture_of_not_inShow (mapCurtain _ s) (h.resolve_left fun hn => hn hup)]; rfl
  · rfl

/-- R73: a change into another state is steps 1 to 3, then what its own rule does. -/
theorem enterCurtain_scene {new : CurtainState} (cause : CurtainCause) (mid : State → State) (h : s.curtain.state ≠ new) :
    (enterCurtain new cause mid s).scene = (mid (shiftCurtain new s)).scene := by
  rw [enterCurtain, if_neg h]; exact curtainNotice_scene _ _

/-! ## The display drop, the timer and the drop -/

/-- With no display announcement waited for, a withdrawal leaves the scene. -/
theorem Leaves.scene {s t : State} (h : Leaves s t) (hc : s.calm) : t.scene = s.scene := by
  have e := congrArg Curtain.core (h.calm hc).1
  unfold State.scene
  rw [h.uptime, h.clock, h.lines, h.settings, h.perf, h.sup, e]; rfl

/-- R98. -/
@[simp] theorem abandonDisplay_scene (r : AbandonReason) : (abandonDisplay r s).scene = s.scene.onCurtain Curtain.undisplayed := by
  unfold abandonDisplay; split
  · rename_i h
    show s.scene = { s.scene with curtain := { s.curtain.core with display := none } }
    rw [← h]; rfl
  · dsimp only
    rw [curtainNotice_scene]; split
    · exact ((Leaves.refl _).withdrawInternal _ _).scene fun h => by cases h
    · rfl

/-- R92. -/
@[simp] theorem idleTimer_scene (n : Notice) : (idleTimer n s).scene = s.scene.onCurtain Curtain.untimed := by
  unfold idleTimer; split
  · rename_i h
    show s.scene = { s.scene with curtain := { s.curtain.core with timer := .idle } }
    rw [← h]; rfl
  · rw [curtainNotice_scene]; rfl

/-- R87, R92: the timer is IDLE after the entry to DROPPING, whatever its cause. -/
@[simp] theorem dropTimer_scene (cause : DropCause) : (dropTimer cause s).scene = s.scene.onCurtain Curtain.untimed := by
  cases cause with
  | release | graceEnd => rfl
  | emergency | test | startUp => exact idleTimer_scene s _

/-- R93: no judgement while EMERG_RELEASE is not asserted. -/
theorem judgeEmergency_of_released (h : s.lines.emergRelease = false) : judgeEmergency s = s := by
  rw [judgeEmergency, if_neg (by simp [h])]

/-! ## The end of an event -/

/-- The curtain record that a scene shows. -/
theorem curtain_of_scene {s : State} {x : Scene} (h : s.scene = x) :
    s.curtain = { x.curtain with announcement := s.curtain.announcement, flashed := s.curtain.flashed } := by
  subst h; rfl

variable {s}

/-- With no display announcement waited for, the end of an event leaves the scene. -/
theorem settle_scene {x : Scene} (hx : s.scene = x) (h : x.curtain.display ≠ some .announcing) : (settle s).scene = x := by
  subst hx; exact (Leaves.refl s).settle.scene h

/-- R96: a curtain that is not UP is left by the end of an event but for its display drop, which an announcement's end can abandon. -/
theorem settle_landed_scene {x : Scene} (hx : s.scene = x) (h : x.curtain.state ≠ .up) :
    ∃ d, (settle s).scene = x.onCurtain fun c => { c with display := d } := by
  subst hx
  have k := (Leaves.refl s).settle
  have e := congrArg Curtain.core (k.landed h).1
  refine ⟨(settle s).curtain.display, ?_⟩
  unfold State.scene
  rw [k.uptime, k.clock, k.lines, k.settings, k.perf, k.sup, e]; rfl

end

end Sys2Proof.Machine

/-! The powered motion of the curtain, its halt and its locking: CURTAIN LOWER, RAISE, STOP and CLEAR FAULT, the stall (R77, R80 to R83, R85, R93), and the raise at the end of a display drop (R97). -/

namespace Sys2Proof.Machine

/-! ## Requests that Stage alone may make -/

/-- R80: a request of Stage whose gates it passes is carried out. -/
theorem stageRequest_taken {k : RequestKind} {tag : Tag} {gate : State → Option Reason} {act : State → State} {s : State}
    (hh : s.resetHeld = false) (ho : s.owns .stage tag k = true) (hg : gate s = none) :
    request .stage tag k (fun s => stageRequest .stage tag (gate s) act s) s = .next (settle (act s)) := by
  rw [request_owned _ hh ho, hg]; rfl

/-- R81: what the gates of CURTAIN LOWER ask for. -/
theorem gateLower_none {s : State} (h : gateLower s = none) :
    (s.curtain.state = .up ∨ s.curtain.state = .halted) ∧ s.perf.phase ≠ .inShow ∧ s.curtain.display = none := by
  obtain ⟨hs, hg⟩ := Option.or_eq_none_iff.1 h
  refine ⟨?_, ?_⟩
  · cases hc : s.curtain.state <;> simp_all [refuseLower]
  · split_ifs at hg; simp_all

/-- R82: what the gates of CURTAIN RAISE ask for. -/
theorem gateRaise_none {s : State} (h : gateRaise s = none) :
    (s.curtain.state = .down ∨ s.curtain.state = .halted) ∧ s.curtain.display = none := by
  obtain ⟨hs, hg⟩ := Option.or_eq_none_iff.1 h
  refine ⟨?_, ?_⟩
  · cases hc : s.curtain.state <;> simp_all [refuseRaise]
  · split_ifs at hg; simp_all

/-- R85: what the gates of CURTAIN CLEAR FAULT ask for. -/
theorem gateClear_none {s : State} (h : gateClear s = none) : s.curtain.state = .faultLocked := by
  obtain ⟨hs, -⟩ := Option.or_eq_none_iff.1 h
  cases hc : s.curtain.state <;> simp_all [refuseClear]

/-- R95: what the gates of CURTAIN DISPLAY ask for. -/
theorem gateDisplay_none {s : State} (h : gateDisplay s = none) : s.perf.phase = .interval := by
  obtain ⟨-, hg⟩ := Option.or_eq_none_iff.1 h
  split_ifs at hg; simp_all

/-! ## Powered motion -/

/-- A change of state that leaves no SHOW behind, and does nothing else. -/
theorem enterCurtain_plain_scene {s : State} {new : CurtainState} (cause : CurtainCause) (hne : s.curtain.state ≠ new)
    (hp : s.curtain.state ≠ .up ∨ s.perf.phase ≠ .inShow) :
    (enterCurtain new cause id s).scene = s.scene.onCurtain (Curtain.entered new (new.watch s.settings.curtain s.clock.now)) := by
  rw [enterCurtain_scene s cause id hne]
  show (shiftCurtain new s).scene = _
  rw [shiftCurtain_scene, shiftCurtain_perf s new hp]; rfl

/-- R80: an accepted request for a powered motion is answered, and the curtain has entered its state. -/
theorem accepted_motion {s : State} {tag : Tag} {k : RequestKind} {new : CurtainState} (cause : CurtainCause)
    (ho : s.owns .stage tag k = true) (hd : s.curtain.display = none) (hne : s.curtain.state ≠ new)
    (hp : s.curtain.state ≠ .up ∨ s.perf.phase ≠ .inShow) :
    (settle (accept .stage tag (enterCurtain new cause id s))).answered .stage tag .accepted ∧
      (settle (accept .stage tag (enterCurtain new cause id s))).scene =
        s.scene.onCurtain (Curtain.entered new (new.watch s.settings.curtain s.clock.now)) := by
  constructor
  · exact settle_answered ho (((Keeps.refl s).enterCurtain new cause id fun _ _ h => h).intakes .stage)
  · refine settle_scene (enterCurtain_plain_scene cause hne hp) fun h => ?_
    have hd' : s.curtain.display = some .announcing := h
    rw [hd] at hd'; cases hd'

/-- Settles O34: each direction is its state entered, with that state's outputs. -/
theorem poweredMotionBegins : Obligations.PoweredMotionBegins := by
  intro s tag hh
  constructor
  · intro ho hg
    obtain ⟨hst, hp, hd⟩ := gateLower_none hg
    obtain ⟨ha, e⟩ := accepted_motion .lower ho hd (new := .lowering) (by rcases hst with h | h <;> simp [h]) (.inr hp)
    refine ⟨_, stageRequest_taken hh ho hg, ha, ?_⟩
    rw [curtain_of_scene e]
    exact ⟨rfl, rfl, rfl, rfl, rfl, rfl, congrArg Scene.perf e, congrArg Scene.sup e, congrArg Scene.settings e⟩
  · intro ho hg
    obtain ⟨hst, hd⟩ := gateRaise_none hg
    have hup : s.curtain.state ≠ .up := by rcases hst with h | h <;> simp [h]
    obtain ⟨ha, e⟩ := accepted_motion .raise ho hd (new := .raising) (by rcases hst with h | h <;> simp [h]) (.inl hup)
    refine ⟨_, stageRequest_taken hh ho hg, ha, ?_⟩
    rw [curtain_of_scene e]
    exact ⟨rfl, rfl, rfl, rfl, rfl, rfl, congrArg Scene.perf e, congrArg Scene.sup e, congrArg Scene.settings e⟩

end Sys2Proof.Machine

/-! The drop of the curtain (R84, R87, R90, R91, R93): what its entry leaves, by cause, and its watch. -/

namespace Sys2Proof.Machine

/-! ## The entry to DROPPING -/

/-- R87: the curtain record with the drop under way. -/
def Curtain.withDrop (d : Drop) (c : Curtain) : Curtain := { c with drop := some d }

/-- R87: the scene of a drop just begun, with the performance record that the departure has left: the outputs of DROPPING, the timer IDLE
and no display drop left. -/
def Scene.dropped (cause : DropCause) (r : PerfRecord) (x : Scene) : Scene :=
  { x with
    perf := r
    curtain := (((x.curtain.entered .dropping none).withDrop
      (Drop.begun cause x.uptime x.settings.curtain.dropLimit)).untimed).undisplayed }

/-- R87: a drop off the bottom limit. Its own faults reach the fault list and the curtain's list alone. -/
theorem beginDrop_scene {s : State} (cause : DropCause) {faults : State → State} {g : List FaultKind → List FaultKind}
    (hf : ∀ u : State, (faults u).scene = u.scene.withFaults (faults u).sup g) (hb : s.lines.limitBottom = false)
    (hs : s.curtain.state ≠ .dropping) :
    ∃ u : State, u.sup = s.sup ∧
      (beginDrop cause faults s).scene = (s.scene.dropped cause (shiftCurtain .dropping s).perf).withFaults (faults u).sup g := by
  let w := shiftCurtain .dropping s
  let u := mapCurtain (Curtain.withDrop (Drop.begun cause w.uptime w.settings.curtain.dropLimit)) w
  have e : u.scene = { s.scene with
      perf := w.perf
      curtain := (s.curtain.core.entered .dropping none).withDrop (Drop.begun cause s.uptime s.settings.curtain.dropLimit) } := by
    show { w.scene with curtain := w.scene.curtain.withDrop (Drop.begun cause w.scene.uptime w.scene.settings.curtain.dropLimit) } = _
    rw [shiftCurtain_scene]; rfl
  refine ⟨u, congrArg Scene.sup e, ?_⟩
  rw [beginDrop, if_neg (by simp [hb]), enterCurtain_scene s _ _ hs, abandonDisplay_scene, dropTimer_scene]
  show ((faults u).scene.onCurtain Curtain.untimed).onCurtain Curtain.undisplayed = _
  rw [hf, e]; rfl

/-- A drop that raises no fault of its own. -/
theorem beginDrop_plain_scene {s : State} (cause : DropCause) (hb : s.lines.limitBottom = false) (hs : s.curtain.state ≠ .dropping) :
    (beginDrop cause id s).scene = s.scene.dropped cause (shiftCurtain .dropping s).perf := by
  obtain ⟨u, hu, e⟩ := beginDrop_scene cause (faults := id) (g := id) (fun _ => rfl) hb hs
  rw [e]
  show (s.scene.dropped cause _).withFaults u.sup id = _
  rw [hu]; rfl

/-- What is seen of a curtain that a cause has dropped in the event that ends in `t`. -/
structure Drops (cause : DropCause) (s t : State) : Prop where
  state : t.curtain.state = .dropping
  hold : t.curtain.hold = false
  down : t.curtain.driveDown = false
  up : t.curtain.driveUp = false
  display : t.curtain.display = none
  timer : t.curtain.timer = .idle
  drop : ∃ d, t.curtain.drop = some d ∧ d.cause = cause ∧ d.startedAt = s.uptime ∧ d.overdueAt = s.uptime + s.settings.curtain.dropLimit
  departed : s.curtain.state = .up → t.perf.phase ≠ .inShow

/-- A drop at the end of its event. No display drop is left, so nothing moves the curtain any more. -/
theorem settle_drops {s b y : State} {cause : DropCause} {u : Supervision} {g : List FaultKind → List FaultKind}
    (hu : b.uptime = s.uptime) (hv : b.settings = s.settings) (hc : b.curtain.state = s.curtain.state)
    (e : y.scene = (b.scene.dropped cause (shiftCurtain .dropping b).perf).withFaults u g) :
    Drops cause s (settle y) := by
  have e' := settle_scene e fun h => by cases h
  have hperf : (settle y).perf = (shiftCurtain .dropping b).perf := congrArg Scene.perf e'
  have hlimit : b.uptime + b.settings.curtain.dropLimit = s.uptime + s.settings.curtain.dropLimit := by rw [hu, hv]
  have hcur := curtain_of_scene e'
  refine ⟨?_, ?_, ?_, ?_, ?_, ?_, ⟨Drop.begun cause b.uptime b.settings.curtain.dropLimit, ?_, rfl, hu, hlimit⟩, fun h => ?_⟩
  case refine_8 =>
    rw [hperf]; exact shiftCurtain_phase b .dropping (hc.trans h)
  all_goals rw [hcur]; rfl

/-- The end of an event in which a drop that raises no fault of its own has begun. -/
theorem settle_beginDrop {s b y : State} {cause : DropCause} (hb : b.lines.limitBottom = false) (hs : b.curtain.state ≠ .dropping)
    (hu : b.uptime = s.uptime) (hv : b.settings = s.settings) (hc : b.curtain.state = s.curtain.state)
    (hy : y.scene = (beginDrop cause id b).scene) : Drops cause s (settle y) :=
  settle_drops (u := b.sup) (g := id) hu hv hc (hy.trans (beginDrop_plain_scene cause hb hs))

/-- R91: the end of the grace raises "obstructed drop" and drops the curtain. -/
theorem settle_endGrace {s b : State} (hb : b.lines.limitBottom = false) (hs : b.curtain.state ≠ .dropping)
    (hu : b.uptime = s.uptime) (hv : b.settings = s.settings) (hc : b.curtain.state = s.curtain.state) :
    Drops .graceEnd s (settle (endGrace b)) := by
  obtain ⟨u, -, e⟩ := beginDrop_scene .graceEnd (fun u => raiseCurtainFault_scene u .obstructedDrop) hb hs
  exact settle_drops hu hv hc e

/-! ## The four causes -/

/-- R90: the expiry of the hold-off on a clear line. -/
theorem settle_expireRelease_clear {s : State} (hb : s.lines.limitBottom = false) (hs : s.curtain.state ≠ .dropping)
    (ho : s.lines.obstructed = false) : Drops .release s (settle (expireRelease s)) := by
  obtain ⟨q, hn⟩ : ∃ q, curtainNotice (.releaseExpired s.lines.obstructed) s = { s with ports := q } := notify_eq s _ _
  unfold expireRelease; dsimp only
  rw [hn]; dsimp only
  rw [if_neg (by simp [hb]), if_neg (by simp [ho])]
  exact settle_beginDrop (b := { s with ports := q }) hb hs rfl rfl rfl rfl

/-- Settles O36, by the four causes. -/
theorem dropBegins : Obligations.DropBegins := by
  intro s tag c cause hh hb hs hcause
  suffices h : ∃ t, exec c s = .next t ∧ Drops cause s t by
    obtain ⟨t, he, h⟩ := h
    exact ⟨t, he, h.state, h.hold, h.down, h.up, h.display, h.timer, h.drop, h.departed⟩
  rcases hcause with ⟨rfl, ho, rfl, hg⟩ | ⟨rfl, rfl, ho, e, ht, he⟩ | ⟨rfl, rfl, e, ht, he⟩ | ⟨rfl, rfl, hd, hr⟩
  · exact ⟨_, stageRequest_taken hh ho hg, settle_beginDrop hb hs rfl rfl rfl (reply_scene _ _ _ _)⟩
  · refine ⟨settle (expireRelease s), ?_, settle_expireRelease_clear hb hs ho⟩
    show execReleaseExpiry s = _
    rw [execReleaseExpiry, command_next _ hh, ht]; simp [he]
  · refine ⟨settle (endGrace s), ?_, settle_endGrace hb hs rfl rfl rfl⟩
    show execGraceEnd s = _
    rw [execGraceEnd, command_next _ hh, ht]; simp [he]
  · let b := mapLines (fun l => { l with emergRelease := true }) s
    refine ⟨settle (beginDrop .emergency id b), ?_, settle_beginDrop (b := b) hb hs rfl rfl rfl rfl⟩
    show execEmergReleaseAsserted s = _
    rw [execEmergReleaseAsserted, lineCommand, if_neg (by simp [hh]), command_next _ hh]
    dsimp only
    rw [if_neg]
    simp [hd, hs, hr]

end Sys2Proof.Machine

/-! The curtain halted or locked, and returned from a lock: CURTAIN STOP, the stall, CURTAIN CLEAR FAULT and the setting line (R77, R79, R83, R85, R91, R93). -/

namespace Sys2Proof.Machine

/-! ## A state entered with the display drop abandoned -/

/-- R98: a state entered with its faults raised and the display drop abandoned. -/
theorem enterAbandoning_scene {s : State} {new : CurtainState} (cause : CurtainCause) (r : AbandonReason) (faults : State → State)
    (hne : s.curtain.state ≠ new) :
    (enterCurtain new cause (fun u => abandonDisplay r (faults u)) s).scene =
      (faults (shiftCurtain new s)).scene.onCurtain Curtain.undisplayed := by
  rw [enterCurtain_scene s cause _ hne, abandonDisplay_scene]

/-- The same where the emergency release is then judged, and is not asserted (R93). -/
theorem judgeEmergency_enterAbandoning_scene {s : State} {new : CurtainState} (cause : CurtainCause) (r : AbandonReason)
    {faults : State → State} (hf : ∀ u : State, (faults u).scene.lines = u.scene.lines) (hne : s.curtain.state ≠ new)
    (he : s.lines.emergRelease = false) :
    (judgeEmergency (enterCurtain new cause (fun u => abandonDisplay r (faults u)) s)).scene =
      (faults (shiftCurtain new s)).scene.onCurtain Curtain.undisplayed := by
  have e := enterAbandoning_scene cause r faults hne
  have hl : (enterCurtain new cause (fun u => abandonDisplay r (faults u)) s).lines = s.lines :=
    (congrArg Scene.lines e).trans ((hf _).trans (congrArg Scene.lines (shiftCurtain_scene s new)))
  rw [judgeEmergency_of_released _ (by rw [hl]; exact he), e]

/-- R98: the curtain halted with no fault raised. -/
theorem haltOnly_scene {s : State} (cause : CurtainCause) (r : AbandonReason) (hne : s.curtain.state ≠ .halted) :
    (haltOnly cause r id s).scene =
      { s.scene with perf := (shiftCurtain .halted s).perf, curtain := (s.curtain.core.entered .halted none).undisplayed } := by
  rw [haltOnly, enterAbandoning_scene cause r id hne]
  show (shiftCurtain .halted s).scene.onCurtain Curtain.undisplayed = _
  rw [shiftCurtain_scene]; rfl

/-- R93: a halt with EMERG_RELEASE not asserted. -/
theorem haltCurtain_scene {s : State} (cause : CurtainCause) (r : AbandonReason) (hne : s.curtain.state ≠ .halted)
    (he : s.lines.emergRelease = false) : (haltCurtain cause r id s).scene =
      { s.scene with perf := (shiftCurtain .halted s).perf, curtain := (s.curtain.core.entered .halted none).undisplayed } := by
  have e := haltOnly_scene cause r hne
  rw [haltCurtain, judgeEmergency_of_released _ ((congrArg (fun x : Scene => x.lines.emergRelease) e).trans he), e]

/-! ## CURTAIN STOP -/

/-- R93: the judgement of an emergency release on a halted curtain: it drops, unless LIMIT_BOTTOM is active. -/
theorem judgeEmergency_halted_scene {s : State} (h : s.curtain.state = .halted) : (judgeEmergency s).scene =
    if s.lines.emergRelease = true ∧ s.lines.limitBottom = false then s.scene.dropped .emergency (shiftCurtain .dropping s).perf
    else if s.lines.emergRelease then s.scene.onCurtain Curtain.untimed else s.scene := by
  cases he : s.lines.emergRelease with
  | false => rw [judgeEmergency_of_released _ he]; rfl
  | true =>
    rw [judgeEmergency, if_pos ⟨he, .inr (.inl h)⟩]
    cases hb : s.lines.limitBottom with
    | false => exact beginDrop_plain_scene .emergency hb (by simp [h])
    | true => rw [beginDrop, if_pos hb]; exact idleTimer_scene s _

/-- R83, R93: a powered motion stopped: halted, or dropping where the emergency release calls for it. -/
theorem haltCurtain_stop_scene {s : State} (hm : s.curtain.state ≠ .halted) : ∃ r c,
    (haltCurtain .stop .stop id s).scene = { s.scene with perf := r, curtain := c } ∧
      c.state = (if s.lines.emergRelease ∧ s.lines.limitBottom = false then .dropping else .halted) ∧
      c.driveDown = false ∧ c.driveUp = false ∧ c.display = none := by
  have e := haltOnly_scene .stop .stop hm
  have hst : (haltOnly .stop .stop id s).curtain.state = .halted := by rw [curtain_of_scene e]; rfl
  have hl : (haltOnly .stop .stop id s).lines = s.lines := congrArg Scene.lines e
  rw [haltCurtain, judgeEmergency_halted_scene hst, hl, e]
  by_cases hd : s.lines.emergRelease = true ∧ s.lines.limitBottom = false
  · rw [if_pos hd, if_pos hd]; exact ⟨_, _, rfl, rfl, rfl, rfl, rfl⟩
  · rw [if_neg hd, if_neg hd]
    split <;> exact ⟨_, _, rfl, rfl, rfl, rfl, rfl⟩

/-- R83: a CURTAIN STOP that is refused is a reply alone. -/
theorem execCurtainStop_refused {s : State} {p : Port} {tag : Tag} {r : Reason} (h : s.awake) (ho : s.owns p tag .curtainStop = true)
    (hr : refuseStop s.curtain.state = some r) : exec (.curtainStop p tag) s = .next (transmit (reply p tag (.refused r) s)) := by
  show execCurtainStop p tag s = _
  rw [execCurtainStop, request_replied h ho]
  rw [hr]; rfl

/-- Settles O35, by the state of the curtain. -/
theorem curtainStop : Obligations.CurtainStop := by
  intro s p tag ho
  refine ⟨fun hh hm => ?_, fun h hd => execCurtainStop_refused h ho (by rw [hd]; rfl), fun h hst => execCurtainStop_refused h ho ?_⟩
  · have hne : s.curtain.state ≠ .halted := by rcases hm with h | h <;> simp [h]
    have hr : refuseStop s.curtain.state = none := by rcases hm with h | h <;> rw [h] <;> rfl
    obtain ⟨r, c, e, hst, hdown, hup, hd⟩ := haltCurtain_stop_scene hne
    have k := settle_scene (s := done p tag (haltCurtain .stop .stop id s)) e (by simp [hd])
    refine ⟨settle (done p tag (haltCurtain .stop .stop id s)), ?_, ?_, ?_⟩
    · show execCurtainStop p tag s = _
      rw [execCurtainStop, request_owned _ hh ho, hr]
    · exact settle_answered ho (((Keeps.refl s).haltCurtain .stop .stop id fun _ _ h => h).intakes p)
    · rw [curtain_of_scene k]
      exact ⟨hst, hdown, hup, congrArg Scene.lines k, congrArg Scene.settings k⟩
  · rcases hst with h | h | h | h <;> rw [h] <;> rfl

/-! ## The stall and CURTAIN CLEAR FAULT -/

/-- R77: the curtain locked by a stall. -/
theorem lockStalled_scene {s : State} (hne : s.curtain.state ≠ .faultLocked) (he : s.lines.emergRelease = false) :
    ∃ u r, (lockCurtain .stall (raiseCurtainFault .curtainStall) s).scene =
      { s.scene with
        perf := r
        sup := u
        curtain := { (s.curtain.core.entered .faultLocked none).undisplayed with
          faultsHeld := insertKind .curtainStall s.curtain.faultsHeld } } := by
  have e := judgeEmergency_enterAbandoning_scene .stall .fault (faults := raiseCurtainFault .curtainStall)
    (fun u => by rw [raiseCurtainFault_scene]; rfl) hne he
  rw [raiseCurtainFault_scene, shiftCurtain_scene] at e
  exact ⟨_, _, e⟩

/-- R85: the faults that CURTAIN CLEAR FAULT clears, and the timer of a curtain that is then DOWN. -/
def clearHeldFaults (s : State) : State :=
  let u := clearCurtainFault .limitConflict (clearCurtainFault .curtainStall s)
  if u.curtain.state = .down then idleTimer .releaseNotNeeded u else u

theorem clearCurtain_eq (s : State) : clearCurtain s = judgeEmergency (enterCurtain (clearedState s.lines) .faultCleared clearHeldFaults
    (mapCurtain (fun c => { c with position := clearedPosition s.lines s.settings.curtain.travel c.position }) s)) := rfl

theorem clearHeldFaults_scene (s : State) : ∃ u t, (clearHeldFaults s).scene =
    (s.scene.withFaults u fun l => removeKind .limitConflict (removeKind .curtainStall l)).onCurtain fun c => { c with timer := t } := by
  unfold clearHeldFaults; dsimp only
  split
  · rw [idleTimer_scene, clearCurtainFault_scene, clearCurtainFault_scene]; exact ⟨_, .idle, rfl⟩
  · rw [clearCurtainFault_scene, clearCurtainFault_scene]; exact ⟨_, s.curtain.timer, rfl⟩

/-- R85: a locked curtain returned to the state that its limits give. -/
theorem clearCurtain_scene {s : State} (hs : s.curtain.state = .faultLocked) (he : s.lines.emergRelease = false) :
    ∃ u r p w t, (clearCurtain s).scene =
      { s.scene with
        perf := r
        sup := u
        curtain := { ({ s.curtain.core with position := p } : Curtain).entered (clearedState s.lines) w with
          faultsHeld := removeKind .limitConflict (removeKind .curtainStall s.curtain.faultsHeld), timer := t } } := by
  let b := mapCurtain (fun c => { c with position := clearedPosition s.lines s.settings.curtain.travel c.position }) s
  have hne : b.curtain.state ≠ clearedState s.lines := by
    show s.curtain.state ≠ _
    rw [hs, clearedState]; split_ifs <;> simp
  obtain ⟨u, t, e⟩ := clearHeldFaults_scene (shiftCurtain (clearedState s.lines) b)
  rw [shiftCurtain_scene] at e
  have e' := (enterCurtain_scene b .faultCleared clearHeldFaults hne).trans e
  refine ⟨u, (shiftCurtain (clearedState s.lines) b).perf, b.curtain.position,
    (clearedState s.lines).watch s.settings.curtain s.clock.now, t, ?_⟩
  rw [clearCurtain_eq, judgeEmergency_of_released]
  · exact e'
  · exact (congrArg (fun x : Scene => x.lines.emergRelease) e').trans he

/-- Settles O40: the lock by a stall, and the return by CURTAIN CLEAR FAULT. -/
theorem stallLocksAndClearReturns : Obligations.StallLocksAndClearReturns := by
  intro s tag hh he
  constructor
  · intro hw hm
    obtain ⟨w, hw⟩ := Option.isSome_iff_exists.1 hw
    let b := mapClock (Clock.reach w) s
    have hne : b.curtain.state ≠ .faultLocked := by
      show s.curtain.state ≠ _
      rcases hm with h | h <;> simp [h]
    obtain ⟨u, r, e⟩ := lockStalled_scene (s := b) hne he
    have e' := settle_scene e fun h => by cases h
    refine ⟨settle (lockCurtain .stall (raiseCurtainFault .curtainStall) b), ?_, ?_⟩
    · show execMotionWatchEnd s = _
      rw [execMotionWatchEnd, command_next _ hh, hw]
    · rw [curtain_of_scene e']
      exact ⟨rfl, rfl, rfl, rfl, mem_insertKind _ _, rfl⟩
  · intro ho hg hc
    obtain ⟨u, r, p, w, t, e⟩ := clearCurtain_scene (gateClear_none hg) he
    have e' := settle_scene (s := done .stage tag (clearCurtain s)) e hc
    refine ⟨_, stageRequest_taken hh ho hg, settle_answered ho ((Keeps.refl s).clearCurtain.intakes .stage), ?_⟩
    rw [curtain_of_scene e']
    refine ⟨rfl, ?_, not_mem_removeKind _ _, congrArg Scene.lines e'⟩
    exact fun h => not_mem_removeKind _ _ (List.mem_of_mem_filter h)

/-! ## The setting line -/

/-- A line's change on a controller that takes commands. -/
theorem lineCommand_next {s : State} (sense : Lines → Lines) (f : State → State) (h : s.resetHeld = false) :
    lineCommand sense f s = .next (settle (f s)) := by
  rw [lineCommand, if_neg (by simp [h]), command_next _ h]

/-- On an idle controller a change of the lines alone begins nothing. -/
theorem settle_lines {s : State} (h : s.idle) (l : Lines) : settle { s with lines := l } = { s with lines := l } := by
  rw [settle_frames s { s with lines := l } h rfl rfl rfl rfl rfl]
  have hp : (transmit s).ports = s.ports := congrArg State.ports ((idle_iff s).1 h).2.2.2
  show ({ s with lines := l, ports := (transmit s).ports } : State) = _
  rw [hp]

/-- R79: the beams while the line stays clear or obstructed. -/
theorem beamsChange_same {s : State} {us ds : Bool} (h : s.lines.obstructed = (us || ds)) :
    beamsChange us ds s = { s with lines := { s.lines with beamUs := us, beamDs := ds } } := by
  unfold beamsChange; exact if_pos h.symm

theorem settingLineNotice_eq (s : State) (us ds : Bool) :
    ∃ q, curtainNotice (.settingLine us ds s.uptime) (mapLines (fun l => { l with beamUs := us, beamDs := ds }) s) =
      { s with lines := { s.lines with beamUs := us, beamDs := ds }, ports := q } := notify_eq _ _ _

/-- R79: a lowering curtain whose line becomes obstructed. -/
theorem beamsChange_lowering {s : State} {us ds : Bool} (hc : s.lines.obstructed = false) (ho : (us || ds) = true)
    (hs : s.curtain.state = .lowering) : ∃ q, beamsChange us ds s =
      haltCurtain .obstructed .obstructed id { s with lines := { s.lines with beamUs := us, beamDs := ds }, ports := q } := by
  obtain ⟨q, hn⟩ := settingLineNotice_eq s us ds
  refine ⟨q, ?_⟩
  have ho' : ∀ l : Lines, Lines.obstructed { l with beamUs := us, beamDs := ds } = true := fun _ => ho
  unfold beamsChange; dsimp only
  rw [hn, mapLines_get_lines, ho', hc]
  simp [hs]

/-- R91: a line that becomes clear in GRACE. -/
theorem beamsChange_grace {s : State} {e : Nat} (ht : s.curtain.timer = .grace e) (ho : s.lines.obstructed = true) :
    ∃ q, beamsChange false false s =
      beginDrop .release id { s with lines := { s.lines with beamUs := false, beamDs := false }, ports := q } := by
  obtain ⟨q, hn⟩ := settingLineNotice_eq s false false
  refine ⟨q, ?_⟩
  have hc : ∀ l : Lines, Lines.obstructed { l with beamUs := false, beamDs := false } = false := fun _ => rfl
  unfold beamsChange; dsimp only
  rw [hn, mapLines_get_lines, hc, ho]
  simp [ht]

/-- Settles O41, by what the line and the emergency release do. -/
theorem settingLine : Obligations.SettingLine := by
  intro s us ds
  refine ⟨fun hh hc ho hs he => ?_, fun e hh ht hob hu hd hb hs => ?_, fun h ho => ?_, fun h => ?_⟩
  · obtain ⟨q, hbeams⟩ := beamsChange_lowering hc ho hs
    refine ⟨settle (beamsChange us ds s), lineCommand_next _ _ hh, ?_⟩
    rw [hbeams]
    have e := settle_scene (haltCurtain_scene (s := { s with lines := { s.lines with beamUs := us, beamDs := ds }, ports := q })
      .obstructed .obstructed (fun hl => by rw [hs] at hl; cases hl) he) fun h => by cases h
    rw [curtain_of_scene e]
    exact ⟨congrArg Scene.lines e, rfl, rfl⟩
  · subst hu hd
    obtain ⟨q, hbeams⟩ := beamsChange_grace ht hob
    refine ⟨settle (beamsChange false false s), lineCommand_next _ _ hh, ?_⟩
    rw [hbeams]
    let b : State := { s with lines := { s.lines with beamUs := false, beamDs := false }, ports := q }
    have e := settle_scene (beginDrop_plain_scene (s := b) .release hb hs) fun h => by cases h
    have k : Drops .release s (settle (beginDrop .release id b)) := settle_beginDrop (b := b) hb hs rfl rfl rfl rfl
    refine ⟨congrArg Scene.lines e, k.state, k.hold, k.down, k.up, k.timer, k.display, k.drop, ?_, congrArg Scene.sup e⟩
    rw [curtain_of_scene e]; rfl
  · show execSettingLineChange us ds s = _
    rw [execSettingLineChange, lineCommand_next _ _ h.1, beamsChange_same ho]
    exact congrArg Host.Outcome.next (settle_lines h.2 _)
  · show execEmergReleaseReleased s = _
    rw [execEmergReleaseReleased, lineCommand_next _ _ h.1]
    exact congrArg Host.Outcome.next (settle_lines h.2 _)

end Sys2Proof.Machine

/-! CURTAIN HOLD and the expiry of the hold-off (R89, R90). -/

namespace Sys2Proof.Machine

/-- R89: a CURTAIN HOLD that is refused is a reply alone. -/
theorem execCurtainHold_refused {s : State} {p : Port} {tag : Tag} {r : Reason} (h : s.awake) (ho : s.owns p tag .curtainHold = true)
    (hr : stageRequest p tag none (holdRelease p tag) s = refuse p tag r s) :
    exec (.curtainHold p tag) s = .next (transmit (reply p tag (.refused r) s)) := by
  show execCurtainHold p tag s = _
  rw [execCurtainHold, request_replied h ho hr]

/-- R89: a hold-off started afresh has only its notice and its reply to send. -/
theorem settle_held {s : State} (h : s.idle) (tag : Tag) (n : Notice) (c : Curtain) :
    settle (done .stage tag (curtainNotice n { s with curtain := c })) =
      transmit (reply .stage tag (.done .empty) (notify .curtain n { s with curtain := c })) :=
  settle_frames s _ h (notify_get_clock _ _ _) (notify_get_settings _ _ _) (notify_get_scanner _ _ _) (notify_get_light _ _ _)
    (notify_get_loop _ _ _)

/-- R90: an expiry on an obstructed line begins the grace; a grace of 0 ends at once (R91). -/
theorem expireRelease_obstructed {s : State} (hb : s.lines.limitBottom = false) (ho : s.lines.obstructed = true) :
    ∃ q, expireRelease s =
      (if s.settings.curtain.grace = 0 then
        endGrace { s with ports := q, curtain := { s.curtain with timer := .grace (s.uptime + s.settings.curtain.grace) } }
      else { s with ports := q, curtain := { s.curtain with timer := .grace (s.uptime + s.settings.curtain.grace) } }) := by
  obtain ⟨q, hn⟩ : ∃ q, curtainNotice (.releaseExpired s.lines.obstructed) s = { s with ports := q } := notify_eq s _ _
  refine ⟨q, ?_⟩
  unfold expireRelease; dsimp only
  rw [hn]; dsimp only
  rw [if_neg (by simp [hb]), if_pos ho]; rfl

/-- R90: an expiry with the curtain off its bottom limit drops it or begins the grace. -/
theorem settle_expireRelease {s : State} (hb : s.lines.limitBottom = false) (hs : s.curtain.state ≠ .dropping) :
    ((settle (expireRelease s)).curtain.state = .dropping ∧ (settle (expireRelease s)).curtain.timer = .idle) ∨
      ∃ g, (settle (expireRelease s)).curtain.timer = .grace g := by
  cases ho : s.lines.obstructed with
  | false =>
    have k := settle_expireRelease_clear hb hs ho
    exact .inl ⟨k.state, k.timer⟩
  | true =>
    obtain ⟨q, e⟩ := expireRelease_obstructed hb ho
    let b : State := { s with ports := q, curtain := { s.curtain with timer := .grace (s.uptime + s.settings.curtain.grace) } }
    rw [e]
    split
    · have k : Drops .graceEnd b (settle (endGrace b)) := settle_endGrace hb hs rfl rfl rfl
      exact .inl ⟨k.state, k.timer⟩
    · exact .inr ⟨_, (Leaves.refl b).settle.timer⟩

/-- R90: the expiry of a running hold-off. -/
theorem execReleaseExpiry_running {s : State} {e : Nat} (hh : s.resetHeld = false) (ht : s.curtain.timer = .running e) :
    exec .releaseExpiry s = .next (settle (if e ≤ s.uptime then expireRelease s else s)) := by
  show execReleaseExpiry s = _
  rw [execReleaseExpiry, command_next _ hh, ht]

/-- Settles O42: the request by the timer, then the expiry. -/
theorem curtainHold : Obligations.CurtainHold := by
  intro s tag h
  refine ⟨fun e ho ht hn => ?_, fun e ho ht hn => ?_, fun ho ht => ?_, fun ho => ?_, fun e ht he => ?_, fun e ht he hb hs => ?_⟩
  · have hrun : holdRelease .stage tag s = done .stage tag (curtainNotice
        (.releaseHeld (s.curtain.holdsUsed + 1) s.settings.curtain.holdOff) { s with curtain := { s.curtain with
          holdsUsed := s.curtain.holdsUsed + 1, timer := .running (s.uptime + s.settings.curtain.holdOff) } }) := by
      rw [holdRelease, ht]; exact if_pos hn
    show execCurtainHold .stage tag s = _
    rw [execCurtainHold, request_owned _ h.1 ho]
    show Host.Outcome.next (settle (holdRelease .stage tag s)) = _
    rw [hrun, settle_held h.2]
  · refine execCurtainHold_refused h ho ?_
    show holdRelease .stage tag s = _
    rw [holdRelease, ht]; exact if_neg (by omega)
  · refine execCurtainHold_refused h ho ?_
    show holdRelease .stage tag s = _
    rcases ht with ht | ⟨e, ht⟩ <;> rw [holdRelease, ht]
  · exact execCurtainHold_refused h ho rfl
  · rw [execReleaseExpiry_running h.1 ht, if_neg (by omega)]
    exact congrArg Host.Outcome.next h.2
  · refine ⟨settle (expireRelease s), ?_, settle_expireRelease hb hs⟩
    rw [execReleaseExpiry_running h.1 ht, if_pos he]

end Sys2Proof.Machine

/-! The encoder's steps and the watch on a drop (R76, R77, R87). -/

namespace Sys2Proof.Machine

/-! ## A step -/

/-- R76: what a step does outside the watch on a drop: the clock told, the line changed, the position counted and its interval recorded. -/
def State.stepped (s : State) (line : EncoderLine) (interval : Nat) : State :=
  let now := (s.clock.stepped s.lines.lastStepAt interval).now
  { s with
    clock := s.clock.stepped s.lines.lastStepAt interval
    lines := s.lines.step now line
    curtain := { s.curtain with
      position := stepPosition (stepsUp s.lines line) s.settings.curtain.travel s.curtain.position
      lastInterval := some (min interval 255)
      motionWatch := s.curtain.state.watch s.settings.curtain now } }

theorem encoderStep_eq (s : State) (line : EncoderLine) (interval : Nat) : encoderStep line interval s =
    if s.curtain.state = .dropping then watchDrop (min interval 255) (s.stepped line interval) else s.stepped line interval := rfl

theorem execEncoderStep_next {s : State} (line : EncoderLine) (interval : Nat) (hh : s.resetHeld = false) :
    exec (.encoderStep line interval) s = .next (settle (encoderStep line interval s)) := by
  show execEncoderStep line interval s = _
  rw [execEncoderStep, if_neg (by simp [hh]), command_next _ hh]

/-! ## The watch on a drop -/

/-- R87: a drop compared with an interval. -/
def Drop.watched (interval least : Nat) (d : Drop) : Drop :=
  { d with shortest := some (shorter interval d.shortest), overspeed := d.overspeed || decide (interval < least) }

/-- R87: a step of a drop raises "drop overspeed" if it is the first that is too short. -/
theorem watchDrop_eq {s : State} {d : Drop} (i : Nat) (hd : s.curtain.drop = some d) : watchDrop i s =
    if i < s.settings.curtain.minDropInterval ∧ d.overspeed = false then
      raiseCurtainFault .dropOverspeed (mapCurtain (Curtain.withDrop (d.watched i s.settings.curtain.minDropInterval)) s)
    else mapCurtain (Curtain.withDrop (d.watched i s.settings.curtain.minDropInterval)) s := by
  rw [watchDrop, hd]
  dsimp only
  simp only [Bool.and_eq_true, decide_eq_true_eq, Bool.not_eq_true']
  rfl

/-- R87: the scene after a step of a drop: the drop record compared, and the fault of a first step that is too short. -/
theorem watchDrop_scene {s : State} {d : Drop} (i : Nat) (hd : s.curtain.drop = some d) : ∃ u g,
    (watchDrop i s).scene =
      (s.scene.onCurtain (Curtain.withDrop (d.watched i s.settings.curtain.minDropInterval))).withFaults u g ∧
    if i < s.settings.curtain.minDropInterval ∧ d.overspeed = false
      then u = (raiseFault .curtain .dropOverspeed s).sup ∧ g = insertKind .dropOverspeed else u = s.sup ∧ g = id := by
  rw [watchDrop_eq i hd]
  split
  · rw [raiseCurtainFault_scene]
    exact ⟨_, _, rfl, raiseFault_sup_congr .curtain .dropOverspeed rfl rfl, rfl⟩
  · exact ⟨s.sup, id, rfl, rfl, rfl⟩

/-- On an idle controller a fault raised with its notice, and a change of the curtain record, have only frames to send. -/
theorem settle_raised {s : State} (h : s.idle) (n : Notice) (k : FaultKind) (c : Curtain) :
    settle (curtainNotice n (raiseFault .curtain k { s with curtain := c })) =
      transmit (notify .curtain n (raiseFault .curtain k { s with curtain := c })) := by
  obtain ⟨u, q, e⟩ := raiseFault_eq .curtain k { s with curtain := c }
  rw [e]
  exact settle_frames s _ h (notify_get_clock _ _ _) (notify_get_settings _ _ _) (notify_get_scanner _ _ _) (notify_get_light _ _ _)
    (notify_get_loop _ _ _)

/-- R87: the drop limit passed. -/
theorem execDropOverdue_late {s : State} {d : Drop} (h : s.awake) (hs : s.curtain.state = .dropping) (hd : s.curtain.drop = some d)
    (hl : d.overdueAt ≤ s.uptime) (ht : d.overdueTaken = false) :
    exec .dropOverdue s = .next (transmit (notify .curtain .dropOverdue (raiseFault .curtain .dropOverdue
      { s with curtain := { s.curtain with
          drop := some { d with overdueTaken := true }, faultsHeld := insertKind .dropOverdue s.curtain.faultsHeld } }))) := by
  show execDropOverdue s = _
  rw [execDropOverdue, command_next _ h.1, hd]
  dsimp only
  rw [if_pos ⟨hs, hl, ht⟩]
  exact congrArg Host.Outcome.next (settle_raised h.2 _ _ _)

/-- Settles O37: the overdue drop, and the step of a drop with and without overspeed. -/
theorem dropIsWatched : Obligations.DropIsWatched := by
  intro s d h hs hd
  refine ⟨execDropOverdue_late h hs hd, fun line interval => ?_⟩
  obtain ⟨u, g, hw, hfault⟩ := watchDrop_scene (s := s.stepped line interval) (min interval 255) hd
  obtain ⟨x, e⟩ := settle_landed_scene hw (show s.curtain.state ≠ .up by simp [hs])
  refine ⟨settle (watchDrop (min interval 255) (s.stepped line interval)), ?_, ?_⟩
  · rw [execEncoderStep_next line interval h.1, encoderStep_eq, if_pos hs]
  · have hsup : (settle (watchDrop (min interval 255) (s.stepped line interval))).sup = u := congrArg Scene.sup e
    rw [curtain_of_scene e, hsup]
    refine ⟨hs, ?_, ?_, rfl, congrArg Scene.perf e, congrArg Scene.settings e⟩
    · show some (d.watched (min interval 255) s.settings.curtain.minDropInterval) = _
      unfold Drop.watched
      cases d.shortest <;> rfl
    · split
      · rename_i hc
        obtain ⟨rfl, rfl⟩ := (if_pos hc ▸ hfault :)
        exact ⟨mem_insertKind _ _, raiseFault_sup_congr .curtain .dropOverspeed rfl rfl⟩
      · rename_i hc
        obtain ⟨rfl, rfl⟩ := (if_neg hc ▸ hfault :)
        exact ⟨rfl, rfl⟩

end Sys2Proof.Machine

/-! An encoder step outside a drop (R76, R77), and the POLL that the clock it tells makes due (R164, R165). -/

namespace Sys2Proof.Machine

/-! ## What has become due on an idle controller -/

/-- On an idle controller with a free loop there is nothing to take but what the clock makes due. -/
theorem idle_lanes {s : State} (h : takeWork s = s) (hn : s.loop.transaction = none) :
    (if s.loop.state = .starting then none else s.loop.urgent.find? s.loop.eligible) = none ∧ s.loop.nextProbe = none ∧
      (if s.loop.state = .starting then none else s.loop.ordinary.find? s.loop.eligible) = none := by
  have free : ∀ t : State, t.loop.transaction ≠ none → t ≠ s := fun t ht e => ht (e ▸ hn)
  have item : ∀ lane i, startItem lane i s ≠ s := fun lane i => free _ (by unfold startItem; dsimp only; split <;> exact fun hc => by cases hc)
  rw [takeWork, hn] at h
  dsimp only at h
  split at h
  · exact absurd h (item _ _)
  rename_i hu
  split at h
  · exact absurd h (free _ fun hc => by cases hc)
  split at h
  · exact absurd h (free _ (startProbe_busy _ _ _ _ _))
  rename_i hp
  split at h
  · exact absurd h (item _ _)
  rename_i ho
  exact ⟨hu, hp, ho⟩

/-- R164, R165: a due POLL is begun, if the loop is free and running. -/
theorem takeWork_due {s t : State} {a : Nat} (h : takeWork s = s) (hl : t.loop = s.loop) (hn : s.loop.transaction = none)
    (hr : s.loop.state = .running) (ha : s.loop.duePoll t.clock.now = some a) : takeWork t = startPoll a t := by
  obtain ⟨hu, -, -⟩ := idle_lanes h hn
  rw [takeWork, hl, hn]
  dsimp only
  rw [hu, if_neg (by simp [hr]), ha]

/-- The loop takes nothing else. -/
theorem takeWork_undue {s t : State} (h : takeWork s = s) (hl : t.loop = s.loop)
    (ha : s.loop.transaction = none → s.loop.state = .running → s.loop.duePoll t.clock.now = none) : takeWork t = t := by
  by_cases hn : s.loop.transaction = none
  · obtain ⟨hu, hp, ho⟩ := idle_lanes h hn
    have hd : (if s.loop.state = .starting then none else s.loop.duePoll t.clock.now) = none := by
      cases hs : s.loop.state with
      | starting => rfl
      | running => exact ha hn hs
    rw [takeWork, hl, hn]
    dsimp only
    rw [hu, hd, hp, ho]
  · exact takeWork_of_busy t (by rw [hl]; exact hn)

/-- On an idle controller an event that leaves the settings, the Scanner, the loop and the Port Units alone ends with the loop's work. -/
theorem settle_clocked {s t : State} (h : s.idle) (h1 : t.settings = s.settings) (h2 : t.scanner = s.scanner) (h3 : t.loop = s.loop)
    (h4 : t.ports = s.ports) : settle t = takeWork t := by
  obtain ⟨hroom, hpath, -, hports⟩ := (idle_iff s).1 h
  have hsc : t.scanner.settlePath t.settings = t.scanner := by rw [h1, h2, hpath]
  rw [settle_served t (by rw [h3, hroom]), hsc]
  show transmit (takeWork t) = takeWork t
  have hp : ({ stage := s.ports.stage.transmit, front := s.ports.front.transmit } : Ports) = s.ports := congrArg State.ports hports
  rw [takeWork_eq t]
  unfold transmit
  dsimp only
  rw [h4, hp, ← h4]

/-! ## The step -/

/-- R76: the direction, by the line that makes the transition. -/
theorem stepsUp_encA (l : Lines) : stepsUp l .encA = (l.encA == l.encB) := by
  unfold stepsUp; cases l.encA <;> cases l.encB <;> rfl

theorem stepsUp_encB (l : Lines) : stepsUp l .encB = (l.encA != l.encB) := by
  unfold stepsUp; cases l.encA <;> cases l.encB <;> rfl

theorem stepPosition_eq_map (up : Bool) (travel : Nat) (p : Option Nat) :
    stepPosition up travel p = p.map fun p => min travel (if up then p + 1 else p - 1) := by cases p <;> rfl

/-- Settles O39: the step counts, and the loop takes the POLL that it makes due. -/
theorem encoderStepCounts : Obligations.EncoderStepCounts := by
  intro s line interval h hs now u
  have hu : s.stepped line interval = u := by
    have hclock : s.clock.stepped s.lines.lastStepAt interval = { s.clock with now := now } := by
      unfold Clock.stepped; simp only [now]
      cases s.lines.lastStepAt <;> rfl
    have hwatch : s.curtain.state.watch s.settings.curtain now = u.curtain.motionWatch := by
      show _ = (match s.curtain.state with
        | .lowering | .raising => some (now + s.settings.curtain.stallWindow * 1000)
        | _ => none)
      cases s.curtain.state <;> rfl
    unfold State.stepped
    rw [hclock, stepPosition_eq_map]
    dsimp only
    rw [hwatch]
    cases line with
    | encA => rw [stepsUp_encA]; rfl
    | encB => rw [stepsUp_encB]; rfl
  have hexec : exec (.encoderStep line interval) s = .next (takeWork u) := by
    rw [execEncoderStep_next line interval h.1, encoderStep_eq, if_neg hs, hu, settle_clocked (t := u) h.2 rfl rfl rfl rfl]
  obtain ⟨-, -, hwork, -⟩ := (idle_iff s).1 h.2
  rw [hexec]
  refine congrArg Host.Outcome.next ?_
  split
  · rename_i a ha
    split
    · rename_i hc
      exact takeWork_due hwork rfl hc.1 hc.2 ha
    · rename_i hc
      exact takeWork_undue hwork rfl fun hn hr => absurd ⟨hn, hr⟩ hc
  · rename_i ha
    exact takeWork_undue hwork rfl fun _ _ => ha

end Sys2Proof.Machine

/-! The limit lines (R74, R75, R78): the arrivals at the end positions, the conflict of the two limits, and the departures. -/

namespace Sys2Proof.Machine

/-! ## The arrival at the bottom -/

/-- R87: the end of a drop clears faults of the curtain and its drop record. -/
theorem endDrop_scene (s : State) : ∃ u g, (endDrop s).scene =
    (s.scene.withFaults u g).onCurtain fun c => { c with drop := none } := by
  unfold endDrop
  cases hd : s.curtain.drop with
  | none =>
    refine ⟨s.sup, id, ?_⟩
    show s.scene = { s.scene with curtain := { s.curtain.core with drop := none } }
    rw [← hd]; rfl
  | some d =>
    dsimp only
    cases d.overspeed with
    | true =>
      have e := congrArg (Scene.onCurtain fun c => { c with drop := none }) (clearCurtainFault_scene s .dropOverdue)
      exact ⟨_, _, e⟩
    | false =>
      have e := clearCurtainFault_scene (clearCurtainFault .dropOverdue s) .dropOverspeed
      rw [clearCurtainFault_scene s .dropOverdue] at e
      exact ⟨_, fun l => removeKind .dropOverspeed (removeKind .dropOverdue l),
        congrArg (Scene.onCurtain fun c => { c with drop := none }) e⟩

/-- R96: the arrival of a display drop at DOWN changes the performance record and the display drop's step alone. -/
theorem displayArrived_scene (s : State) : ∃ r d, (displayArrived s).scene =
    { s.scene with perf := r, curtain := { s.scene.curtain with display := d } } := by
  unfold displayArrived; split
  · exact ⟨_, _, curtainNotice_scene _ _⟩
  · exact ⟨s.perf, s.curtain.display, rfl⟩

/-- R74, R87, R92: the curtain at DOWN. -/
theorem reachDown_scene {s : State} (hne : s.curtain.state ≠ .down) :
    ∃ (r : PerfRecord) (u : Supervision) (g : List FaultKind → List FaultKind) (d : Option DisplayStep), (reachDown s).scene =
      { s.scene with
        perf := r
        sup := u
        curtain := { s.curtain.core.entered .down none with
          drop := none, timer := .idle, display := d, faultsHeld := g s.curtain.faultsHeld } } := by
  obtain ⟨u, g, e⟩ := endDrop_scene (shiftCurtain .down s)
  rw [shiftCurtain_scene] at e
  have henter := enterCurtain_scene s .bottomLimit (fun s => idleTimer .releaseNotNeeded (endDrop s)) hne
  rw [idleTimer_scene, e] at henter
  have harrives : ∃ y : State, y.scene = (enterCurtain .down .bottomLimit (fun s => idleTimer .releaseNotNeeded (endDrop s)) s).scene ∧
      reachDown s = displayArrived y := by
    unfold reachDown; dsimp only
    split
    · exact ⟨_, curtainNotice_scene _ _, rfl⟩
    · exact ⟨_, rfl, rfl⟩
  obtain ⟨y, hy, hreach⟩ := harrives
  obtain ⟨r, d, k⟩ := displayArrived_scene y
  rw [hy, henter] at k
  exact ⟨r, u, g, d, hreach ▸ k⟩

/-- R74: LIMIT_BOTTOM becomes active alone. -/
theorem bottomActive_alone {s : State} (hr : s.curtain.resolved = true) (hb : s.lines.limitBottom = false) (ht : s.lines.limitTop = false)
    (hs : s.curtain.state = .lowering ∨ s.curtain.state = .halted ∨ s.curtain.state = .dropping) : bottomActive s =
      reachDown { s with lines := { s.lines with limitBottom := true }, curtain := { s.curtain with position := some 0 } } := by
  rcases hs with h | h | h <;> simp [bottomActive, mapLines, mapCurtain, hr, hb, ht, h]

/-! ## The arrival at the top -/

/-- R74, R78, R91, R97: the curtain at UP. A display drop that was raising it has ended. -/
theorem reachUp_scene {s : State} (hne : s.curtain.state ≠ .up) (he : s.lines.emergRelease = false) (hc : s.calm) :
    ∃ (r : PerfRecord) (u : Supervision) (g : List FaultKind → List FaultKind) (d : Option DisplayStep), d ≠ some .announcing ∧
      (reachUp s).scene =
        { s.scene with
          perf := r
          sup := u
          curtain := { s.curtain.core.entered .up none with display := d, faultsHeld := g s.curtain.faultsHeld } } := by
  have henter := enterCurtain_scene s .topLimit (fun s => clearCurtainFault .obstructedDrop (clearCurtainFault .creep s)) hne
  rw [clearCurtainFault_scene, clearCurtainFault_scene, shiftCurtain_scene] at henter
  have hreach : ∃ (d : Option DisplayStep) (y : State), d ≠ some .announcing ∧ reachUp s = judgeEmergency y ∧
      y.scene = (enterCurtain .up .topLimit (fun s => clearCurtainFault .obstructedDrop (clearCurtainFault .creep s)) s).scene.onCurtain
        fun c => { c with display := d } := by
    unfold reachUp; dsimp only
    split
    · exact ⟨none, _, by simp, rfl, curtainNotice_scene _ _⟩
    · refine ⟨s.curtain.display, _, hc, rfl, ?_⟩
      rw [henter]; rfl
  obtain ⟨d, y, hd, hy, hscene⟩ := hreach
  rw [henter] at hscene
  have hy' : judgeEmergency y = y := judgeEmergency_of_released _ ((congrArg (fun x : Scene => x.lines.emergRelease) hscene).trans he)
  exact ⟨_, _, fun l => removeKind .obstructedDrop (removeKind .creep l), d, hd,
    (congrArg State.scene (hy.trans hy')).trans hscene⟩

/-- R74: LIMIT_TOP becomes active alone. -/
theorem topActive_alone {s : State} (hr : s.curtain.resolved = true) (hb : s.lines.limitBottom = false) (ht : s.lines.limitTop = false)
    (hs : s.curtain.state = .raising ∨ s.curtain.state = .halted) : topActive s =
      reachUp { s with lines := { s.lines with limitTop := true }, curtain := { s.curtain with position := some s.settings.curtain.travel } } := by
  rcases hs with h | h <;> simp [topActive, mapLines, mapCurtain, hr, hb, ht, h]

/-! ## Both limits -/

/-- R75: with both limits active the curtain is locked, its position unknown and its fault raised. -/
theorem limitConflict_locks {s : State} (he : s.lines.emergRelease = false) : (limitConflict s).curtain.state = .faultLocked ∧
    (limitConflict s).curtain.position = none ∧ FaultKind.limitConflict ∈ (limitConflict s).curtain.faultsHeld := by
  let b := mapCurtain (fun c => { c with position := none }) s
  unfold limitConflict; dsimp only
  split
  · rename_i hl
    rw [curtain_of_scene (raiseCurtainFault_scene b .limitConflict)]
    exact ⟨hl, rfl, mem_insertKind _ _⟩
  · rename_i hl
    have hf : ∀ u : State, (raiseCurtainFault .limitConflict (endDrop u)).scene.lines = u.scene.lines := fun u => by
      obtain ⟨v, g, e⟩ := endDrop_scene u
      rw [raiseCurtainFault_scene, e]; rfl
    have e := judgeEmergency_enterAbandoning_scene (s := b) .limitConflict .fault hf hl he
    obtain ⟨v, g, k⟩ := endDrop_scene (shiftCurtain .faultLocked b)
    rw [raiseCurtainFault_scene, k, shiftCurtain_scene] at e
    have hc : (lockCurtain .limitConflict (fun s => raiseCurtainFault .limitConflict (endDrop s)) b).curtain = _ := curtain_of_scene e
    rw [hc]
    exact ⟨rfl, rfl, mem_insertKind _ _⟩

/-- What the end of an event leaves of a curtain that is not UP. -/
theorem settle_landed_fields {s : State} (h : s.curtain.state ≠ .up) : (settle s).curtain.state = s.curtain.state ∧
    (settle s).curtain.position = s.curtain.position ∧ (settle s).curtain.faultsHeld = s.curtain.faultsHeld := by
  rw [((Leaves.refl s).settle.landed h).1]
  exact ⟨rfl, rfl, rfl⟩

/-- R75: the conflict at the end of its event. -/
theorem settle_limitConflict {s : State} (he : s.lines.emergRelease = false) : (settle (limitConflict s)).curtain.state = .faultLocked ∧
    (settle (limitConflict s)).curtain.position = none ∧
      FaultKind.limitConflict ∈ (settle (limitConflict s)).curtain.faultsHeld := by
  obtain ⟨hs, hp, hf⟩ := limitConflict_locks he
  obtain ⟨es, ep, ef⟩ := settle_landed_fields (s := limitConflict s) (by simp [hs])
  exact ⟨es.trans hs, ep.trans hp, ef ▸ hf⟩

/-! ## The departures -/

/-- R74: the timer that a departure from DOWN starts. -/
theorem restartRelease_scene (s : State) : ∃ t n, (restartRelease s).scene =
    s.scene.onCurtain fun c => { c with timer := t, holdsUsed := n } := by
  unfold restartRelease
  split
  · split
    · exact ⟨_, 0, curtainNotice_scene _ _⟩
    · exact ⟨s.curtain.timer, s.curtain.holdsUsed, rfl⟩
  · exact ⟨s.curtain.timer, s.curtain.holdsUsed, rfl⟩

/-- R74: a curtain that leaves its bottom limit with no general alarm that calls for the drop. -/
theorem bottomLost_scene {s : State} (hr : s.curtain.resolved = true) (he : s.lines.emergRelease = false) (ht : s.triggerEntries = [])
    (hb : s.lines.limitBottom = true) (hs : s.curtain.state = .down) :
    ∃ (r : PerfRecord) (t : ReleaseTimer) (n : Nat), (bottomLost s).scene =
      { s.scene with
        perf := r
        lines := { s.lines with limitBottom := false }
        curtain := { (s.curtain.core.entered .halted none).undisplayed with timer := t, holdsUsed := n } } := by
  let b := mapLines (fun l => { l with limitBottom := false }) s
  have hne : b.curtain.state ≠ .halted := by show s.curtain.state ≠ _; simp [hs]
  have hidle : restartsRelease b = false := by
    have hb : b.triggerEntries = [] := ht
    simp [restartsRelease, hb]
  have e := enterAbandoning_scene (s := b) .leftBottom .curtain restartRelease hne
  obtain ⟨t, n, k⟩ := restartRelease_scene (shiftCurtain .halted b)
  rw [k, shiftCurtain_scene] at e
  have hlost : bottomLost s = judgeEmergency (enterCurtain .halted .leftBottom (fun u => abandonDisplay .curtain (restartRelease u)) b) := by
    unfold bottomLost; dsimp only
    rw [if_pos hb, if_pos ⟨hr, hs⟩, if_neg (by rw [hidle]; simp)]
  have hj := judgeEmergency_of_released _ ((congrArg (fun x : Scene => x.lines.emergRelease) e).trans he)
  exact ⟨_, t, n, (congrArg State.scene (hlost.trans hj)).trans e⟩

/-- R78: a curtain at UP that leaves its top limit by itself has crept. -/
theorem topLost_scene {s : State} (hr : s.curtain.resolved = true) (he : s.lines.emergRelease = false)
    (ht : s.lines.limitTop = true) (hs : s.curtain.state = .up) :
    ∃ (r : PerfRecord) (u : Supervision), r.phase ≠ .inShow ∧ (topLost s).scene =
      { s.scene with
        perf := r
        sup := u
        lines := { s.lines with limitTop := false }
        curtain := { (s.curtain.core.entered .halted none).undisplayed with faultsHeld := insertKind .creep s.curtain.faultsHeld } } := by
  let b := mapLines (fun l => { l with limitTop := false }) s
  have hne : b.curtain.state ≠ .halted := by show s.curtain.state ≠ _; simp [hs]
  have e := judgeEmergency_enterAbandoning_scene (s := b) .creep .curtain (faults := raiseCurtainFault .creep)
    (fun u => by rw [raiseCurtainFault_scene]; rfl) hne he
  rw [raiseCurtainFault_scene, shiftCurtain_scene] at e
  have hlost : topLost s = judgeEmergency (enterCurtain .halted .creep (fun u => abandonDisplay .curtain (raiseCurtainFault .creep u)) b) := by
    unfold topLost; dsimp only
    rw [if_pos ht, if_pos ⟨hr, hs⟩]; rfl
  exact ⟨_, _, shiftCurtain_phase b .halted hs, (congrArg State.scene hlost).trans e⟩

/-- R74, R75: a limit that becomes active with the other active. -/
theorem topActive_conflict {s : State} (hr : s.curtain.resolved = true) (ht : s.lines.limitTop = false) (hb : s.lines.limitBottom = true) :
    topActive s = limitConflict
      { s with lines := { s.lines with limitTop := true }, curtain := { s.curtain with position := some s.settings.curtain.travel } } := by
  simp [topActive, mapLines, mapCurtain, hr, hb, ht]

theorem bottomActive_conflict {s : State} (hr : s.curtain.resolved = true) (ht : s.lines.limitTop = true) (hb : s.lines.limitBottom = false) :
    bottomActive s = limitConflict
      { s with lines := { s.lines with limitBottom := true }, curtain := { s.curtain with position := some 0 } } := by
  simp [bottomActive, mapLines, mapCurtain, hr, hb, ht]

/-- Settles O38: the limits reached alone and together, then the limits left. -/
theorem limitChanges : Obligations.LimitChanges := by
  refine ⟨fun s hh hr he => ⟨fun hb ht hs => ?_, fun ht hb hs hc => ?_, fun ht hb => ?_, fun ht hb => ?_⟩,
    fun s hh hr he hg => ⟨fun hb hs => ?_, fun ht hs => ?_⟩⟩
  · refine ⟨settle (bottomActive s), lineCommand_next _ _ hh, ?_⟩
    rw [bottomActive_alone hr hb ht hs]
    let b : State := { s with lines := { s.lines with limitBottom := true }, curtain := { s.curtain with position := some 0 } }
    have hne : b.curtain.state ≠ .down := by
      show s.curtain.state ≠ _
      rcases hs with h | h | h <;> simp [h]
    obtain ⟨r, u, g, d, e⟩ := reachDown_scene hne
    obtain ⟨x, k⟩ := settle_landed_scene e (show CurtainState.down ≠ .up by decide)
    rw [curtain_of_scene k]
    exact ⟨congrArg Scene.lines k, rfl, rfl, rfl, rfl, rfl⟩
  · refine ⟨settle (topActive s), lineCommand_next _ _ hh, ?_⟩
    rw [topActive_alone hr hb ht hs]
    let b : State :=
      { s with lines := { s.lines with limitTop := true }, curtain := { s.curtain with position := some s.settings.curtain.travel } }
    have hne : b.curtain.state ≠ .up := by
      show s.curtain.state ≠ _
      rcases hs with h | h <;> simp [h]
    obtain ⟨r, u, g, d, hd, e⟩ := reachUp_scene hne he hc
    have k := settle_scene e hd
    rw [curtain_of_scene k]
    exact ⟨congrArg Scene.lines k, rfl, rfl, rfl, rfl⟩
  · refine ⟨settle (topActive s), lineCommand_next _ _ hh, ?_⟩
    rw [topActive_conflict hr ht hb]
    exact settle_limitConflict he
  · refine ⟨settle (bottomActive s), lineCommand_next _ _ hh, ?_⟩
    rw [bottomActive_conflict hr ht hb]
    exact settle_limitConflict he
  · obtain ⟨r, t, n, e⟩ := bottomLost_scene hr he hg hb hs
    have k := settle_scene e fun h => by cases h
    refine ⟨settle (bottomLost s), lineCommand_next _ _ hh, congrArg Scene.lines k, ?_⟩
    rw [curtain_of_scene k]
    exact ⟨rfl, rfl⟩
  · obtain ⟨r, u, hp, e⟩ := topLost_scene hr he ht hs
    have k := settle_scene e fun h => by cases h
    have hperf : (settle (topLost s)).perf = r := congrArg Scene.perf k
    refine ⟨settle (topLost s), lineCommand_next _ _ hh, congrArg Scene.lines k, ?_⟩
    rw [curtain_of_scene k, hperf]
    exact ⟨rfl, rfl, mem_insertKind _ _, hp⟩

end Sys2Proof.Machine

/-! The display drop: CURTAIN DISPLAY announces (R95), and the end of its dwell raises the curtain (R97). -/

namespace Sys2Proof.Machine

/-! ## CURTAIN DISPLAY -/

/-- R95: the state in which a display drop has begun, before its announcement is placed. -/
def State.announcing (s : State) (q : Ports) : State :=
  { s with curtain := { s.curtain with display := some .announcing, announcement := some s.nextInternalTag }, ports := q }

/-- R95: the announcement of a display drop, as the settings give it. -/
def announcementOrder (s : State) : Order :=
  internalOrder s .curtain .showing (.message s.settings.curtain.displayMessage) s.settings.curtain.displayTarget (.times 1) .now none

/-- R95, R127: with the call line held by another order the announcement joins the queue, and nothing else happens. -/
theorem startDisplay_lineHeld {s : State} (hp : s.perf.phase ≠ .evacuation) (hl : s.lineHeld) :
    ∃ q, startDisplay s = joinQueue (announcementOrder s) (s.announcing q) := by
  obtain ⟨q, hn⟩ : ∃ q, curtainNotice .displayStarted (mapCurtain (fun c => { c with
      display := some .announcing, announcement := some s.nextInternalTag }) s) = s.announcing q := notify_eq _ _ _
  have hphase : (s.announcing q).perf.phase ≠ .evacuation := hp
  have hroom : (s.announcing q).calls.queue.length < 16 := hl.2.2
  refine ⟨q, ?_⟩
  unfold startDisplay; dsimp only
  rw [hn, placeAnnouncement]
  rw [if_neg hphase, if_pos hroom]
  exact contend_joinQueue (s := s.announcing q) hl (show CallClass.showing ≠ .lifeSafety by decide)

/-- On an idle controller a display drop that waits for its announcement has only its frames to send. -/
theorem settle_announcing {s : State} (h : s.idle) (tag : Tag) (q : Ports) :
    settle (accept .stage tag (joinQueue (announcementOrder s) (s.announcing q))) =
      transmit (accept .stage tag (joinQueue (announcementOrder s) (s.announcing q))) :=
  settle_frames s _ h rfl rfl rfl rfl rfl

/-- Settles O43: the request, then the end of the dwell. -/
theorem displayDropGoesOn : Obligations.DisplayDropGoesOn := by
  intro s tag
  constructor
  · intro h ho hg hl
    obtain ⟨q, e⟩ := startDisplay_lineHeld (by rw [gateDisplay_none hg]; simp) hl
    refine ⟨_, stageRequest_taken h.1 ho hg, settle_answered ho ((Keeps.refl s).startDisplay.intakes .stage), ?_⟩
    rw [e, settle_announcing h.2]
    refine ⟨rfl, rfl, rfl, rfl, ?_⟩
    exact ⟨_, makeDue_mem (List.mem_append_right _ (List.mem_singleton.2 rfl)) rfl rfl, rfl, rfl, rfl, rfl, rfl⟩
  · intro e hh hd he ha hs
    let b := mapCurtain (fun c => { c with display := some .raising }) s
    have hup : b.curtain.state ≠ .up := by show s.curtain.state ≠ _; simp [hs]
    have hne : b.curtain.state ≠ .raising := by show s.curtain.state ≠ _; simp [hs]
    have k := settle_scene (enterCurtain_plain_scene .display hne (.inl hup)) fun h => by cases h
    refine ⟨settle (enterCurtain .raising .display id b), ?_, ?_⟩
    · show execDwellEnd s = _
      rw [execDwellEnd, command_next _ hh, hd]
      dsimp only
      rw [if_pos he, judgeDisplayRaise, if_neg (by simp [ha]), if_neg (by simp [hs])]
    · rw [curtain_of_scene k]
      exact ⟨rfl, rfl, rfl, congrArg Scene.perf k⟩

end Sys2Proof.Machine

/-! MANUAL LEVEL and GO PRESET (R107, R108): what a claim change makes of every lamp channel, and the requests with the end of their event. -/

namespace Sys2Proof.Machine

/-! ## Lamp channels changed -/

/-- A lamp channel's record changed under its number. -/
def Lamp.changed (g : Nat → Lamp → Lamp) (l : Lamp) : Lamp := { g l.num l with num := l.num }

theorem lamp_of_mem {u : Light} (hn : u.numbered) {l : Lamp} (h : l ∈ u.lamps) : u.lamp l.num = some l := by
  obtain ⟨x, hx⟩ := Option.isSome_iff_exists.1 (List.find?_isSome (p := fun x => x.num == l.num) |>.2 ⟨l, h, beq_self_eq_true _⟩)
  rw [Light.lamp, hx, List.inj_on_of_nodup_map hn (List.mem_of_find?_eq_some hx) h (lamp_num hx)]

theorem changeLamp_lamps (n : Nat) (g : Nat → Lamp → Lamp) {f : Field} (hn : f.light.numbered) :
    (f.changeLamp n (g n)).light.lamps = f.light.lamps.map fun l => if l.num = n then l.changed g else l := by
  unfold Field.changeLamp; split
  next hnone =>
    refine (List.map_id _).symm.trans (List.map_congr_left fun l hl => (if_neg fun e => ?_).symm)
    exact List.find?_eq_none.1 hnone l hl (beq_iff_eq.2 e)
  next x hx =>
    have hnum : x.num = n := lamp_num hx
    have hput : (f.light.putLamp { g n x with num := x.num }).lamps = f.light.lamps.map fun l => if l.num = n then l.changed g else l := by
      refine List.map_congr_left fun l hl => ?_
      by_cases hln : l.num = n
      · obtain rfl : l = x := List.inj_on_of_nodup_map hn hl (List.mem_of_find?_eq_some hx) (hln.trans hnum.symm)
        simp [Lamp.changed, hln]
      · simp [hnum, hln]
    dsimp only; split
    · rw [judgeLamp_lamps]; exact hput
    · exact hput

/-- Several lamp channels changed: each as often as it is listed. -/
theorem changeLamps_lamps (g : Nat → Lamp → Lamp) (ns : List Nat) : ∀ {f : Field}, f.light.numbered →
    (f.changeLamps ns g).light.lamps = f.light.lamps.map fun l => (Lamp.changed g)^[ns.count l.num] l := by
  unfold Field.changeLamps
  induction ns with
  | nil => intro f _; simp
  | cons n ns ih =>
    intro f hn
    have hn' : (f.changeLamp n (g n)).light.numbered := by unfold Light.numbered; rw [changeLamp_nums]; exact hn
    rw [List.foldl_cons, ih hn', changeLamp_lamps n g hn, List.map_map]
    refine List.map_congr_left fun l _ => ?_
    by_cases hl : l.num = n
    · simp [hl, Lamp.changed]
    · simp [hl, Ne.symm hl]

/-! ## Claims -/

/-- A lamp channel's number with its four claims. -/
def Lamp.held (l : Lamp) : Nat × Option LevelClaim × Bool × Option LevelClaim × Option LevelClaim :=
  (l.num, l.safety, l.curtain, l.manual, l.cue)

theorem retarget_held (rest release : Nat) (lit : Bool) (l : Lamp) : (l.retarget rest release lit).held = l.held := by
  unfold Lamp.retarget Lamp.startFade
  split
  · rfl
  · split
    · rfl
    · split <;> rfl

/-- R104: a claim change that is the same made twice, on every channel of a list. -/
theorem claim_held {g : Lamp → Lamp} (hnum : ∀ l, (g l).num = l.num) (hcong : ∀ l x : Lamp, x.held = l.held → (g x).held = (g l).held)
    (hidem : ∀ l, (g (g l)).held = (g l).held) (ns : List Nat) (release : Lamp → Nat) {f : Field} (hn : f.light.numbered) :
    (f.claim ns g release).light.lamps.map Lamp.held = f.light.lamps.map fun l => if l.num ∈ ns then (g l).held else l.held := by
  let G : Nat → Lamp → Lamp := fun n l => (g l).retarget (f.settings.lamp n).rest (release l) f.light.lit
  have hone : ∀ l, (Lamp.changed G l).held = (g l).held := fun l => by
    have e := retarget_held (f.settings.lamp l.num).rest (release l) f.light.lit (g l)
    refine Eq.trans ?_ e
    have : (G l.num l).num = l.num := (congrArg Prod.fst e).trans (hnum l)
    simp only [Lamp.changed, Lamp.held, Prod.mk.injEq, and_true, G] at this ⊢
    exact this.symm
  have hmany : ∀ (k : Nat) (l : Lamp), ((Lamp.changed G)^[k + 1] l).held = (g l).held := fun k l => by
    induction k with
    | zero => exact hone l
    | succ k ih => rw [Function.iterate_succ_apply', hone]; exact (hcong _ _ ih).trans (hidem l)
  refine (congrArg (List.map Lamp.held) (changeLamps_lamps G ns hn)).trans ?_
  rw [List.map_map]
  refine List.map_congr_left fun l _ => ?_
  by_cases hl : l.num ∈ ns
  · obtain ⟨k, hk⟩ := Nat.exists_eq_succ_of_ne_zero (List.count_pos_iff.2 hl).ne'
    simp only [Function.comp, hk, if_pos hl]
    exact hmany k l
  · simp [List.count_eq_zero_of_not_mem hl, hl]

/-! ## The end of the event -/

/-- What a request that changes claims leaves, with `claims` the channels' claims after it. -/
structure SetsClaims (p : Port) (tag : Tag) (claims : List (Nat × Option LevelClaim × Option LevelClaim × Option LevelClaim)) (s t : State) : Prop where
  answered : t.answered p tag (.done .empty)
  claims : t.light.lamps.map (fun l => (l.num, l.safety, l.manual, l.cue)) = claims
  curtain : s.calm → t.light.lamps.map (·.curtain) = s.light.lamps.map (·.curtain)
  perf : t.perf = s.perf
  sup : t.sup = s.sup
  settings : t.settings = s.settings

/-- A claim change that leaves the CURTAIN claims, answered DONE, with the end of its event. -/
theorem settle_setsClaims {s : State} {p : Port} {tag : Tag} {k : RequestKind} {ns : List Nat} {g : Lamp → Lamp} (release : Lamp → Nat)
    (hs : s.numbered) (ho : s.owns p tag k = true) (hnum : ∀ l, (g l).num = l.num)
    (hcong : ∀ l x : Lamp, x.held = l.held → (g x).held = (g l).held) (hidem : ∀ l, (g (g l)).held = (g l).held)
    (hcur : ∀ l, (g l).curtain = l.curtain) :
    SetsClaims p tag (s.light.lamps.map fun l => if l.num ∈ ns then (g l).claims else l.claims) s
      (settle (done p tag (onField (Field.claim ns g release) s))) := by
  have hl := (Leaves.refl (done p tag (onField (Field.claim ns g release) s))).settle
  have hheld := claim_held hnum hcong hidem ns release (f := s.field) hs.2
  have hn : ((s.field.claim ns g release).light.lamps.map Lamp.num).Nodup := by
    have := congrArg (List.map Prod.fst) hheld
    simp only [List.map_map] at this
    refine Eq.mpr (congrArg List.Nodup (this.trans (List.map_congr_left fun l _ => ?_))) hs.2
    simp only [Function.comp]
    split
    · exact hnum l
    · rfl
  refine ⟨settle_answered ho rfl, (hl.claims hn).trans ?_, fun hc => ?_, hl.perf, hl.sup, hl.settings⟩
  · have := congrArg (List.map fun h => (h.1, h.2.1, h.2.2.2)) hheld
    simp only [List.map_map] at this
    refine this.trans (List.map_congr_left fun l _ => ?_)
    simp only [Function.comp]
    split <;> rfl
  · have hcurtain := congrArg (List.map Lamp.curtain) (hl.calm hc).2
    have := congrArg (List.map fun h => h.2.2.1) hheld
    simp only [List.map_map] at this hcurtain
    refine hcurtain.trans (this.trans (List.map_congr_left fun l _ => ?_))
    simp only [Function.comp]
    split
    · exact hcur l
    · rfl

/-! ## The requests -/

theorem execManualLevel_owned {s : State} {p : Port} {tag : Tag} {ns : List Nat} {level fade : Nat} (hh : s.resetHeld = false)
    (ho : s.owns p tag .manualLevel = true) (hg : gateManual p ns (decide (level ≤ 100)) fade s = none) :
    exec (.manualLevel p tag ns level fade) s = .next (settle (done p tag (onField (Field.setManual ns level fade) s))) := by
  show execManualLevel p tag ns level fade s = _
  rw [execManualLevel, request_owned _ hh ho, hg]

theorem execManualLevelRelease_owned {s : State} {p : Port} {tag : Tag} {ns : List Nat} {fade : Nat} (hh : s.resetHeld = false)
    (ho : s.owns p tag .manualLevel = true) (hg : gateManual p ns true fade s = none) :
    exec (.manualLevelRelease p tag ns fade) s =
      .next (settle (done p tag (onField (Field.releaseManual (manualHeld s.light ns) fade) s))) := by
  show execManualLevelRelease p tag ns fade s = _
  rw [execManualLevelRelease, request_owned _ hh ho, hg]

theorem execGoPreset_stage {s : State} {tag : Tag} {n : Nat} {v : Preset} (hh : s.resetHeld = false)
    (ho : s.owns .stage tag .goPreset = true) (hv : s.settings.preset n = some v) (hp : s.perf.phase ≠ .evacuation) :
    exec (.goPreset .stage tag n) s = .next (settle (done .stage tag (onField (Field.goPreset v) s))) := by
  show execGoPreset .stage tag n s = _
  rw [execGoPreset, request_owned _ hh ho, hv]
  dsimp only
  rw [if_neg hp]

/-- The channels that a release changes are those that hold a MANUAL claim (R107). -/
theorem mem_manualHeld {u : Light} (hn : u.numbered) {l : Lamp} (h : l ∈ u.lamps) (ns : List Nat) :
    l.num ∈ manualHeld u ns ↔ l.num ∈ ns ∧ l.manual.isSome = true := by
  simp [manualHeld, lamp_of_mem hn h]

theorem held_fields {l x : Lamp} (h : x.held = l.held) :
    x.num = l.num ∧ x.safety = l.safety ∧ x.curtain = l.curtain ∧ x.manual = l.manual ∧ x.cue = l.cue := by
  simpa [Lamp.held] using h

theorem cued_eq (v : Preset) (l : Lamp) : l.cued v = { l with cue := (Preset.cueOf v l.num).or l.cue } := by
  unfold Lamp.cued; split
  next c hc => simp [hc]
  next hc => simp [hc]

theorem manualLevel_sets {s : State} {p : Port} {tag : Tag} (ns : List Nat) (c : Option LevelClaim) (release : Lamp → Nat) (hs : s.numbered)
    (ho : s.owns p tag .manualLevel = true) :
    SetsClaims p tag (s.light.lamps.map fun l => (l.num, l.safety, if l.num ∈ ns then c else l.manual, l.cue)) s
      (settle (done p tag (onField (Field.claim ns (fun l => { l with manual := c }) release) s))) := by
  have h := settle_setsClaims (ns := ns) (g := fun l => { l with manual := c }) release hs ho (fun _ => rfl) (fun l x e => by
    obtain ⟨h1, h2, h3, -, h5⟩ := held_fields e
    simp [Lamp.held, h1, h2, h3, h5]) (fun _ => rfl) fun _ => rfl
  refine { h with claims := h.claims.trans (List.map_congr_left fun l _ => ?_) }
  split <;> rfl

theorem goPreset_sets {s : State} {tag : Tag} (v : Preset) (hs : s.numbered) (ho : s.owns .stage tag .goPreset = true) :
    SetsClaims .stage tag (s.light.lamps.map fun l => (l.num, l.safety, l.manual, (Preset.cueOf v l.num).or l.cue)) s
      (settle (done .stage tag (onField (Field.goPreset v) s))) := by
  have h := settle_setsClaims (ns := v.levels.map (·.1)) (g := Lamp.cued v) (fun _ => 0) hs ho (fun l => by rw [cued_eq]) (fun l x e => by
    obtain ⟨h1, h2, h3, h4, h5⟩ := held_fields e
    simp [cued_eq, Lamp.held, h1, h2, h3, h4, h5]) (fun l => by
    simp only [cued_eq, Lamp.held]
    cases Preset.cueOf v l.num <;> rfl) (fun l => by rw [cued_eq])
  refine { h with claims := h.claims.trans (List.map_congr_left fun l _ => ?_) }
  split
  · rw [cued_eq]; rfl
  next hn =>
    have : Preset.cueOf v l.num = none := by
      refine Option.map_eq_none_iff.2 (List.find?_eq_none.2 fun q hq e => hn ?_)
      exact List.mem_map.2 ⟨q, hq, beq_iff_eq.1 e⟩
    rw [this]; rfl

/-- Settles O44: the two MANUAL LEVEL requests, then GO PRESET. -/
theorem manualAndPreset : Obligations.ManualAndPreset := by
  refine ⟨fun s p tag ns level fade hh hs => ⟨fun ho hg => ?_, fun ho hg => ?_⟩, fun s tag n v hh hs ho hv hp => ?_⟩
  · have h := manualLevel_sets ns (some ⟨level, fade⟩) (fun _ => 0) hs ho
    exact ⟨_, execManualLevel_owned hh ho hg, h.answered, h.claims, h.curtain, h.perf, h.sup, h.settings⟩
  · have h := manualLevel_sets (manualHeld s.light ns) none (fun _ => fade) hs ho
    refine ⟨_, execManualLevelRelease_owned hh ho hg, h.answered, h.claims.trans ?_, h.curtain, h.perf, h.sup, h.settings⟩
    refine List.map_congr_left fun l hl => ?_
    simp only [mem_manualHeld hs.2 hl]
    by_cases hm : l.num ∈ ns
    · cases hc : l.manual <;> simp [hm]
    · simp [hm]
  · have h := goPreset_sets v hs ho
    refine ⟨_, execGoPreset_stage hh ho hv hp, h.answered, h.claims.trans ?_, h.curtain, h.perf, h.sup, h.settings⟩
    refine List.map_congr_left fun l _ => ?_
    unfold Preset.cueOf
    cases v.levels.find? fun q => q.1 == l.num <;> rfl

end Sys2Proof.Machine

/-! The fade engine and the flash clock (R106, R111): what each advance makes of every lamp channel. -/

namespace Sys2Proof.Machine

/-! ## Every lamp channel changed once -/

/-- A change of every lamp channel, one after another. -/
theorem changeLamps_all (g : Lamp → Lamp) {f : Field} (hn : f.light.numbered) :
    (f.changeLamps f.numbers fun _ => g).light.lamps = f.light.lamps.map fun l => { g l with num := l.num } := by
  rw [changeLamps_lamps (fun _ => g) _ hn]
  refine List.map_congr_left fun l hl => ?_
  have hone : f.numbers.count l.num = 1 := List.count_eq_one_of_mem hn (List.mem_map_of_mem hl)
  rw [hone]
  rfl

theorem advance_still {l : Lamp} (h : l.fade = none) : l.advance = l := by rw [Lamp.advance, h]

theorem advance_fading {l : Lamp} {d : Fade} (h : l.fade = some d) : l.advance =
    if d.duration ≤ d.elapsed + 50 then { l with fade := none, current := d.goal }
    else { l with fade := some { d with elapsed := d.elapsed + 50 }, current := Fade.level { d with elapsed := d.elapsed + 50 } } := by
  rw [Lamp.advance, h]
  simp [Fade.lastAdvance]

theorem advance_num (l : Lamp) : l.advance.num = l.num := by
  unfold Lamp.advance
  split
  · rfl
  · split <;> rfl

theorem advanceFades_lamps {f : Field} (hn : f.light.numbered) : f.advanceFades.light.lamps = f.light.lamps.map Lamp.advance := by
  refine (changeLamps_all Lamp.advance hn).trans (List.map_congr_left fun l _ => ?_)
  rw [← advance_num]

/-- R106: a channel in a half of the flash clock. -/
def Lamp.flashed (lit : Bool) (l : Lamp) : Lamp := if l.target = .flash then { l with current := flashLevel lit } else l

theorem flashHalf_lamps {f : Field} (hn : f.light.numbered) : f.flashHalf.light.lamps = f.light.lamps.map (Lamp.flashed (!f.light.lit)) := by
  refine (changeLamps_all (f := { f with light := { f.light with lit := !f.light.lit } }) (Lamp.flashed _) hn).trans
    (List.map_congr_left fun l _ => ?_)
  unfold Lamp.flashed; split <;> rfl

/-! ## The end of the event -/

/-- R96: what no end of an event changes of the lamp channels while no announcement is waited for. -/
theorem settle_calm_lamps {β : Type} {s : State} (hc : s.calm) (view : Lamp → β) (hv : ∀ l, view l.unsent = view l) :
    (settle s).light.lamps.map view = s.light.lamps.map view := by
  have h := congrArg (List.map view) ((Leaves.refl s).settle.calm hc).2
  simp only [List.map_map] at h
  have e : view ∘ Lamp.unsent = view := funext hv
  rwa [e] at h

theorem settle_lit (s : State) : (settle s).light.lit = s.light.lit := (Leaves.refl s).settle.lit

/-! ## The commands -/

theorem execFadeAdvance_next {s : State} (hh : s.resetHeld = false) (hd : s.startStep = .done) :
    exec .fadeAdvance s = .next (settle (fadesPass s)) := by
  show execFadeAdvance s = _
  rw [execFadeAdvance, command_next _ hh, if_pos hd]

theorem execFadeEnd_next {s : State} (n : Nat) (hh : s.resetHeld = false) (hd : s.startStep = .done) :
    exec (.fadeEnd n) s = .next (settle (if fadeEnds n s = true then fadesPass s else s)) := by
  show execFadeEnd n s = _
  rw [execFadeEnd, command_next _ hh]
  simp [hd]

theorem execFlashClockHalf_next {s : State} (hh : s.resetHeld = false) (hd : s.startStep = .done) :
    exec .flashClockHalf s = .next (settle (onField Field.flashHalf (mapClock Clock.flashPassed s))) := by
  show execFlashClockHalf s = _
  rw [execFlashClockHalf, command_next _ hh, if_pos hd]

theorem fadeEnds_iff (n : Nat) (s : State) :
    fadeEnds n s = true ↔ ∃ l d, s.light.lamp n = some l ∧ l.fade = some d ∧ d.duration ≤ d.elapsed + 50 := by
  unfold fadeEnds Fade.lastAdvance
  cases s.light.lamp n with
  | none => simp
  | some l => cases hd : l.fade <;> simp [hd]

theorem fadesPass_lamps {s : State} (hn : s.numbered) : (fadesPass s).light.lamps = s.light.lamps.map Lamp.advance :=
  advanceFades_lamps (f := s.field) hn.2

/-- Settles O45: an advance of the fade engine, FADE_END where no fade ends, and the flash clock. -/
theorem lampsMoveInTime : Obligations.LampsMoveInTime := by
  intro s hh hd hn hc
  have hcf : (fadesPass s).calm := hc
  refine ⟨⟨settle (fadesPass s), execFadeAdvance_next hh hd, ?_, ?_, ?_, fun n l d hl hf he => ?_⟩, fun n hi hno => ?_,
    settle (onField Field.flashHalf (mapClock Clock.flashPassed s)), execFlashClockHalf_next hh hd, ?_, ?_⟩
  · exact (settle_lit _).trans (changeLamps_lit _ _ s.field)
  · rw [settle_calm_lamps hcf _ fun _ => rfl, fadesPass_lamps hn, List.map_map]
    refine List.map_congr_left fun l _ => ?_
    simp only [Function.comp]
    cases hf : l.fade with
    | none => rw [advance_still hf, hf]
    | some d =>
      rw [advance_fading hf]
      dsimp only
      split <;> rfl
  · rw [settle_calm_lamps hcf _ fun _ => rfl, fadesPass_lamps hn, List.map_map]
    refine List.map_congr_left fun l _ => ?_
    simp only [Function.comp, Lamp.advance]
    split
    · rfl
    · split <;> rfl
  · rw [execFadeEnd_next n hh hd, if_pos ((fadeEnds_iff n s).2 ⟨l, d, hl, hf, he⟩)]
  · rw [execFadeEnd_next n hh hd, if_neg fun h => ?_, hi]
    obtain ⟨l, d, hl, hf, he⟩ := (fadeEnds_iff n s).1 h
    exact absurd (hno l d hl hf) (Nat.not_lt.2 he)
  · exact (settle_lit _).trans (changeLamps_lit _ _ _)
  · have hcx : (onField Field.flashHalf (mapClock Clock.flashPassed s)).calm := hc
    have hlamps : (onField Field.flashHalf (mapClock Clock.flashPassed s)).light.lamps = s.light.lamps.map (Lamp.flashed (!s.light.lit)) :=
      flashHalf_lamps (f := s.field) hn.2
    rw [settle_calm_lamps hcx _ fun _ => rfl, hlamps, List.map_map]
    refine List.map_congr_left fun l _ => ?_
    simp only [Function.comp, Lamp.flashed]
    split
    · cases s.light.lit <;> rfl
    · rfl

end Sys2Proof.Machine

/-! The free loop's next work (R164 to R166, R172 to R174, R177): what each step of the order finds, and a SET's levels at its issue (R116). -/

namespace Sys2Proof.Machine

/-! ## The order of R164 -/

section
variable {s : State}

/-- R164: in STARTING the free loop takes a survey probe and nothing else. -/
theorem takeWork_starting (hn : s.loop.transaction = none) (hs : s.loop.state = .starting) :
    (takeWork s).loop.transaction = s.loop.survey.map fun v => .probe v.next .survey := by
  have hp : s.loop.nextProbe = s.loop.survey.map fun v => (v.next, .survey) := by rw [Loop.nextProbe, hs]
  rw [takeWork, hn]
  simp only [hs, if_true, hp]
  cases s.loop.survey with
  | none => exact hn
  | some v => rfl

theorem takeWork_urgent {i : LaneItem} (hn : s.loop.transaction = none) (hr : s.loop.state = .running)
    (hu : s.loop.urgent.find? s.loop.eligible = some i) : takeWork s = startItem .urgent i s := by
  rw [takeWork, hn]
  simp [hr, hu]

theorem takeWork_poll {a : Nat} (hn : s.loop.transaction = none) (hr : s.loop.state = .running)
    (hu : s.loop.urgent.find? s.loop.eligible = none) (hp : s.loop.duePoll s.clock.now = some a) : takeWork s = startPoll a s := by
  rw [takeWork, hn]
  simp [hr, hu, hp]

theorem takeWork_probe {a : Nat} {k : ProbeKind} (hn : s.loop.transaction = none) (hr : s.loop.state = .running)
    (hu : s.loop.urgent.find? s.loop.eligible = none) (hp : s.loop.duePoll s.clock.now = none) (hk : s.loop.nextProbe = some (a, k)) :
    takeWork s = { s with loop := s.loop.startProbe a k s.settings.loop.replyWindow s.clock.now } := by
  rw [takeWork, hn]
  simp [hr, hu, hp, hk]

theorem takeWork_ordinary {i : LaneItem} (hn : s.loop.transaction = none) (hr : s.loop.state = .running)
    (hu : s.loop.urgent.find? s.loop.eligible = none) (hp : s.loop.duePoll s.clock.now = none) (hk : s.loop.nextProbe = none)
    (ho : s.loop.ordinary.find? s.loop.eligible = some i) : takeWork s = startItem .ordinary i s := by
  rw [takeWork, hn]
  simp [hr, hu, hp, hk, ho]

theorem takeWork_nothing (hn : s.loop.transaction = none) (hr : s.loop.state = .running)
    (hu : s.loop.urgent.find? s.loop.eligible = none) (hp : s.loop.duePoll s.clock.now = none) (hk : s.loop.nextProbe = none)
    (ho : s.loop.ordinary.find? s.loop.eligible = none) : takeWork s = s := by
  rw [takeWork, hn]
  simp [hr, hu, hp, hk, ho]

end

/-! ## An item begun -/

/-- R116: the levels of a SET, one for each output. -/
theorem levels_eq (a : Nat) (f : Field) : f.levels a = match f.light.unit a with
    | none => []
    | some u => (List.range u.outputs).map fun k =>
        match f.light.lamps.find? (fun l => l.placed && (f.settings.lamp l.num).unit == a && (f.settings.lamp l.num).output == k + 1) with
        | some l => l.current
        | none => 0 := by
  unfold Field.levels Field.lampAt
  cases f.light.unit a with
  | none => rfl
  | some u =>
    refine List.map_congr_left fun k _ => ?_
    cases f.light.lamps.find? _ <;> rfl

theorem startItem_of_set {a : Nat} {c : TrafficClass} {i : LaneItem} (lane : Lane) (s : State) (hi : i.work = .set a c) :
    startItem lane i s = { s with
      light := (s.field.issue a).light
      loop := (s.loop.markItem lane i).begin (.set a (s.field.levels a) (s.field.carriesSafety a)) s.settings.loop.replyWindow s.clock.now } := by
  obtain ⟨w, m⟩ := i
  cases hi
  rfl

/-- R116, R166: a SET begun is issued with the levels of the moment. -/
theorem startItem_set {a : Nat} {c : TrafficClass} {i : LaneItem} (lane : Lane) {s : State} (hi : i.work = .set a c) :
    s.issued (startItem lane i s) a := by
  have hlight : (startItem lane i s).light = (s.field.issue a).light := by rw [startItem_of_set lane s hi]
  refine ⟨?_, ?_, fun d e hq => ?_⟩
  · rw [startItem_of_set lane s hi]
    exact congrArg some (congrArg (fun l => Transaction.set a l (s.field.carriesSafety a)) (levels_eq a s.field))
  · rw [hlight]
    refine List.map_congr_left fun l _ => ?_
    show (if (l.placed && (s.settings.lamp l.num).unit == a) = true then { l with sent := some l.current } else l) = _
    simp only [Bool.and_eq_true, beq_iff_eq]
  · obtain ⟨x, hx, hr⟩ := Option.map_eq_some_iff.1 hq
    have hunit : (startItem lane i s).light.unit a = some x.atIssue := by
      rw [hlight]
      refine (unit_changeUnit (f := LightUnit.atIssue) (fun y => congrArg Prod.fst (atIssue_place y)) s.light a a).trans ?_
      rw [hx]
      simp
    rw [hunit, LightUnit.atIssue, hr]
    rfl

theorem startItem_broadcast {i : LaneItem} (lane : Lane) (s : State) (hi : ∀ a c, i.work ≠ .set a c) :
    (startItem lane i s).loop.transaction = some .broadcast := by
  obtain ⟨w, m⟩ := i
  cases w with
  | set a c => exact absurd rfl (hi a c)
  | call _ => rfl
  | cancel _ => rfl

/-- What an item of a lane begun puts on the loop, by its work. -/
theorem startItem_begins (lane : Lane) (i : LaneItem) (s : State) : match i.work with
    | .set a _ => s.issued (startItem lane i s) a
    | .call _ | .cancel _ => (startItem lane i s).loop.transaction = some .broadcast := by
  split
  next h => exact startItem_set lane h
  all_goals next h => exact startItem_broadcast lane s fun a c e => by rw [h] at e; cases e

/-! ## The due POLL -/

/-- A POLL goes before another: it is earlier due, or due at the same time at a lower or equal address (R165). -/
def PollFirst (p q : Nat × Nat) : Prop := p.2 < q.2 ∨ (p.2 = q.2 ∧ p.1 ≤ q.1)

theorem PollFirst.trans {p q r : Nat × Nat} (h : PollFirst p q) (k : PollFirst q r) : PollFirst p r := by
  unfold PollFirst at *; omega

/-- The earliest of a list in ascending address is found, from a POLL met before all of them. -/
theorem foldl_earlierPoll (l : List (Nat × Nat)) : ∀ p : Nat × Nat, (∀ q ∈ l, p.1 < q.1) → (l.map Prod.fst).Pairwise (· < ·) →
    ∃ r, l.foldl earlierPoll (some p) = some r ∧ (r = p ∨ r ∈ l) ∧ PollFirst r p ∧ ∀ q ∈ l, PollFirst r q := by
  induction l with
  | nil => exact fun p _ _ => ⟨p, rfl, .inl rfl, .inr ⟨rfl, le_rfl⟩, nofun⟩
  | cons x l ih =>
    intro p hp hl
    obtain ⟨hx, hl⟩ := List.pairwise_cons.1 hl
    have hx : ∀ q ∈ l, x.1 < q.1 := fun q hq => hx _ (List.mem_map_of_mem hq)
    have hpx := hp x List.mem_cons_self
    rw [List.foldl_cons, earlierPoll]
    split
    next hlt =>
      obtain ⟨r, e, hm, hr, hall⟩ := ih x hx hl
      refine ⟨r, e, .inr ?_, hr.trans (.inl hlt), List.forall_mem_cons.2 ⟨hr, hall⟩⟩
      obtain rfl | hm := hm
      · exact List.mem_cons_self
      · exact List.mem_cons_of_mem _ hm
    next hge =>
      obtain ⟨r, e, hm, hr, hall⟩ := ih p (fun q hq => hp q (List.mem_cons_of_mem _ hq)) hl
      refine ⟨r, e, hm.imp_right (List.mem_cons_of_mem _), hr, List.forall_mem_cons.2 ⟨hr.trans ?_, hall⟩⟩
      unfold PollFirst; omega

/-- The POLLs due at a time, each with when it became due. -/
def Loop.duePolls (now : Nat) (u : Loop) : List (Nat × Nat) :=
  u.rows.filterMap fun r => (r.nextPoll.filter (· ≤ now)).map (r.address, ·)

theorem mem_duePolls {now : Nat} {u : Loop} {p : Nat × Nat} :
    p ∈ u.duePolls now ↔ ∃ r ∈ u.rows, r.address = p.1 ∧ r.nextPoll = some p.2 ∧ p.2 ≤ now := by
  unfold Loop.duePolls
  rw [List.mem_filterMap]
  constructor
  · rintro ⟨r, hr, h⟩
    obtain ⟨x, hx, rfl⟩ := Option.map_eq_some_iff.1 h
    obtain ⟨hp, hle⟩ := Option.filter_eq_some_iff.1 hx
    exact ⟨r, hr, rfl, hp, of_decide_eq_true hle⟩
  · rintro ⟨r, hr, ha, hp, hle⟩
    exact ⟨r, hr, by simp [hp, hle, ha]⟩

theorem duePolls_ascending (now : Nat) {u : Loop} (h : (u.rows.map UnitRow.address).Pairwise (· < ·)) :
    ((u.duePolls now).map Prod.fst).Pairwise (· < ·) := by
  refine List.pairwise_map.2 (List.Pairwise.filterMap _ (fun r q hrq x hx y hy => ?_) (List.pairwise_map.1 h))
  obtain ⟨x', -, rfl⟩ := Option.map_eq_some_iff.1 hx
  obtain ⟨y', -, rfl⟩ := Option.map_eq_some_iff.1 hy
  exact hrq

/-- R165: the POLL that is due, the earliest first and among equal times that of the lowest address. -/
theorem duePoll_spec (now : Nat) {u : Loop} (h : (u.rows.map UnitRow.address).Pairwise (· < ·)) :
    (u.duePoll now = none ∧ u.duePolls now = []) ∨
      ∃ p ∈ u.duePolls now, u.duePoll now = some p.1 ∧ ∀ q ∈ u.duePolls now, PollFirst p q := by
  have hasc := duePolls_ascending now h
  have e : u.duePoll now = ((u.duePolls now).foldl earlierPoll none).map (·.1) := rfl
  rw [e]
  cases hl : u.duePolls now with
  | nil => exact .inl ⟨rfl, rfl⟩
  | cons p l =>
    rw [hl] at hasc
    obtain ⟨hp, hl⟩ := List.pairwise_cons.1 hasc
    obtain ⟨r, e, hm, hr, hall⟩ := foldl_earlierPoll l p (fun q hq => hp _ (List.mem_map_of_mem hq)) hl
    have e : (p :: l).foldl earlierPoll none = some r := e
    exact .inr ⟨r, List.mem_cons.2 hm, by rw [e]; rfl, List.forall_mem_cons.2 ⟨hr, hall⟩⟩

theorem duePoll_first {now : Nat} {u : Loop} (h : (u.rows.map UnitRow.address).Pairwise (· < ·))
    (hd : ∃ r ∈ u.rows, ∃ x, r.nextPoll = some x ∧ x ≤ now) :
    ∃ r ∈ u.rows, ∃ x, r.nextPoll = some x ∧ x ≤ now ∧ u.duePoll now = some r.address ∧
      ∀ q ∈ u.rows, ∀ y, q.nextPoll = some y → x < y ∨ (x = y ∧ r.address ≤ q.address) := by
  obtain ⟨-, hnil⟩ | ⟨p, hp, e, hall⟩ := duePoll_spec now h
  · obtain ⟨r, hr, x, hx, hle⟩ := hd
    have := (mem_duePolls (p := (r.address, x))).2 ⟨r, hr, rfl, hx, hle⟩
    rw [hnil] at this; cases this
  · obtain ⟨r, hr, ha, hx, hle⟩ := mem_duePolls.1 hp
    refine ⟨r, hr, p.2, hx, hle, by rw [e, ha], fun q hq y hy => ?_⟩
    by_cases hyn : y ≤ now
    · have := hall _ ((mem_duePolls (p := (q.address, y))).2 ⟨q, hq, rfl, hy, hyn⟩)
      rwa [ha]
    · omega

theorem duePoll_none {now : Nat} {u : Loop} (h : (u.rows.map UnitRow.address).Pairwise (· < ·))
    (hd : ∀ r ∈ u.rows, ∀ x, r.nextPoll = some x → now < x) : u.duePoll now = none := by
  obtain ⟨e, -⟩ | ⟨p, hp, -, -⟩ := duePoll_spec now h
  · exact e
  · obtain ⟨r, hr, -, hx, hle⟩ := mem_duePolls.1 hp
    exact absurd (hd r hr _ hx) (Nat.not_lt.2 hle)

/-! ## The sweep probe -/

/-- How far an address stands after the sweep position, wrapping from 31 to 1 (R173). -/
def sweepRank (position a : Nat) : Nat := (a + 30 - position) % 31

/-- The addresses in the order of the sweep. -/
def sweepOrder (position : Nat) : List Nat := loopAddresses.filter (position < ·) ++ loopAddresses.filter (· ≤ position)

theorem mem_loopAddresses {a : Nat} : a ∈ loopAddresses ↔ 1 ≤ a ∧ a ≤ 31 := by
  simp only [loopAddresses, List.mem_map, List.mem_range]
  exact ⟨fun ⟨b, hb, e⟩ => by omega, fun h => ⟨a - 1, by omega, by omega⟩⟩

theorem sweepOrder_ranked {p : Nat} (hp : p ≤ 31) : (sweepOrder p).Pairwise fun a b => sweepRank p a < sweepRank p b := by
  have hasc : loopAddresses.Pairwise (· < ·) := List.pairwise_map.2 (List.pairwise_lt_range.imp Nat.succ_lt_succ)
  have hin : ∀ {a}, a ∈ loopAddresses → 1 ≤ a ∧ a ≤ 31 := mem_loopAddresses.1
  unfold sweepOrder sweepRank
  refine List.pairwise_append.2 ⟨?_, ?_, fun a ha b hb => ?_⟩
  · refine (hasc.filter _).imp_of_mem fun {a b} ha hb hab => ?_
    have := hin (List.mem_filter.1 ha).1
    have := hin (List.mem_filter.1 hb).1
    have := of_decide_eq_true (List.mem_filter.1 ha).2
    omega
  · refine (hasc.filter _).imp_of_mem fun {a b} ha hb hab => ?_
    have := hin (List.mem_filter.1 ha).1
    have := of_decide_eq_true (List.mem_filter.1 hb).2
    omega
  · have := hin (List.mem_filter.1 ha).1
    have := hin (List.mem_filter.1 hb).1
    have := of_decide_eq_true (List.mem_filter.1 ha).2
    have := of_decide_eq_true (List.mem_filter.1 hb).2
    omega

theorem mem_sweepOrder {position a : Nat} : a ∈ sweepOrder position ↔ 1 ≤ a ∧ a ≤ 31 := by
  simp only [sweepOrder, List.mem_append, List.mem_filter, mem_loopAddresses, decide_eq_true_eq]
  omega

/-- The first of a ranked list that passes a test is the one that no other passing ranks below. -/
theorem find?_of_least {α : Type} {rank : α → Nat} {test : α → Bool} {a : α} : ∀ {l : List α}, l.Pairwise (fun x y => rank x < rank y) →
    a ∈ l → test a = true → (∀ b ∈ l, test b = true → rank a ≤ rank b) → l.find? test = some a
  | x :: l, hl, hm, ha, hleast => by
    obtain ⟨hx, hl⟩ := List.pairwise_cons.1 hl
    rw [List.find?_cons]
    obtain rfl | hm := List.mem_cons.1 hm
    · rw [ha]
    · have hfail : test x = false := Bool.eq_false_iff.2 fun h =>
        absurd (hleast x List.mem_cons_self h) (Nat.not_le.2 (hx a hm))
      rw [hfail]
      exact find?_of_least hl hm ha fun b hb => hleast b (List.mem_cons_of_mem _ hb)

/-- Whether the row of an address is ABSENT. -/
def Loop.absentRow (u : Loop) (a : Nat) : Bool := (u.row a).any fun r => !r.present

theorem absentAt_iff (u : Loop) (a : Nat) : u.absentAt a ↔ (1 ≤ a ∧ a ≤ 31) ∧ u.absentRow a = true := by
  unfold Loop.absentAt Loop.absentRow
  cases u.row a with
  | none => simp
  | some r => simp [and_assoc]

theorem nextSweep_eq (u : Loop) : u.nextSweep = (sweepOrder u.sweepPosition).find? u.absentRow := rfl

theorem nextSweep_of_sweepsNext {u : Loop} {a : Nat} (h31 : u.sweepPosition ≤ 31) (h : u.sweepsNext a) :
    u.nextSweep = some a := by
  obtain ⟨ha, hleast⟩ := h
  obtain ⟨hr, hab⟩ := (absentAt_iff u a).1 ha
  rw [nextSweep_eq]
  refine find?_of_least (sweepOrder_ranked h31) (mem_sweepOrder.2 hr) hab fun b hb hbt => ?_
  exact hleast b ((absentAt_iff u b).2 ⟨mem_sweepOrder.1 hb, hbt⟩)

theorem nextSweep_none {u : Loop} (h : ∀ a, ¬ u.absentAt a) : u.nextSweep = none := by
  rw [nextSweep_eq]
  exact List.find?_eq_none.2 fun a ha hab => h a ((absentAt_iff u a).2 ⟨mem_sweepOrder.1 ha, hab⟩)

/-! ## The step on an empty queue -/

/-- 0.1 ms on, with the Scanner's path settled: the state in which the free loop takes its work. -/
def State.ticked (s : State) : State :=
  { s with clock := { s.clock with now := s.clock.now + 1 }, scanner := s.scanner.settlePath s.settings }

theorem step_ticked {s : State} (hp : s.pending = []) (hh : s.resetHeld = false) (ho : s.loop.roomOwed = false) :
    step s = .next (transmit (takeWork s.ticked)) := by
  rw [step, hp, idleTick, if_neg (by simp [hh])]
  exact congrArg Host.Outcome.next (settle_served (mapClock Clock.tick s) ho)

/-- The first survey probe that is due in RUNNING, with nothing before it (R164, R172 to R174, R177). -/
structure TakesProbe (s t : State) : Prop where
  reprobe : ∀ a l, s.loop.reprobes = a :: l → t.loop.transaction = some (.probe a .reprobe) ∧ t.loop.reprobes = l
  survey : ∀ v, s.loop.reprobes = [] → s.loop.survey = some v → t.loop.transaction = some (.probe v.next .survey)
  sweep : ∀ a, s.loop.reprobes = [] → s.loop.survey = none → s.loop.sweepDue = true → 1 ≤ s.loop.sweepPosition →
    s.loop.sweepPosition ≤ 31 → s.loop.sweepsNext a →
      t.loop.transaction = some (.probe a .sweep) ∧ t.loop.sweepPosition = a ∧ t.loop.sweepDue = false

theorem takeWork_takesProbe {s : State} (hn : s.loop.transaction = none) (hr : s.loop.state = .running)
    (hu : s.loop.urgent.find? s.loop.eligible = none) (hp : s.loop.duePoll s.clock.now = none) : TakesProbe s (takeWork s) where
  reprobe a l hl := by
    rw [takeWork_probe hn hr hu hp (a := a) (k := .reprobe) (by rw [Loop.nextProbe, hr, hl])]
    exact ⟨rfl, congrArg (List.drop 1) hl⟩
  survey v hl hv := by
    rw [takeWork_probe hn hr hu hp (a := v.next) (k := .survey) (by rw [Loop.nextProbe, hr, hl, hv])]
    rfl
  sweep a hl hv hd _ h31 ha := by
    rw [takeWork_probe hn hr hu hp (a := a) (k := .sweep) (by
      rw [Loop.nextProbe, hr, hl, hv]
      simp [hd, nextSweep_of_sweepsNext h31 ha])]
    exact ⟨rfl, rfl, rfl⟩

theorem nextProbe_none {u : Loop} (hr : u.state = .running) (hl : u.reprobes = []) (hv : u.survey = none)
    (hs : u.sweepDue = false ∨ ∀ a, ¬ u.absentAt a) : u.nextProbe = none := by
  rw [Loop.nextProbe, hr, hl, hv]
  obtain hs | hs := hs
  · simp [hs]
  · simp [nextSweep_none hs]

/-- Settles O50: the steps of R164 in their order, each once those before it have found nothing. -/
theorem loopTakesWork : Obligations.LoopTakesWork := by
  intro s hp hh hn ho hasc
  refine ⟨_, step_ticked hp hh ho, ?_, takeWork_calls _, ?_, takeWork_starting (s := s.ticked) hn, fun hr => ⟨fun i hi => ?_, fun hu => ⟨fun hd => ?_,
    fun hd => ?_⟩⟩⟩
  · exact (Leaves.refl s.ticked).takeWork.perf
  · exact (Leaves.refl s.ticked).takeWork.settings
  · rw [takeWork_urgent (s := s.ticked) hn hr hi]
    exact startItem_begins .urgent i s.ticked
  · obtain ⟨r, hrow, x, hx, hle, e, hfirst⟩ := duePoll_first hasc hd
    refine ⟨r, hrow, x, hx, hle, ?_, hfirst⟩
    rw [takeWork_poll (s := s.ticked) hn hr hu e]
    rfl
  · have hnone := duePoll_none hasc hd
    have k := takeWork_takesProbe (s := s.ticked) hn hr hu hnone
    refine ⟨k.reprobe, k.survey, k.sweep, fun hl hv hs => ?_⟩
    have hk := nextProbe_none (u := s.loop) hr hl hv hs
    refine ⟨fun i hi => ?_, fun hi => ?_⟩
    · rw [takeWork_ordinary (s := s.ticked) hn hr hu hnone hk hi]
      exact startItem_begins .ordinary i s.ticked
    · rw [takeWork_nothing (s := s.ticked) hn hr hu hnone hk hi]
      exact hn

end Sys2Proof.Machine

/-! What the end of an event keeps of a unit's record, of its channels and of the lanes (R96, R115, R116, R163, R164). -/

namespace Sys2Proof.Machine

/-! ## Properties that the end of an event keeps -/

/-- A property of the lamps and the lanes that lane changes which place no SET, requests of DIRTY units, the issue of a SET and, where one
can come, a flash keep. -/
structure KeptAtEnd (flashes : Prop) (P : Field → Prop) : Prop where
  lanes : ∀ {f : Field} {u : Loop}, (∀ a, f.loop.holdsSet a = false → u.holdsSet a = false) → P f → P { f with loop := u }
  request : ∀ {f : Field} {b : Nat} {c : TrafficClass}, (f.light.unit b).map LightUnit.refresh = some (.dirty c) → P f → P (f.request b c)
  issue : ∀ {f : Field} (b : Nat), P f → P (f.issue b)
  flash : flashes → ∀ {f : Field} (ns : List Nat), P f → P (f.placeFlash ns)

theorem KeptAtEnd.mono {p q : Prop} {P : Field → Prop} (hq : q → p) (h : KeptAtEnd p P) : KeptAtEnd q P :=
  ⟨h.lanes, h.request, h.issue, fun hf => h.flash (hq hf)⟩

section
variable {flashes : Prop} {P : Field → Prop} {s : State}

theorem KeptAtEnd.of_lanes (h : KeptAtEnd flashes P) (u : Loop) (hu : Lanes (fun _ => True) s.loop u) (hp : P s.field) :
    P ⟨s.settings, s.light, u⟩ := h.lanes (f := s.field) (fun a => hu.unset a trivial) hp

/-- A change of the Loop Master alone that leaves both lanes. -/
theorem KeptAtEnd.same_lanes (h : KeptAtEnd flashes P) (u : Loop) (hp : P s.field) (hu : u.urgent = s.loop.urgent := by rfl)
    (ho : u.ordinary = s.loop.ordinary := by rfl) : P ⟨s.settings, s.light, u⟩ :=
  h.lanes (f := s.field) (fun a ha => by rw [Loop.holdsSet, hu, ho]; exact ha) hp

theorem KeptAtEnd.rehandList (h : KeptAtEnd flashes P) (l : List Nat) : ∀ {f : Field}, P f → P (Field.rehandList l f) := by
  induction l with
  | nil => exact id
  | cons a l ih =>
    intro f hp
    unfold Field.rehandList
    split
    · rename_i hd
      dsimp only; split
      · exact h.request hd hp
      · exact ih (h.request hd hp)
    · exact ih hp

theorem KeptAtEnd.rehand (h : KeptAtEnd flashes P) (hp : P s.field) : P (onField Field.rehand s).field := by
  rw [onField_field (f := Field.rehand) (Refreshes.rehandList s.light.waiting s.field).settings]
  exact h.rehandList _ hp

theorem notify_field (f : Family) (n : Notice) (s : State) : (notify f n s).field = s.field := by
  obtain ⟨q, e⟩ := notify_eq s f n
  rw [e]; rfl

theorem KeptAtEnd.handOutcome (h : KeptAtEnd flashes P) (hf : ¬ s.calm → flashes) (g : CallOrigin) (tag : Nat) (out : CallOutcome)
    (hp : P s.field) : P (Machine.handOutcome g tag out s).field := by
  cases g with
  | stage | front | sequencer | alarm => exact hp
  | curtain =>
    show P (announcementOutcome tag out s).field
    unfold announcementOutcome
    split
    · dsimp only; split
      · rename_i hx
        obtain e | ⟨ns, e⟩ := judgeDisplayLowering_field (mapCurtain (fun c => { c with announcement := none }) s)
        · rw [e]; exact hp
        · rw [e]; exact h.flash (hf fun hc => hc hx.1) ns hp
      · exact hp
    · exact hp

theorem outcomeNotice_field (out : CallOutcome) (o : Order) (s : State) : (outcomeNotice out o s).field = s.field := by
  have place : ∀ (p : Port) (f : Family) (n : Notice), (placeOn p f n s).field = s.field := fun p f n => by
    obtain ⟨q, e⟩ := placeOn_eq s p f n
    rw [e]; rfl
  unfold outcomeNotice callNotice
  split
  · exact place _ _ _
  · exact place _ _ _
  all_goals exact notify_field _ _ s

theorem KeptAtEnd.endOrder (h : KeptAtEnd flashes P) (hf : ¬ s.calm → flashes) (out : CallOutcome) (o : Order) (hp : P s.field) :
    P (Machine.endOrder out o s).field := by
  unfold Machine.endOrder; dsimp only
  rw [outcomeNotice_field]
  split
  · rename_i n _
    exact h.handOutcome (s := mapCalls _ (mapCalls _ (mapLoop (Loop.placeCancel n) s))) hf _ _ _ (h.of_lanes (s := s) _ (.placeCancel _ n s.loop) hp)
  · exact h.handOutcome (s := mapCalls _ s) hf _ _ _ hp

theorem KeptAtEnd.arbitrateFuel (h : KeptAtEnd flashes P) (k : Nat) : ∀ {s : State}, (¬ s.calm → flashes) → P s.field →
    P (Machine.arbitrateFuel k s).field := by
  induction k with
  | zero => exact fun _ => id
  | succ k ih =>
    intro s hf hp
    unfold Machine.arbitrateFuel; dsimp only
    split
    · exact hp
    split
    · exact hp
    split
    · rename_i o _ _
      have hl : Leaves s (Machine.endOrder .failed o s) := (Leaves.refl s).endOrder _ _
      exact ih (fun hn => hf fun hc => hn (hl.keeps_calm hc)) (h.endOrder hf _ _ hp)
    split
    · rw [notify_field]
      exact h.of_lanes (s := s) _ (.placeCall _ _ _ s.loop) hp
    · exact hp

theorem KeptAtEnd.serveRoom (h : KeptAtEnd flashes P) (k : Nat) : ∀ {s : State}, (¬ s.calm → flashes) → P s.field →
    P (Machine.serveRoom k s).field := by
  induction k with
  | zero => intro s _ hp; exact h.same_lanes (s := s) _ hp
  | succ k ih =>
    intro s hf hp
    unfold Machine.serveRoom
    split
    · have h1 : P (mapLoop (fun u => { u with roomOwed := false }) s).field := h.same_lanes (s := s) _ hp
      have hl : Leaves s (onField Field.rehand (mapLoop (fun u => { u with roomOwed := false }) s)) := ((Leaves.refl s).mapLoop _).rehand
      have calm : ∀ {t : State}, Leaves s t → ¬ t.calm → flashes := fun l hn => hf fun hc => hn (l.keeps_calm hc)
      exact ih (calm hl.arbitrate) (h.arbitrateFuel _ (calm hl) (h.rehand h1))
    · exact hp

theorem KeptAtEnd.startItem (h : KeptAtEnd flashes P) (lane : Lane) (i : LaneItem) (hp : P s.field) : P (Machine.startItem lane i s).field := by
  have hl := (Lanes.markItem (fun _ => True) lane i s.loop).unset
  unfold Machine.startItem; dsimp only
  split
  · exact h.lanes (f := s.field.issue _) (fun a => hl a trivial) (h.issue _ hp)
  all_goals exact h.lanes (f := s.field) (fun a => hl a trivial) hp

theorem KeptAtEnd.takeWork (h : KeptAtEnd flashes P) (hp : P s.field) : P (Machine.takeWork s).field := by
  unfold Machine.takeWork
  split
  · exact hp
  split
  · exact h.startItem _ _ hp
  split
  · exact h.same_lanes (s := s) _ hp
  split
  · rename_i k _
    cases k <;> exact h.same_lanes (s := s) _ hp
  split
  · exact h.startItem _ _ hp
  · exact hp

theorem KeptAtEnd.settle (h : KeptAtEnd (¬ s.calm) P) (hp : P s.field) : P (Machine.settle s).field :=
  h.takeWork (s := { Machine.serveRoom 8 s with scanner := _ }) (h.serveRoom 8 id hp)

end

end Sys2Proof.Machine

/-! A lamp unit's record and its channels, through the refresh of lamp units (R114 to R116), a flash (R106) and the end of an event. -/

namespace Sys2Proof.Machine

/-! ## Unit records -/

/-- A part of the records that a change leaves. -/
theorem unit_changeUnit_view {β : Type} (view : LightUnit → β) {g : LightUnit → LightUnit} (ha : ∀ x, (g x).address = x.address)
    (hg : ∀ x, view (g x) = view x) (u : Light) (a b : Nat) : ((u.changeUnit b g).unit a).map view = (u.unit a).map view := by
  rw [unit_changeUnit ha, Option.map_map]
  refine Option.map_congr fun x _ => ?_
  simp only [Function.comp]; split
  · exact hg x
  · rfl

theorem unit_changeUnit_other {g : LightUnit → LightUnit} (ha : ∀ x, (g x).address = x.address) (u : Light) {a b : Nat} (hab : a ≠ b) :
    (u.changeUnit b g).unit a = u.unit a := by
  rw [unit_changeUnit ha]; simp [hab]

/-- A change of one unit's refresh leaves what does not read it. -/
theorem unit_refreshed_view {β : Type} (view : LightUnit → β) (hv : ∀ x r, view { x with refresh := r } = view x) (r : RefreshState) (u : Light)
    (a b : Nat) : ((u.changeUnit b fun x => { x with refresh := r }).unit a).map view = (u.unit a).map view :=
  unit_changeUnit_view view (g := fun x => { x with refresh := r }) (fun _ => rfl) (fun x => hv x r) u a b

theorem unit_refreshed_other (r : RefreshState) (u : Light) {a b : Nat} (hab : a ≠ b) :
    (u.changeUnit b fun x => { x with refresh := r }).unit a = u.unit a :=
  unit_changeUnit_other (g := fun x => { x with refresh := r }) (fun _ => rfl) u hab

theorem unit_refreshed_self (r : RefreshState) (u : Light) (a : Nat) :
    (u.changeUnit a fun x => { x with refresh := r }).unit a = (u.unit a).map fun x => { x with refresh := r } := by
  rw [unit_changeUnit (f := fun x => { x with refresh := r }) fun _ => rfl]; simp

theorem request_unit_other {a b : Nat} (hab : a ≠ b) (c : TrafficClass) (f : Field) : (f.request b c).light.unit a = f.light.unit a := by
  unfold Field.request; dsimp only; split
  · exact unit_refreshed_other (.queued c none) { f.light with waiting := removeNum b f.light.waiting } hab
  · rfl

/-- A request changes no more of a record than its refresh. -/
theorem request_view {β : Type} (view : LightUnit → β) (hv : ∀ x r, view { x with refresh := r } = view x) (a b : Nat) (c : TrafficClass)
    (f : Field) : ((f.request b c).light.unit a).map view = (f.light.unit a).map view := by
  unfold Field.request; dsimp only; split
  · exact unit_refreshed_view view hv (.queued c none) { f.light with waiting := removeNum b f.light.waiting } a b
  · rfl

/-- R114: so does a mark. -/
theorem markUnit_view {β : Type} (view : LightUnit → β) (hv : ∀ x r, view { x with refresh := r } = view x) (a b : Nat) (c : TrafficClass)
    (f : Field) : ((f.markUnit b c).light.unit a).map view = (f.light.unit a).map view := by
  have change := fun r => unit_refreshed_view view hv r f.light a b
  unfold Field.markUnit
  split
  · rfl
  split
  · exact (request_view view hv a b c _).trans (change _)
  · split
    · exact (request_view view hv a b c _).trans (change _)
    · rfl
  · dsimp only; split <;> exact change _

theorem markUnit_unit_other {a b : Nat} (hab : a ≠ b) (c : TrafficClass) (f : Field) : (f.markUnit b c).light.unit a = f.light.unit a := by
  have change := fun r => unit_refreshed_other r f.light hab
  unfold Field.markUnit
  split
  · rfl
  split
  · exact (request_unit_other hab c _).trans (change _)
  · split
    · exact (request_unit_other hab c _).trans (change _)
    · rfl
  · dsimp only; split <;> exact change _

theorem judgeLamp_view {β : Type} (view : LightUnit → β) (hv : ∀ x r, view { x with refresh := r } = view x) (a n : Nat) (f : Field) :
    ((f.judgeLamp n).light.unit a).map view = (f.light.unit a).map view := by
  unfold Field.judgeLamp
  split
  · rfl
  split
  · exact markUnit_view view hv a _ _ f
  · rfl

/-- R114: no channel of a dark unit is placed, so none marks it. -/
theorem Field.Dark.judgeLamp_unit {f : Field} {a : Nat} (h : f.Dark a) (n : Nat) : (f.judgeLamp n).light.unit a = f.light.unit a := by
  unfold Field.judgeLamp
  split
  · rfl
  rename_i l hl
  split
  · rename_i hp
    refine markUnit_unit_other (fun e => ?_) _ f
    have hplaced := (h.lamps l (List.mem_of_find?_eq_some hl) (by rw [lamp_num hl, e])).1
    rw [hplaced] at hp
    exact absurd hp.1 (by decide)
  · rfl

/-- R116: the issue of a SET changes the record of a QUEUED unit that has changed since the issue before. -/
theorem atIssue_of_unchanged {x : LightUnit} (h : ∀ c d, x.refresh ≠ .queued c (some d)) : x.atIssue = x := by
  obtain ⟨address, present, outputs, refresh, retryUsed⟩ := x
  cases refresh with
  | clean | dirty => rfl
  | queued c ch =>
    cases ch with
    | none => rfl
    | some d => exact absurd rfl (h c d)

theorem issue_unit (a b : Nat) (f : Field) : (f.issue b).light.unit a = (f.light.unit a).map (fun x => if a = b then x.atIssue else x) :=
  unit_changeUnit (f := LightUnit.atIssue) (fun x => congrArg Prod.fst (atIssue_place x)) { f.light with lamps := _ } b a

/-! ## Channels changed -/

theorem mem_changeLamp_of {n : Nat} {g : Lamp → Lamp} {f : Field} {x : Lamp} (hx : x ∈ (f.changeLamp n g).light.lamps) :
    x ∈ f.light.lamps ∨ ∃ l ∈ f.light.lamps, x = { g l with num := l.num } := by
  unfold Field.changeLamp at hx
  split at hx
  · exact .inl hx
  rename_i l hl
  have hput : x ∈ (f.light.putLamp { g l with num := l.num }).lamps := by
    dsimp only at hx; split at hx
    · rwa [judgeLamp_lamps] at hx
    · exact hx
  obtain ⟨y, hy, rfl⟩ := List.mem_map.1 hput
  split
  · exact .inr ⟨l, List.mem_of_find?_eq_some hl, rfl⟩
  · exact .inl hy

theorem Field.Dark.putLamp {f : Field} {a : Nat} (h : f.Dark a) {x : Lamp}
    (hx : (f.settings.lamp x.num).unit = a → x.placed = false ∧ x.sent = none) : ({ f with light := f.light.putLamp x } : Field).Dark a := by
  refine ⟨h.unset, h.waiting, fun y hy hu => ?_⟩
  obtain ⟨z, hz, rfl⟩ := List.mem_map.1 hy
  by_cases e : (z.num == x.num) = true
  · rw [if_pos e] at hu ⊢; exact hx hu
  · rw [if_neg e] at hu ⊢; exact h.lamps z hz hu

/-- A change of a dark unit's channels marks it no more than before. -/
theorem Field.Dark.changeLamp_unit {f : Field} {a : Nat} (h : f.Dark a) (n : Nat) {g : Lamp → Lamp}
    (hg : ∀ l, (g l).placed = l.placed ∧ (g l).sent = l.sent) : (f.changeLamp n g).light.unit a = f.light.unit a := by
  unfold Field.changeLamp
  split
  · rfl
  rename_i l hl
  dsimp only; split
  · refine Field.Dark.judgeLamp_unit (h.putLamp (x := { g l with num := l.num }) fun hu => ?_) n
    obtain ⟨hplaced, hsent⟩ := h.lamps l (List.mem_of_find?_eq_some hl) hu
    exact ⟨(hg l).1.trans hplaced, (hg l).2.trans hsent⟩
  · rfl

/-- What a change of one channel keeps, a change of several keeps. -/
theorem changeLamps_keeps {P : Field → Prop} {g : Nat → Lamp → Lamp} (h : ∀ (f : Field) (n : Nat), P f → P (f.changeLamp n (g n))) (ns : List Nat) :
    ∀ {f : Field}, P f → P (f.changeLamps ns g) := by
  unfold Field.changeLamps
  induction ns with
  | nil => exact id
  | cons n ns ih => exact fun hp => ih (h _ n hp)

/-- R106: what every change of a channel keeps that leaves its place and its sent level, a flash keeps. -/
theorem placeFlash_keeps {P : Field → Prop}
    (h : ∀ (f : Field) (n : Nat) (g : Lamp → Lamp), (∀ l, (g l).placed = l.placed ∧ (g l).sent = l.sent) → P f → P (f.changeLamp n g))
    (ns : List Nat) {f : Field} (hp : P f) : P (f.placeFlash ns) :=
  changeLamps_keeps (fun f n hf => h f n _ (fun l => retarget_placed_sent _ _ _ { l with curtain := true }) hf) ns hp

/-! ## What the end of an event keeps -/

/-- R118: the record of a unit out of service. -/
theorem keptAtEnd_lost (flashes : Prop) (a : Nat) {x : LightUnit} (hx : x.refresh = .clean) :
    KeptAtEnd flashes fun f => f.Dark a ∧ f.light.unit a = some x where
  lanes hu h := ⟨⟨hu a h.1.unset, h.1.waiting, h.1.lamps⟩, h.2⟩
  request := by
    rintro f b c hb ⟨hd, hu⟩
    have hab : a ≠ b := by
      rintro rfl
      rw [hu] at hb
      simp [hx] at hb
    exact ⟨hd.request hab c, (request_unit_other hab c f).trans hu⟩
  issue := by
    rintro f b ⟨hd, hu⟩
    have hissued : x.atIssue = x := atIssue_of_unchanged (by simp [hx])
    refine ⟨⟨hd.unset, hd.waiting, fun l hl he => ?_⟩, ?_⟩
    · obtain ⟨y, hy, rfl⟩ := List.mem_map.1 hl
      have hnum : ∀ t : Bool, (if t then { y with sent := some y.current } else y).num = y.num := fun t => by cases t <;> rfl
      rw [hnum] at he
      obtain ⟨hplaced, hsent⟩ := hd.lamps y hy he
      simp [hplaced, hsent]
    · rw [issue_unit, hu]; simp [hissued]
  flash _ f ns h := by
    refine placeFlash_keeps (P := fun f => f.Dark a ∧ f.light.unit a = some x) (fun f n g hg ⟨hd, hu⟩ => ?_) ns h
    exact ⟨hd.changeLamp n hg, (hd.changeLamp_unit n hg).trans hu⟩

/-- R115, R117: a unit that is CLEAN with no SET held. -/
theorem keptAtEnd_clean (a : Nat) : KeptAtEnd False fun f => f.loop.holdsSet a = false ∧ (f.light.unit a).map LightUnit.refresh = some .clean where
  lanes hu h := ⟨hu a h.1, h.2⟩
  request := by
    rintro f b c hb ⟨hn, hu⟩
    have hab : a ≠ b := by
      rintro rfl
      rw [hu] at hb; cases hb
    have hl := (Lanes.requestSet f.settings.loop b c f.loop).unset a hab hn
    refine ⟨?_, by rw [request_unit_other hab]; exact hu⟩
    unfold Field.request; dsimp only; split <;> exact hl
  issue := by
    rintro f b ⟨hn, hu⟩
    obtain ⟨x, hx, hr⟩ := Option.map_eq_some_iff.1 hu
    refine ⟨hn, ?_⟩
    have hissued : x.atIssue = x := atIssue_of_unchanged (by simp [hr])
    rw [issue_unit, hx]
    simp [hissued, hr]
  flash h := h.elim

/-- A unit whose SET of a class is requested: DIRTY at the class, or QUEUED at it with no change since issue. -/
def Field.Requested (f : Field) (a : Nat) (c : TrafficClass) : Prop :=
  (f.light.unit a).map LightUnit.refresh = some (.dirty c) ∨ (f.light.unit a).map LightUnit.refresh = some (.queued c none)

/-- R115: a request of a DIRTY unit that is taken makes it QUEUED. -/
theorem request_requested {f : Field} {a : Nat} {c : TrafficClass} (h : (f.light.unit a).map LightUnit.refresh = some (.dirty c)) :
    (f.request a c).Requested a c := by
  obtain ⟨x, hx, _⟩ := Option.map_eq_some_iff.1 h
  unfold Field.request; dsimp only; split
  · refine .inr ?_
    have hself := unit_refreshed_self (.queued c none) { f.light with waiting := removeNum a f.light.waiting } a
    have hu : ({ f.light with waiting := removeNum a f.light.waiting } : Light).unit a = some x := hx
    rw [hself, hu]; rfl
  · exact .inl h

theorem keptAtEnd_requested (a : Nat) (e : TrafficClass) : KeptAtEnd False fun f => f.Requested a e where
  lanes _ h := h
  request := by
    intro f b c hb h
    by_cases hab : a = b
    · subst hab
      have hce : c = e := by
        obtain h | h := h <;> rw [h] at hb <;> simp at hb
        exact hb.symm
      exact hce ▸ request_requested hb
    · unfold Field.Requested
      rw [request_unit_other hab]; exact h
  issue := by
    intro f b h
    unfold Field.Requested
    rw [issue_unit]
    obtain h | h := h <;> obtain ⟨x, hx, hr⟩ := Option.map_eq_some_iff.1 h
    · have hissued : x.atIssue = x := atIssue_of_unchanged (by simp [hr])
      rw [hx]; simp [hissued, hr]
    · have hissued : x.atIssue = x := atIssue_of_unchanged (by simp [hr])
      rw [hx]; simp [hissued, hr]
  flash h := h.elim

/-- R120: the retry mark of a unit. -/
def Field.retry (f : Field) (a : Nat) : Option Bool := (f.light.unit a).map LightUnit.retryUsed

theorem keptAtEnd_retry (a : Nat) (r : Option Bool) : KeptAtEnd False fun f => f.retry a = r where
  lanes _ h := h
  request := fun {f b c} _ h => (request_view LightUnit.retryUsed (fun _ _ => rfl) a b c f).trans h
  issue := fun {f} b h => by
    have hv : ∀ x : LightUnit, x.atIssue.retryUsed = x.retryUsed := fun x => by unfold LightUnit.atIssue; split <;> rfl
    exact (unit_changeUnit_view LightUnit.retryUsed (fun x => congrArg Prod.fst (atIssue_place x)) hv { f.light with lamps := _ } a b).trans h
  flash h := h.elim

/-- R118: the channels of a unit are placed as its outputs have it. -/
def Field.PlacedTo (f : Field) (a outputs : Nat) : Prop :=
  ∀ l ∈ f.light.lamps, (f.settings.lamp l.num).unit = a → l.placed = decide ((f.settings.lamp l.num).output ≤ outputs)

theorem keptAtEnd_placed (flashes : Prop) (a outputs : Nat) : KeptAtEnd flashes fun f => f.PlacedTo a outputs where
  lanes _ h := h
  request := fun {f b c} _ h => by
    unfold Field.PlacedTo
    rw [request_lamps, request_settings]; exact h
  issue := fun {f} b h l hl he => by
    obtain ⟨y, hy, rfl⟩ := List.mem_map.1 hl
    have hnum : ∀ t : Bool, (if t then { y with sent := some y.current } else y).num = y.num ∧
        (if t then { y with sent := some y.current } else y).placed = y.placed := fun t => by cases t <;> exact ⟨rfl, rfl⟩
    rw [(hnum _).1] at he ⊢
    rw [(hnum _).2]
    exact h y hy he
  flash _ f ns h := by
    refine placeFlash_keeps (P := fun f => f.PlacedTo a outputs) (fun f n g hg hf x hx he => ?_) ns h
    rw [(Refreshes.changeLamp n g f).settings] at he ⊢
    obtain hx | ⟨l, hl, rfl⟩ := mem_changeLamp_of hx
    · exact hf x hx he
    · exact (hg l).1.trans (hf l hl he)

end Sys2Proof.Machine

/-! The outcome of a transaction on the loop, and what the end of its event leaves of it (R158, R164 to R166). -/

namespace Sys2Proof.Machine

/-! ## The items of the lanes -/

theorem any_isSet_of_works {l m : List LaneItem} (h : l.map (·.work) = m.map (·.work)) (a : Nat) : l.any (·.isSet a) = m.any (·.isSet a) := by
  have key : ∀ l : List LaneItem, l.any (·.isSet a) = (l.map (·.work)).any fun w => LaneItem.isSet a ⟨w, false⟩ := fun l => by
    rw [List.any_map]; exact List.any_congr rfl fun _ => rfl
  rw [key, key, h]

/-- Lanes of the same work. -/
structure SameWorks (u v : Loop) : Prop where
  urgent : v.urgent.map (·.work) = u.urgent.map (·.work)
  ordinary : v.ordinary.map (·.work) = u.ordinary.map (·.work)

theorem SameWorks.holdsSet {u v : Loop} (h : SameWorks u v) (a : Nat) : v.holdsSet a = u.holdsSet a := by
  unfold Loop.holdsSet
  rw [any_isSet_of_works h.urgent, any_isSet_of_works h.ordinary]

theorem markFirst_works (p : LaneItem → Bool) (l : List LaneItem) : (markFirst p l).map (·.work) = l.map (·.work) := by
  induction l with
  | nil => rfl
  | cons i l ih =>
    unfold markFirst; split
    · rfl
    · exact congrArg (i.work :: ·) ih

theorem SameWorks.markItem (lane : Lane) (i : LaneItem) (u : Loop) : SameWorks u (u.markItem lane i) := by
  cases lane with
  | urgent => exact ⟨markFirst_works _ _, rfl⟩
  | ordinary => exact ⟨rfl, markFirst_works _ _⟩

theorem SameWorks.unsend (u : Loop) : SameWorks u u.unsend := by
  constructor <;> exact (List.map_map ..).trans (List.map_congr_left fun _ _ => rfl)

/-! ## The next work of a free loop -/

/-- What a free loop that takes its next work leaves: the work in its lanes; and no READ begins. -/
structure BeginsWork (s t : State) : Prop where
  works : SameWorks s.loop t.loop
  unread : ∀ a l, t.loop.transaction ≠ some (.read a l)

theorem startItem_beginsWork (lane : Lane) (i : LaneItem) (s : State) : BeginsWork s (startItem lane i s) := by
  have h := SameWorks.markItem lane i s.loop
  unfold startItem; dsimp only
  split <;> exact ⟨⟨h.urgent, h.ordinary⟩, nofun⟩

theorem takeWork_beginsWork {s : State} (hn : s.loop.transaction = none) : BeginsWork s (takeWork s) := by
  unfold takeWork
  rw [hn]; dsimp only
  split
  · exact startItem_beginsWork _ _ s
  split
  · exact ⟨⟨rfl, rfl⟩, nofun⟩
  split
  · rename_i k _
    cases k <;> exact ⟨⟨rfl, rfl⟩, nofun⟩
  split
  · exact startItem_beginsWork _ _ s
  · exact ⟨⟨rfl, rfl⟩, by simp [hn]⟩

/-! ## The end of the event -/

/-- What the end of its event leaves of the outcome `y` of a transaction. -/
structure EndsOutcome (y t : State) : Prop where
  settings : t.settings = y.settings
  perf : t.perf = y.perf
  rows : ∀ a, t.loop.row a = y.loop.row a
  reachable : t.calls.reachable = y.calls.reachable
  places : ∀ a, (t.light.unit a).map LightUnit.place = (y.light.unit a).map LightUnit.place
  keeps : ∀ {P : Field → Prop}, KeptAtEnd (¬ y.calm) P → P y.field → P t.field
  dark : ∀ a, y.field.Dark a → t.field.Dark a
  unread : y.loop.transaction = none → ∀ a l, t.loop.transaction ≠ some (.read a l)
  busy : y.loop.transaction ≠ none → y.loop.roomOwed = false → t.light = y.light ∧ t.loop = y.loop
  works : y.loop.roomOwed = false → SameWorks y.loop t.loop

/-- What every change of the lanes and of refresh keeps, an end without a display announcement keeps. -/
theorem EndsOutcome.keeps_calm {y t : State} (h : EndsOutcome y t) (hc : y.calm) {P : Field → Prop} (k : KeptAtEnd False P) (hp : P y.field) :
    P t.field := h.keeps (k.mono fun hn => hn hc) hp

theorem takeWork_works (s : State) : SameWorks s.loop (takeWork s).loop := by
  cases hn : s.loop.transaction with
  | none => exact (takeWork_beginsWork hn).works
  | some t => rw [takeWork_of_busy s (by simp [hn])]; exact ⟨rfl, rfl⟩

theorem settle_endsOutcome (y : State) : EndsOutcome y (settle y) := by
  obtain ⟨u, h, e⟩ := settle_lineWork y
  have hl := (Leaves.refl y).settle
  have hw := settle_endsLoopWork y
  have hcore : u.loop.core.transaction = y.loop.core.transaction := congrArg Loop.transaction h.refreshes.core
  refine ⟨hl.settings, hl.perf, hw.rows, hw.reachable, fun a => ?_, fun k hp => k.settle hp, hw.dark, fun hn => ?_, fun hb ho => ?_, fun ho => ?_⟩
  · rw [e, unit_place, unit_place]
    exact congrArg _ ((takeWork_startsWork u).places.trans h.refreshes.places)
  · rw [e]; exact (takeWork_beginsWork (hcore.trans hn)).unread
  · rw [settle_served y ho, takeWork_of_busy { y with scanner := y.scanner.settlePath y.settings } hb]; exact ⟨rfl, rfl⟩
  · rw [settle_served y ho]; exact takeWork_works { y with scanner := y.scanner.settlePath y.settings }

/-- R158: an outcome taken, with what is presented refreshed, and the end of its event. -/
theorem settle_refreshPresented_endsOutcome (y : State) : EndsOutcome y (settle (refreshPresented y)) := by
  obtain ⟨l, q, e⟩ := refreshPresented_eq y
  rw [e]
  have h := settle_endsOutcome { y with alarm := { y.alarm with lastShown := l }, ports := q }
  exact ⟨h.settings, h.perf, h.rows, h.reachable, h.places, h.keeps, h.dark, h.unread, h.busy, h.works⟩

/-! ## The commands -/

theorem execLoopReply_outcome {s : State} {t : Transaction} (f : LoopFrame) (hh : s.resetHeld = false) (ht : s.loop.transaction = some t) :
    ∃ u, exec (.loopReply f) s = .next u ∧ EndsOutcome (takeOutcome t (judgeFrame t f) s) u := by
  refine ⟨_, ?_, settle_refreshPresented_endsOutcome _⟩
  show execLoopReply f s = _
  rw [execLoopReply, command_next _ hh, ht]

/-- R158: a frame with a check that fails is GARBLED. -/
theorem judgeFrame_garbled (t : Transaction) {f : LoopFrame} (h : f.checkGood = false) : judgeFrame t f = .garbled := by
  unfold judgeFrame; split
  · rfl
  · simp [h]

/-- R158: a whole frame of the kind asked, whose contents fit. -/
theorem judgeFrame_valid {t : Transaction} {f : LoopFrame} {a : Nat} {k : LoopKind} (ht : t.addressed = some (a, k)) (ha : f.address = a)
    (hk : f.kind = k) (hr : f.reply = true) (hc : f.complete = true) (hg : f.checkGood = true) (hb : bodyFits t f.body = true) :
    judgeFrame t f = .valid f.body f.good := by
  unfold judgeFrame; rw [ht]; simp [ha, hk, hr, hc, hg, hb]

/-- The command `c` ends a transaction that has drawn no valid reply. -/
def DrawsNothing (c : Instr) (o : LoopOutcome) : Prop :=
  (c = .replyWindowExpiry ∧ o = .noReply) ∨ ∃ f : LoopFrame, c = .loopReply f ∧ f.checkGood = false ∧ o = .garbled

/-- R158: the window's end is that of a clock that has reached it. -/
theorem exec_drawsNothing {s : State} {c : Instr} {o : LoopOutcome} {t : Transaction} (h : DrawsNothing c o) (hh : s.resetHeld = false)
    (ht : s.loop.transaction = some t) (hb : t ≠ .broadcast) :
    ∃ k u, exec c s = .next u ∧ EndsOutcome (takeOutcome t o { s with clock := k }) u := by
  obtain ⟨rfl, rfl⟩ | ⟨f, rfl, hf, rfl⟩ := h
  · refine ⟨s.clock.reach s.loop.windowAt, _, ?_, settle_refreshPresented_endsOutcome _⟩
    show execReplyWindowExpiry s = _
    rw [execReplyWindowExpiry, command_next _ hh, ht]
    cases t with
    | broadcast => exact absurd rfl hb
    | poll | set | read | probe => rfl
  · obtain ⟨u, he, hu⟩ := execLoopReply_outcome f hh ht
    rw [judgeFrame_garbled t hf] at hu
    exact ⟨s.clock, u, he, hu⟩

end Sys2Proof.Machine

/-! The unit table under the outcome of a transaction (R156, R167 to R169, R175): the row of the unit, and what else stands. -/

namespace Sys2Proof.Machine

/-! ## What the Loop Master's own table work leaves -/

/-- A state but for the unit table, the count of check errors and the rate, Supervision, the free values and the Port Units. -/
def State.offTable (s : State) : State :=
  { s with freeCount := 0, sup := State.reset.sup, ports := State.reset.ports, loop := { s.loop with rows := [], rate := .fast, checkErrors := 0 } }

/-- What changes no more than the unit table, with its faults and notices. -/
def TableWork (s t : State) : Prop := t.offTable = s.offTable

section
variable {s0 s t : State}

theorem TableWork.refl (s : State) : TableWork s s := rfl

theorem TableWork.trans (h : TableWork s0 s) (k : TableWork s t) : TableWork s0 t := Eq.trans k h

theorem TableWork.view {β : Type} (h : TableWork s t) (f : State → β) : f t.offTable = f s.offTable := congrArg f h

theorem TableWork.settings (h : TableWork s t) : t.settings = s.settings := h.view State.settings
theorem TableWork.perf (h : TableWork s t) : t.perf = s.perf := h.view State.perf
theorem TableWork.clock (h : TableWork s t) : t.clock = s.clock := h.view State.clock
theorem TableWork.light (h : TableWork s t) : t.light = s.light := h.view State.light
theorem TableWork.calls (h : TableWork s t) : t.calls = s.calls := h.view State.calls
theorem TableWork.curtain (h : TableWork s t) : t.curtain = s.curtain := h.view State.curtain
theorem TableWork.urgent (h : TableWork s t) : t.loop.urgent = s.loop.urgent := h.view (fun u : State => u.loop.urgent)
theorem TableWork.ordinary (h : TableWork s t) : t.loop.ordinary = s.loop.ordinary := h.view (fun u : State => u.loop.ordinary)
theorem TableWork.roomOwed (h : TableWork s t) : t.loop.roomOwed = s.loop.roomOwed := h.view (fun u : State => u.loop.roomOwed)
theorem TableWork.transaction (h : TableWork s t) : t.loop.transaction = s.loop.transaction := h.view (fun u : State => u.loop.transaction)
theorem TableWork.state (h : TableWork s t) : t.loop.state = s.loop.state := h.view (fun u : State => u.loop.state)
theorem TableWork.survey (h : TableWork s t) : t.loop.survey = s.loop.survey := h.view (fun u : State => u.loop.survey)

theorem TableWork.works (h : TableWork s t) : SameWorks s.loop t.loop := ⟨by rw [h.urgent], by rw [h.ordinary]⟩

theorem TableWork.calm (h : TableWork s t) (hc : s.calm) : t.calm := by unfold State.calm; rw [h.curtain]; exact hc

theorem TableWork.dark (h : TableWork s t) {a : Nat} (d : s.field.Dark a) : t.field.Dark a :=
  ⟨(h.works.holdsSet a).trans d.unset, by rw [State.field, h.light]; exact d.waiting, by
    rw [State.field, h.light, h.settings]; exact d.lamps⟩

theorem TableWork.mapRow (a : Nat) (f : UnitRow → UnitRow) (s : State) : TableWork s (Machine.mapRow a f s) := rfl

theorem TableWork.notify (f : Family) (n : Notice) (s : State) : TableWork s (Machine.notify f n s) := by
  obtain ⟨q, e⟩ := notify_eq s f n
  rw [e]; exact .refl s

theorem TableWork.raiseFault (src : FaultSource) (k : FaultKind) (s : State) : TableWork s (Machine.raiseFault src k s) := by
  obtain ⟨u, q, e⟩ := raiseFault_eq src k s
  rw [e]; exact .refl s

theorem TableWork.clearFault (src : FaultSource) (k : FaultKind) (s : State) : TableWork s (Machine.clearFault src k s) := by
  obtain ⟨u, q, e⟩ := clearFault_eq src k s
  rw [e]; exact .refl s

theorem TableWork.raiseUnitFault (a : Nat) (k : FaultKind) (s : State) : TableWork s (Machine.raiseUnitFault a k s) :=
  (TableWork.mapRow a _ s).trans (.raiseFault _ _ _)

theorem TableWork.clearUnitFault (a : Nat) (k : FaultKind) (s : State) : TableWork s (Machine.clearUnitFault a k s) := by
  unfold Machine.clearUnitFault; split
  · exact (TableWork.mapRow a _ s).trans (.clearFault _ _ _)
  · exact .refl s

theorem TableWork.heard (a : Nat) (good : Bool) (s : State) : TableWork s (Machine.heard a good s) := by
  unfold Machine.heard; dsimp only; split
  · exact (TableWork.mapRow a _ s).trans (.clearUnitFault _ _ _)
  · exact (TableWork.mapRow a _ s).trans (.raiseUnitFault _ _ _)

theorem TableWork.takeAnswer (a : Nat) (x : SetAnswer) (good : Bool) (s : State) : TableWork s (Machine.takeAnswer a x good s) := by
  have h := (TableWork.mapRow a (fun r => { r with room := roomAfter x }) s).trans (.heard a good _)
  unfold Machine.takeAnswer
  cases x with
  | taken | takenFull => exact h.trans (.clearUnitFault _ _ _)
  | refused =>
    dsimp only; split
    · exact h.trans (.raiseUnitFault _ _ _)
    · exact h

theorem TableWork.fallBack (s : State) : TableWork s (Machine.fallBack s) := by
  have hslow : TableWork s (spend (mapLoop (fun u => { u with rate := .slow }) s)) := rfl
  exact (hslow.trans (.notify _ _ _)).trans (.raiseFault _ _ _)

theorem TableWork.countGarbled (a : Nat) (s : State) : TableWork s (Machine.countGarbled a s) := by
  unfold Machine.countGarbled; dsimp only; split
  · exact TableWork.fallBack _
  · exact .refl s

/-! ## The faults that a row holds -/

theorem contains_insertKind (j k : FaultKind) (l : List FaultKind) : (insertKind k l).contains j = (j == k || l.contains j) := by
  unfold insertKind; split
  · rename_i h
    by_cases e : j = k
    · subst e; simpa using h
    · simp [e]
  · rw [Bool.eq_iff_iff]; simp [or_comm]

theorem contains_removeKind (j k : FaultKind) (l : List FaultKind) : (removeKind k l).contains j = (j != k && l.contains j) := by
  unfold removeKind; rw [Bool.eq_iff_iff]; simp [and_comm]

theorem insertKind_held (k : FaultKind) (l : List FaultKind) : (insertKind k l).contains k = true := by
  rw [contains_insertKind, beq_self_eq_true]; rfl

theorem removeKind_unheld (k : FaultKind) (l : List FaultKind) : (removeKind k l).contains k = false := by
  rw [contains_removeKind, bne_self_eq_false]; rfl

/-- A row with a fault of one kind held. -/
def UnitRow.holdFault (k : FaultKind) (r : UnitRow) : UnitRow := { r with faultsHeld := insertKind k r.faultsHeld }

/-! ## The row of the unit -/

theorem notify_row (f : Family) (n : Notice) (s : State) (a : Nat) : (Machine.notify f n s).loop.row a = s.loop.row a := by
  obtain ⟨q, e⟩ := notify_eq s f n
  rw [e]

variable {a : Nat} {r : UnitRow}

theorem mapRow_row {f : UnitRow → UnitRow} (hf : ∀ r, (f r).address = r.address) (h : s.loop.row a = some r) :
    (mapRow a f s).loop.row a = some (f r) := by
  rw [row_mapRow_self hf, h]; rfl

theorem raiseUnitFault_row (k : FaultKind) (h : s.loop.row a = some r) : (raiseUnitFault a k s).loop.row a = some (r.holdFault k) := by
  obtain ⟨u, q, e⟩ := raiseFault_eq (.unit a) k (mapRow a (UnitRow.holdFault k) s)
  show (raiseFault (.unit a) k (mapRow a (UnitRow.holdFault k) s)).loop.row a = _
  rw [e]
  exact mapRow_row (f := UnitRow.holdFault k) (fun _ => rfl) h

/-- R168: the row of a unit that has given a valid reply. -/
def UnitRow.heard (good : Bool) (r : UnitRow) : UnitRow :=
  { r with misses := 0, faultsHeld := if good then removeKind .unitBadData r.faultsHeld else insertKind .unitBadData r.faultsHeld }

theorem heard_row (good : Bool) (h : s.loop.row a = some r) : (heard a good s).loop.row a = some (r.heard good) := by
  have h0 : (mapRow a (fun r => { r with misses := 0 }) s).loop.row a = some { r with misses := 0 } :=
    mapRow_row (f := fun r => { r with misses := 0 }) (fun _ => rfl) h
  cases good with
  | true => exact clearUnitFault_row .unitBadData h0
  | false => exact raiseUnitFault_row .unitBadData h0

/-- R167: the faults of a row after an answer to a SET. -/
def answeredFaults (x : SetAnswer) (streamed : Bool) (l : List FaultKind) : List FaultKind :=
  match x with
  | .taken | .takenFull => removeKind .promiseBroken l
  | .refused => if streamed then insertKind .promiseBroken l else l

/-- R167: the row of a unit that has answered a SET. -/
def UnitRow.answered (x : SetAnswer) (streamed good : Bool) (r : UnitRow) : UnitRow :=
  { r.heard good with room := roomAfter x, faultsHeld := answeredFaults x streamed (r.heard good).faultsHeld }

theorem answered_promise (x : SetAnswer) (streamed : Bool) (l : List FaultKind) (h : x = .refused → streamed = true) :
    (answeredFaults x streamed l).contains .promiseBroken = decide (x = .refused) := by
  cases x with
  | taken | takenFull => exact removeKind_unheld _ l
  | refused => rw [h rfl]; exact insertKind_held _ l

theorem takeAnswer_row (x : SetAnswer) (good : Bool) (h : s.loop.row a = some r) :
    (takeAnswer a x good s).loop.row a = some (r.answered x (decide ((s.settings.loopRow a).mode = .streamed)) good) := by
  have h0 : (mapRow a (fun r => { r with room := roomAfter x }) s).loop.row a = some { r with room := roomAfter x } :=
    mapRow_row (f := fun r => { r with room := roomAfter x }) (fun _ => rfl) h
  have h1 := heard_row good h0
  have hs : (heard a good (mapRow a (fun r => { r with room := roomAfter x }) s)).settings = s.settings := (TableWork.heard a good _).settings
  unfold takeAnswer
  cases x with
  | taken | takenFull => exact clearUnitFault_row .promiseBroken h1
  | refused =>
    dsimp only
    rw [hs]
    split
    · rename_i hm
      rw [raiseUnitFault_row .promiseBroken h1, hm]; rfl
    · rename_i hm
      rw [h1, decide_eq_false hm]; rfl

/-- R175: the check errors of a row after an outcome. -/
def LoopOutcome.errors (o : LoopOutcome) (n : Nat) : Nat :=
  match o with
  | .garbled => min 255 (n + 1)
  | .noReply | .valid _ _ => n

/-- R175: a row with one more check error. -/
def UnitRow.garbled (r : UnitRow) : UnitRow := { r with checkErrors := satSucc 255 r.checkErrors }

/-- R175: the unit table with one more check error of a unit. -/
def Loop.garbled (a : Nat) (u : Loop) : Loop := { u.change a UnitRow.garbled with checkErrors := satSucc 255 u.checkErrors }

theorem countGarbled_eq (a : Nat) (s : State) : countGarbled a s =
    if (mapLoop (Loop.garbled a) s).loop.state = .running ∧ (mapLoop (Loop.garbled a) s).loop.rate = .fast ∧
      8 ≤ (mapLoop (Loop.garbled a) s).loop.checkErrors then fallBack (mapLoop (Loop.garbled a) s) else mapLoop (Loop.garbled a) s := rfl

theorem fallBack_row (a : Nat) (s : State) : (fallBack s).loop.row a = s.loop.row a := by
  unfold fallBack; dsimp only
  obtain ⟨u, q, e⟩ := raiseFault_eq .loop .loopRateFallback
    (loopNotice (.rateSlow (s.loop.worstAddress s.freeCount)) (spend (mapLoop (fun u => { u with rate := .slow }) s)))
  rw [e]
  exact notify_row ..

theorem countGarbled_row (h : s.loop.row a = some r) :
    (countGarbled a s).loop.row a = some { r with checkErrors := min 255 (r.checkErrors + 1) } := by
  have h0 : (mapLoop (Loop.garbled a) s).loop.row a = some { r with checkErrors := min 255 (r.checkErrors + 1) } := by
    show (s.loop.change a UnitRow.garbled).row a = _
    rw [row_change (f := UnitRow.garbled) fun _ => rfl, h, ← satSucc_eq_min]
    simp [UnitRow.garbled]
  rw [countGarbled_eq]; split
  · rw [fallBack_row]; exact h0
  · exact h0

end

end Sys2Proof.Machine

/-! A miss, and a unit that becomes ABSENT with a fault raised (R118, R123, R169, R175). -/

namespace Sys2Proof.Machine

/-! ## The course of the loop -/

/-- The settings, and of the loop its state, its transaction and its survey, stand. -/
structure KeepsCourse (s t : State) : Prop where
  settings : t.settings = s.settings
  transaction : t.loop.transaction = s.loop.transaction
  state : t.loop.state = s.loop.state
  survey : t.loop.survey = s.loop.survey

theorem KeepsCourse.refl (s : State) : KeepsCourse s s := ⟨rfl, rfl, rfl, rfl⟩

section
variable {s0 s t : State}

theorem KeepsCourse.trans (h : KeepsCourse s0 s) (k : KeepsCourse s t) : KeepsCourse s0 t :=
  ⟨k.settings.trans h.settings, k.transaction.trans h.transaction, k.state.trans h.state, k.survey.trans h.survey⟩

theorem TableWork.course (h : TableWork s t) : KeepsCourse s t := ⟨h.settings, h.transaction, h.state, h.survey⟩

theorem KeepsCourse.of_core (hs : t.settings = s.settings) (hc : t.loop.core = s.loop.core) : KeepsCourse s t :=
  have view : ∀ {β : Type} (f : Loop → β), f t.loop.core = f s.loop.core := fun f => congrArg f hc
  ⟨hs, view Loop.transaction, view Loop.state, view Loop.survey⟩

theorem KeepsCourse.notify (f : Family) (n : Notice) (s : State) : KeepsCourse s (Machine.notify f n s) := (TableWork.notify f n s).course

/-! ## An absence with its fault -/

theorem KeepsCourse.goAbsent (a : Nat) (e : UnitKind) (k : FaultKind) (n : Notice) (s : State) : KeepsCourse s (Machine.goAbsent a e (some k) n s) := by
  have hlose : KeepsCourse s (mapLoop (Loop.lose a) s) := ⟨rfl, rfl, rfl, rfl⟩
  have hraise := (TableWork.raiseUnitFault a k (mapLoop (Loop.lose a) s)).course
  have hreport : KeepsCourse (raiseUnitFault a k (mapLoop (Loop.lose a) s)) (reportAbsence a e (raiseUnitFault a k (mapLoop (Loop.lose a) s))) :=
    .of_core (RowWork.reportAbsence a e _).settings (reportAbsence_core a e _)
  exact ((hlose.trans hraise).trans hreport).trans (.notify _ _ _)

theorem goAbsent_fault_row {a : Nat} {r : UnitRow} (e : UnitKind) (k : FaultKind) (n : Notice) (h : s.loop.row a = some r) :
    (goAbsent a e (some k) n s).loop.row a = some (r.absent.holdFault k) := by
  have hlose : (mapLoop (Loop.lose a) s).loop.row a = some r.absent := by
    show (s.loop.lose a).row a = _
    rw [lose_row, h]; simp
  refine (notify_row ..).trans ?_
  rw [row_of_core (reportAbsence_core a e _), raiseUnitFault_row k hlose]

/-- R169, R118: a lamp unit that becomes ABSENT is dark. -/
theorem goAbsent_fault_dark (a : Nat) (k : FaultKind) (n : Notice) (s : State) : (goAbsent a .lamp (some k) n s).field.Dark a := by
  have hraise := TableWork.raiseUnitFault a k (mapLoop (Loop.lose a) s)
  refine (TableWork.notify _ _ _).dark ?_
  show (onField (Field.absent a) (raiseUnitFault a k (mapLoop (Loop.lose a) s))).field.Dark a
  rw [onField_field rfl]
  exact absent_dark_self ((hraise.works.holdsSet a).trans (removeSet_unset a _))

/-- R118: the record of a lamp unit reported absent. -/
def LightUnit.lost (x : LightUnit) : LightUnit := { x with present := false, refresh := .clean, retryUsed := false }

theorem goAbsent_fault_unit (a : Nat) (k : FaultKind) (n : Notice) (s : State) :
    (goAbsent a .lamp (some k) n s).light.unit a = (s.light.unit a).map LightUnit.lost := by
  have hnotify := TableWork.notify .loop n (reportAbsence a .lamp (raiseUnitFault a k (mapLoop (Loop.lose a) s)))
  have hraise := TableWork.raiseUnitFault a k (mapLoop (Loop.lose a) s)
  show (notify .loop n (reportAbsence a .lamp (raiseUnitFault a k (mapLoop (Loop.lose a) s)))).light.unit a = _
  rw [hnotify.light]
  show (Light.changeUnit _ a LightUnit.lost).unit a = _
  rw [unit_changeUnit (f := LightUnit.lost) fun _ => rfl]
  have hunit : (raiseUnitFault a k (mapLoop (Loop.lose a) s)).light.unit a = s.light.unit a := by rw [hraise.light]; rfl
  simp only [if_true]
  exact congrArg (Option.map LightUnit.lost) hunit

/-- R169, R123: a call unit that becomes ABSENT is reachable no more. -/
theorem goAbsent_fault_unreachable (a : Nat) (k : FaultKind) (n : Notice) (s : State) :
    ∀ y ∈ (goAbsent a .call (some k) n s).calls.reachable, y.address ≠ a := by
  have h := (callUnitGone_lineWork a (raiseUnitFault a k (mapLoop (Loop.lose a) s))).trans ((LineWork.refl _).notify .loop n)
  intro y hy
  have hy : y ∈ (notify .loop n (callUnitGone a (raiseUnitFault a k (mapLoop (Loop.lose a) s)))).calls.reachable := hy
  rw [h.reachable] at hy
  simpa using (List.mem_filter.1 hy).2

/-! ## A miss -/

/-- R169: the row of a PRESENT unit that has missed. -/
def UnitRow.missed (r : UnitRow) : UnitRow :=
  if 3 ≤ r.misses + 1 then r.absent.holdFault .unitAbsent else { r with misses := r.misses + 1 }

variable {a : Nat} {r : UnitRow}

theorem miss_third (h : s.loop.row a = some r) (hp : r.present = true) (hm : 3 ≤ r.misses + 1) : miss a s = absentByMisses a s := by
  rw [miss, h]; simp [hp, hm]

theorem miss_early (h : s.loop.row a = some r) (hp : r.present = true) (hm : r.misses + 1 < 3) :
    miss a s = mapRow a (fun r => { r with misses := r.misses + 1 }) s := by
  rw [miss, h]; simp [hp, show ¬ 3 ≤ r.misses + 1 by omega]

theorem miss_row (h : s.loop.row a = some r) (hp : r.present = true) : (miss a s).loop.row a = some r.missed := by
  unfold UnitRow.missed; split
  · rename_i hm
    rw [miss_third h hp hm]; exact goAbsent_fault_row _ _ _ h
  · rename_i hm
    rw [miss_early h hp (by omega)]
    exact mapRow_row (f := fun r => { r with misses := r.misses + 1 }) (fun _ => rfl) h

theorem missed_checkErrors (r : UnitRow) : r.missed.checkErrors = r.checkErrors := by unfold UnitRow.missed; split <;> rfl

theorem KeepsCourse.miss (a : Nat) (s : State) : KeepsCourse s (Machine.miss a s) := by
  unfold Machine.miss; split
  · exact .refl s
  split
  · split
    · exact .goAbsent ..
    · exact (TableWork.mapRow a _ s).course
  · exact .refl s

/-- R167: a transaction that draws no valid reply counts a miss, and a GARBLED one a check error after it. -/
theorem unheard_work (a : Nat) (o : LoopOutcome) (s : State) : TableWork (miss a s) (unheard a o s) := by
  cases o with
  | garbled => exact .countGarbled a _
  | noReply | valid => exact .refl _

theorem unheard_row (o : LoopOutcome) (h : s.loop.row a = some r) (hp : r.present = true) :
    (unheard a o s).loop.row a = some { r.missed with checkErrors := o.errors r.checkErrors } := by
  have hm := miss_row h hp
  have he := missed_checkErrors r
  cases o with
  | garbled => rw [← he]; exact countGarbled_row hm
  | noReply | valid => rw [← he]; exact hm

theorem unheard_early (o : LoopOutcome) (h : s.loop.row a = some r) (hp : r.present = true) (hm : r.misses + 1 < 3) :
    TableWork s (unheard a o s) := by
  have hearly : TableWork s (miss a s) := by rw [miss_early h hp hm]; exact .mapRow ..
  exact hearly.trans (unheard_work a o s)

theorem KeepsCourse.unheard (a : Nat) (o : LoopOutcome) (s : State) : KeepsCourse s (Machine.unheard a o s) :=
  (KeepsCourse.miss a s).trans (unheard_work a o s).course

/-- R169: the third consecutive miss of a lamp unit leaves it dark, with the record of a lost unit. -/
theorem unheard_lost (o : LoopOutcome) (h : s.loop.row a = some r) (hp : r.present = true) (hm : 3 ≤ r.misses + 1)
    (he : (s.settings.loopRow a).expected = .lamp) :
    (unheard a o s).field.Dark a ∧ (unheard a o s).light.unit a = (s.light.unit a).map LightUnit.lost := by
  have hw := unheard_work a o s
  have hmiss : miss a s = goAbsent a .lamp (some .unitAbsent) (.unitAbsent a .lamp s.uptime) s := by
    rw [miss_third h hp hm, absentByMisses, he]
  refine ⟨hw.dark ?_, ?_⟩
  · rw [hmiss]; exact goAbsent_fault_dark ..
  · rw [hw.light, hmiss]; exact goAbsent_fault_unit ..

end

end Sys2Proof.Machine

/-! What a lamp unit's answers to a SET and to a READ do, and the misses of both (R116, R117, R120, R166 to R170). -/

namespace Sys2Proof.Machine

section
variable {s : State} {a : Nat} {r : UnitRow}

/-! ## A SET completed -/

theorem taken_core (a : Nat) (f : Field) : (f.taken a).settings = f.settings ∧ (f.taken a).loop.core = f.loop.core := by
  unfold Field.taken; split
  · rename_i c _
    have h := Refreshes.request a c { f with light := f.light.changeUnit a (fun x => { x with refresh := .dirty c }) }
    exact ⟨h.settings, h.core⟩
  · exact ⟨rfl, rfl⟩

theorem completeSet_field (a : Nat) (s : State) : (completeSet a s).field = (mapLoop (Loop.removeSet a) s).field.taken a :=
  onField_field (f := Field.taken a) (taken_core a _).1

theorem completeSet_row (a b : Nat) (s : State) : (completeSet a s).loop.row b = s.loop.row b :=
  (row_of_core (taken_core a (mapLoop (Loop.removeSet a) s).field).2 b).trans
    (row_of_core (Lanes.dropItems (fun _ => True) (LaneItem.isSet a) s.loop).core b)

/-- R117: a unit not changed since its SET was issued is CLEAN once it is taken. -/
theorem completeSet_clean {c : TrafficClass} (h : (s.light.unit a).map LightUnit.refresh = some (.queued c none)) :
    (completeSet a s).field.loop.holdsSet a = false ∧ ((completeSet a s).field.light.unit a).map LightUnit.refresh = some .clean := by
  rw [completeSet_field]
  have hr : ((mapLoop (Loop.removeSet a) s).field.light.unit a).map LightUnit.refresh = some (.queued c none) := h
  unfold Field.taken
  rw [hr]
  refine ⟨removeSet_unset a s.loop, ?_⟩
  obtain ⟨x, hx, _⟩ := Option.map_eq_some_iff.1 hr
  dsimp only
  rw [unit_refreshed_self .clean, hx]; rfl

/-- R117: a unit changed since is requested again at the class of the change. -/
theorem completeSet_requested {c e : TrafficClass} (h : (s.light.unit a).map LightUnit.refresh = some (.queued c (some e))) :
    (completeSet a s).field.Requested a e := by
  rw [completeSet_field]
  have hr : ((mapLoop (Loop.removeSet a) s).field.light.unit a).map LightUnit.refresh = some (.queued c (some e)) := h
  unfold Field.taken
  rw [hr]
  refine request_requested ?_
  obtain ⟨x, hx, _⟩ := Option.map_eq_some_iff.1 hr
  dsimp only
  rw [unit_refreshed_self (.dirty e), hx]; rfl

theorem completeSet_retry (a : Nat) (s : State) : (completeSet a s).field.retry a = s.field.retry a := by
  have change := fun r => unit_refreshed_view LightUnit.retryUsed (fun _ _ => rfl) r s.light a a
  rw [completeSet_field]
  unfold Field.taken Field.retry
  split
  · exact (request_view LightUnit.retryUsed (fun _ _ => rfl) a a _ _).trans (change _)
  · exact change _

/-! ## The answer to a SET -/

theorem takeOutcome_set {sent : List Nat} {held : Bool} (o : LoopOutcome) (h : s.loop.row a = some r) (hp : r.present = true) :
    takeOutcome (.set a sent held) o s = endSet a sent held o s := by
  rw [takeOutcome, stillPresent_of_row h, hp]; rfl

theorem takeOutcome_read {sent : List Nat} (o : LoopOutcome) (h : s.loop.row a = some r) (hp : r.present = true) :
    takeOutcome (.read a sent) o s = endRead a sent o s := by
  rw [takeOutcome, stillPresent_of_row h, hp]; rfl

theorem endSet_held {sent : List Nat} {x : SetAnswer} (good : Bool) (hx : x ≠ .refused) (s : State) : endSet a sent true (.valid (.setAnswer x) good) s =
    mapLoop (Loop.begin (.read a sent) s.settings.loop.replyWindow s.clock.now) (takeAnswer a x good s) := by
  cases x with
  | taken | takenFull => rfl
  | refused => exact absurd rfl hx

theorem endSet_unheld {sent : List Nat} {x : SetAnswer} (good : Bool) (hx : x ≠ .refused) (s : State) :
    endSet a sent false (.valid (.setAnswer x) good) s = completeSet a (takeAnswer a x good (endTransaction s)) := by
  cases x with
  | taken | takenFull => rfl
  | refused => exact absurd rfl hx

theorem answer_work (x : SetAnswer) (good : Bool) (s : State) : TableWork (endTransaction s) (takeAnswer a x good (endTransaction s)) :=
  .takeAnswer ..

/-- What an answer to a SET makes of the row, and what it leaves. -/
structure TakesAnswer (a : Nat) (x : SetAnswer) (good : Bool) (r : UnitRow) (s t : State) : Prop where
  perf : t.perf = s.perf
  settings : t.settings = s.settings
  row : t.loop.row a = some (r.answered x (decide ((s.settings.loopRow a).mode = .streamed)) good)

theorem endSet_takesAnswer {sent : List Nat} {held : Bool} (x : SetAnswer) (good : Bool) (h : s.loop.row a = some r) :
    TakesAnswer a x good r s (endSet a sent held (.valid (.setAnswer x) good) s) := by
  have hw := answer_work (a := a) x good s
  have hended : TakesAnswer a x good r s (takeAnswer a x good (endTransaction s)) :=
    ⟨hw.perf, hw.settings, takeAnswer_row (s := endTransaction s) x good h⟩
  by_cases hx : x = .refused
  · subst hx; exact hended
  cases held with
  | true =>
    have hk := TableWork.takeAnswer a x good s
    rw [endSet_held good hx]
    exact ⟨hk.perf, hk.settings, takeAnswer_row x good h⟩
  | false =>
    rw [endSet_unheld good hx]
    exact ⟨hended.perf, hended.settings, (completeSet_row ..).trans hended.row⟩

theorem TakesAnswer.ended {x : SetAnswer} {good : Bool} {y t : State} (h : TakesAnswer a x good r s y) (k : EndsOutcome y t) :
    TakesAnswer a x good r s t := ⟨k.perf.trans h.perf, k.settings.trans h.settings, (k.rows a).trans h.row⟩

/-- R167: REFUSED leaves the item. -/
theorem endSet_refused_holds {sent : List Nat} {held good : Bool} {t : State} (ho : s.loop.roomOwed = false)
    (k : EndsOutcome (endSet a sent held (.valid (.setAnswer .refused) good) s) t) : t.loop.holdsSet a = s.loop.holdsSet a := by
  have hw := answer_work (a := a) .refused good s
  calc t.loop.holdsSet a = (takeAnswer a .refused good (endTransaction s)).loop.holdsSet a := (k.works (hw.roomOwed.trans ho)).holdsSet a
    _ = (endTransaction s).loop.holdsSet a := hw.works.holdsSet a
    _ = s.loop.holdsSet a := (SameWorks.unsend s.loop).holdsSet a

/-- R166, R170: a held SET taken goes on to its READ with its item kept. -/
theorem endSet_held_reads {sent : List Nat} {x : SetAnswer} {good : Bool} {t : State} (ho : s.loop.roomOwed = false) (hx : x ≠ .refused)
    (k : EndsOutcome (endSet a sent true (.valid (.setAnswer x) good) s) t) :
    t.loop.transaction = some (.read a sent) ∧ t.loop.urgent = s.loop.urgent ∧ t.loop.ordinary = s.loop.ordinary := by
  have hw := TableWork.takeAnswer a x good s
  rw [endSet_held good hx] at k
  obtain ⟨-, hl⟩ := k.busy nofun (hw.roomOwed.trans ho)
  rw [hl]
  exact ⟨rfl, hw.urgent, hw.ordinary⟩

/-- R117, R167: a SET taken that is not held leaves its lane, and its unit CLEAN or requested again. -/
theorem endSet_unheld_completes {sent : List Nat} {x : SetAnswer} {good : Bool} {t : State} (hc : s.calm) (hx : x ≠ .refused)
    (k : EndsOutcome (endSet a sent false (.valid (.setAnswer x) good) s) t) :
    (∀ c, (s.light.unit a).map LightUnit.refresh = some (.queued c none) →
      t.loop.holdsSet a = false ∧ (t.light.unit a).map LightUnit.refresh = some .clean) ∧
    (∀ c e, (s.light.unit a).map LightUnit.refresh = some (.queued c (some e)) → t.field.Requested a e) := by
  have hw := answer_work (a := a) x good s
  have hcalm : (takeAnswer a x good (endTransaction s)).calm := hw.calm hc
  have hunit : (takeAnswer a x good (endTransaction s)).light.unit a = s.light.unit a := by rw [hw.light]; rfl
  rw [endSet_unheld good hx] at k
  exact ⟨fun c hr => k.keeps_calm hcalm (keptAtEnd_clean a) (completeSet_clean (hunit.symm ▸ hr)),
    fun c e hr => k.keeps_calm hcalm (keptAtEnd_requested a e) (completeSet_requested (hunit.symm ▸ hr))⟩

/-! ## The verdict of a held exchange -/

theorem forgetSent_retry (f : Field) (a n : Nat) : (f.forgetSent n).retry a = f.retry a := by
  unfold Field.forgetSent; split
  · rfl
  · exact judgeLamp_view LightUnit.retryUsed (fun _ _ => rfl) a _ _

theorem forgetSent_refreshes (f : Field) (n : Nat) : Refreshes f (f.forgetSent n) := by
  unfold Field.forgetSent; split
  · exact .refl f
  · exact .putJudged _ _

theorem foldl_forgetSent_retry (a : Nat) (ns : List Nat) : ∀ f : Field, (ns.foldl Field.forgetSent f).retry a = f.retry a := by
  induction ns with
  | nil => exact fun _ => rfl
  | cons n ns ih => exact fun f => (ih _).trans (forgetSent_retry f a n)

theorem verdict_core (a : Nat) (confirmed : Bool) (f : Field) :
    (f.verdict a confirmed).settings = f.settings ∧ (f.verdict a confirmed).loop.core = f.loop.core := by
  unfold Field.verdict; split
  · exact ⟨rfl, rfl⟩
  split
  · exact ⟨rfl, rfl⟩
  split
  · exact ⟨rfl, rfl⟩
  · have h := fun ns => Refreshes.foldl forgetSent_refreshes ns { f with light := f.light.changeUnit a (fun y => { y with retryUsed := true }) }
    exact ⟨(h _).settings, (h _).core⟩

/-- R120: the retry mark after a verdict. -/
theorem verdict_retry (a : Nat) (confirmed : Bool) (f : Field) : (f.verdict a confirmed).retry a = (f.retry a).map fun _ => !confirmed := by
  have marked : ∀ b : Bool, ({ f with light := f.light.changeUnit a (fun y => { y with retryUsed := b }) } : Field).retry a =
      (f.retry a).map fun _ => b := by
    intro b
    unfold Field.retry
    dsimp only
    rw [unit_changeUnit (f := fun y => { y with retryUsed := b }) fun _ => rfl, Option.map_map, Option.map_map]
    exact Option.map_congr fun x _ => by simp
  unfold Field.verdict
  cases hu : f.light.unit a with
  | none => simp [Field.retry, hu]
  | some x =>
    cases confirmed with
    | true => exact marked false
    | false =>
      dsimp only
      simp only [Bool.false_eq_true, if_false]
      split
      · rename_i hr
        simp [Field.retry, hu, hr]
      · exact (foldl_forgetSent_retry a _ _).trans (marked true)

/-- R170: the row after a verdict. -/
def UnitRow.judged (confirmed good : Bool) (r : UnitRow) : UnitRow :=
  let l := (r.heard good).faultsHeld
  { r.heard good with faultsHeld := if confirmed then removeKind .levelUnconfirmed l else insertKind .levelUnconfirmed l }

theorem judged_levelUnconfirmed (confirmed good : Bool) (r : UnitRow) :
    (r.judged confirmed good).faultsHeld.contains .levelUnconfirmed = !confirmed := by
  cases confirmed with
  | true => exact removeKind_unheld _ _
  | false => exact insertKind_held _ _

/-- R170: the fault of a verdict. -/
def judgeLevels (a : Nat) (confirmed : Bool) (s : State) : State :=
  if confirmed then clearUnitFault a .levelUnconfirmed s else raiseUnitFault a .levelUnconfirmed s

theorem takeVerdict_eq (a : Nat) (confirmed : Bool) (s : State) :
    takeVerdict a confirmed s = completeSet a (onField (Field.verdict a confirmed) (judgeLevels a confirmed s)) := rfl

theorem judgeLevels_work (a : Nat) (confirmed : Bool) (s : State) : TableWork s (judgeLevels a confirmed s) := by
  unfold judgeLevels; split
  · exact .clearUnitFault ..
  · exact .raiseUnitFault ..

/-- What a verdict makes of the row and of the retry mark, and what it leaves. -/
structure TakesVerdict (a : Nat) (confirmed good : Bool) (r : UnitRow) (s t : State) : Prop where
  perf : t.perf = s.perf
  settings : t.settings = s.settings
  row : t.loop.row a = some (r.judged confirmed good)
  retry : t.field.retry a = (s.field.retry a).map fun _ => !confirmed

theorem endRead_takesVerdict {sent ls : List Nat} (good : Bool) (h : s.loop.row a = some r) :
    TakesVerdict a (good && ls == sent) good r s (endRead a sent (.valid (.levels ls) good) s) := by
  show TakesVerdict a _ good r s (takeVerdict a (good && ls == sent) (heard a good (endTransaction s)))
  generalize (good && ls == sent) = confirmed
  have hh := TableWork.heard a good (endTransaction s)
  have hj := hh.trans (judgeLevels_work a confirmed _)
  have hrow : (judgeLevels a confirmed (heard a good (endTransaction s))).loop.row a = some (r.judged confirmed good) := by
    have h1 := heard_row (s := endTransaction s) good h
    cases confirmed with
    | true => exact clearUnitFault_row .levelUnconfirmed h1
    | false => exact raiseUnitFault_row .levelUnconfirmed h1
  have hfield := onField_field (s := judgeLevels a confirmed (heard a good (endTransaction s))) (verdict_core a confirmed _).1
  rw [takeVerdict_eq]
  refine ⟨hj.perf, hj.settings, ?_, ?_⟩
  · rw [completeSet_row]
    exact (row_of_core (verdict_core a confirmed _).2 a).trans hrow
  · rw [completeSet_retry, hfield, verdict_retry]
    unfold Field.retry State.field
    rw [hj.light]; rfl

theorem endRead_calm {sent ls : List Nat} {good : Bool} (hc : s.calm) : (endRead a sent (.valid (.levels ls) good) s).calm :=
  ((TableWork.heard a good (endTransaction s)).trans (judgeLevels_work a (good && ls == sent) _)).calm hc

/-! ## The misses -/

/-- R167: a SET that draws no valid reply leaves its item in its lane. -/
theorem endSet_unheard {sent : List Nat} {held : Bool} {o : LoopOutcome} {c : Instr} (hd : DrawsNothing c o) (s : State) :
    endSet a sent held o s = unheard a o (endTransaction s) := by
  obtain ⟨-, rfl⟩ | ⟨f, -, -, rfl⟩ := hd <;> rfl

theorem endRead_unheard {sent : List Nat} {o : LoopOutcome} {c : Instr} (hd : DrawsNothing c o) (h : s.loop.row a = some r) (hp : r.present = true) :
    endRead a sent o s = if r.missed.present = true then
      mapLoop (Loop.begin (.read a sent) (unheard a o s).settings.loop.replyWindow (unheard a o s).clock.now) (unheard a o s)
    else endTransaction (unheard a o s) := by
  have hs := stillPresent_of_row (unheard_row o h hp)
  obtain ⟨-, rfl⟩ | ⟨f, -, -, rfl⟩ := hd <;> · unfold endRead; dsimp only; rw [hs]

/-- R167, R169: what an early miss of a SET leaves. -/
structure MissesSet (a : Nat) (r : UnitRow) (o : LoopOutcome) (s t : State) : Prop where
  row : t.loop.row a = some { r with misses := r.misses + 1, checkErrors := o.errors r.checkErrors }
  works : SameWorks s.loop t.loop
  perf : t.perf = s.perf
  settings : t.settings = s.settings

theorem missed_early (hm : r.misses + 1 < 3) : r.missed = { r with misses := r.misses + 1 } := by
  rw [UnitRow.missed, if_neg (by omega)]

theorem missed_third (hm : 3 ≤ r.misses + 1) : r.missed = r.absent.holdFault .unitAbsent := by rw [UnitRow.missed, if_pos hm]

theorem SameWorks.trans {u v w : Loop} (h : SameWorks u v) (k : SameWorks v w) : SameWorks u w :=
  ⟨k.urgent.trans h.urgent, k.ordinary.trans h.ordinary⟩

theorem endSet_missesSet {sent : List Nat} {held : Bool} {o : LoopOutcome} {c : Instr} {t : State} (hd : DrawsNothing c o)
    (ho : s.loop.roomOwed = false) (h : s.loop.row a = some r) (hp : r.present = true) (hm : r.misses + 1 < 3)
    (k : EndsOutcome (endSet a sent held o s) t) : MissesSet a r o s t := by
  have hw := unheard_early (s := endTransaction s) o h hp hm
  rw [endSet_unheard hd] at k
  have hworks : SameWorks s.loop (unheard a o (endTransaction s)).loop :=
    ⟨hw.works.urgent.trans (SameWorks.unsend s.loop).urgent, hw.works.ordinary.trans (SameWorks.unsend s.loop).ordinary⟩
  refine ⟨?_, hworks.trans (k.works (hw.roomOwed.trans ho)), k.perf.trans hw.perf, k.settings.trans hw.settings⟩
  rw [k.rows, unheard_row (s := endTransaction s) o h hp, missed_early hm]

/-- R170: an early miss of a READ sends it again. -/
structure MissesRead (a : Nat) (sent : List Nat) (r : UnitRow) (o : LoopOutcome) (s t : State) : Prop where
  transaction : t.loop.transaction = some (.read a sent)
  row : t.loop.row a = some { r with misses := r.misses + 1, checkErrors := o.errors r.checkErrors }
  urgent : t.loop.urgent = s.loop.urgent
  ordinary : t.loop.ordinary = s.loop.ordinary
  light : t.light = s.light
  perf : t.perf = s.perf

theorem endRead_missesRead {sent : List Nat} {o : LoopOutcome} {c : Instr} {t : State} (hd : DrawsNothing c o)
    (ho : s.loop.roomOwed = false) (h : s.loop.row a = some r) (hp : r.present = true) (hm : r.misses + 1 < 3)
    (k : EndsOutcome (endRead a sent o s) t) : MissesRead a sent r o s t := by
  have hw := unheard_early o h hp hm
  have hrow := unheard_row o h hp
  rw [endRead_unheard hd h hp, if_pos (by rw [missed_early hm]; exact hp)] at k
  obtain ⟨hlight, hloop⟩ := k.busy nofun (hw.roomOwed.trans ho)
  rw [missed_early hm] at hrow
  refine ⟨?_, (k.rows a).trans hrow, ?_, ?_, hlight.trans hw.light, k.perf.trans hw.perf⟩
  · rw [hloop]; rfl
  · rw [hloop]; exact hw.urgent
  · rw [hloop]; exact hw.ordinary

/-- R169: a lamp unit that has become ABSENT by its third miss, with no transaction on the loop. -/
structure LosesUnit (a : Nat) (r : UnitRow) (o : LoopOutcome) (s y : State) : Prop where
  settings : y.settings = s.settings
  transaction : y.loop.transaction = none
  row : y.loop.row a = some { r.absent.holdFault .unitAbsent with checkErrors := o.errors r.checkErrors }
  dark : y.field.Dark a
  unit : y.light.unit a = (s.light.unit a).map LightUnit.lost

theorem takeOutcome_losesUnit {sent : List Nat} {t : Transaction} {o : LoopOutcome} {c : Instr} (hd : DrawsNothing c o)
    (ht : t = .read a sent ∨ ∃ held, t = .set a sent held) (h : s.loop.row a = some r) (hp : r.present = true)
    (hm : 3 ≤ r.misses + 1) (he : (s.settings.loopRow a).expected = .lamp) : LosesUnit a r o s (takeOutcome t o s) := by
  obtain rfl | ⟨held, rfl⟩ := ht
  · obtain ⟨hdark, hunit⟩ := unheard_lost o h hp hm he
    have hrow := unheard_row o h hp
    rw [missed_third hm] at hrow
    rw [takeOutcome_read o h hp, endRead_unheard hd h hp, if_neg (by rw [missed_third hm]; nofun)]
    exact ⟨(KeepsCourse.unheard a o s).settings, rfl, hrow, ⟨((SameWorks.unsend _).holdsSet a).trans hdark.unset, hdark.waiting, hdark.lamps⟩, hunit⟩
  · obtain ⟨hdark, hunit⟩ := unheard_lost (s := endTransaction s) o h hp hm he
    have hrow := unheard_row (s := endTransaction s) o h hp
    have hk := KeepsCourse.unheard a o (endTransaction s)
    rw [missed_third hm] at hrow
    rw [takeOutcome_set o h hp, endSet_unheard hd]
    exact ⟨hk.settings, hk.transaction, hrow, hdark, hunit⟩

/-- The end of the event leaves the lost unit dark, with its record. -/
theorem LosesUnit.ended {o : LoopOutcome} {y t : State} (h : LosesUnit a r o s y) (k : EndsOutcome y t) :
    t.loop.row a = some { r.absent.holdFault .unitAbsent with checkErrors := o.errors r.checkErrors } ∧ t.field.Dark a ∧
      (∀ u, s.light.unit a = some u → t.light.unit a = some u.lost) :=
  ⟨(k.rows a).trans h.row, k.dark a h.dark, fun u hu =>
    (k.keeps (keptAtEnd_lost _ a (x := u.lost) rfl) ⟨h.dark, h.unit.trans (by rw [hu]; rfl)⟩).2⟩

/-! ## Settled -/

theorem drawsNothing_of {c : Instr} {errors n : Nat} (h : (c = .replyWindowExpiry ∧ errors = n) ∨
    (∃ f : LoopFrame, c = .loopReply f ∧ f.checkGood = false ∧ errors = min 255 (n + 1))) : ∃ o : LoopOutcome, DrawsNothing c o ∧ errors = o.errors n := by
  obtain ⟨rfl, rfl⟩ | ⟨f, rfl, hf, rfl⟩ := h
  · exact ⟨.noReply, .inl ⟨rfl, rfl⟩, rfl⟩
  · exact ⟨.garbled, .inr ⟨f, rfl, hf, rfl⟩, rfl⟩

end

/-- Settles O51: the answers by what each makes of the row, the lanes and the unit's record, the misses by their count. -/
theorem setAndReadAnswers : Obligations.SetAndReadAnswers := by
  unfold Obligations.SetAndReadAnswers
  refine ⟨fun s a sent r f ha hc h hp hfa hfr hfc hfg => ⟨fun held x ht hk hb => ?_, fun ht hk ls hb hlen hall => ?_⟩,
    fun s a errors sent r c ha h hp hd => ?_⟩
  · obtain ⟨t, he, k⟩ := execLoopReply_outcome f ha.1 ht
    rw [judgeFrame_valid rfl hfa hk hfr hfc hfg (by rw [hb]; rfl), hb, takeOutcome_set _ h hp] at k
    obtain ⟨hperf, hset, hrow⟩ := (endSet_takesAnswer x f.good h).ended k
    have ho := ((idle_iff s).1 ha.2).1
    refine ⟨t, he, hperf, hset, ?_, fun hx => ?_, fun hx => ⟨?_, fun hheld => ?_, fun hheld => ?_⟩⟩
    · rw [hrow]
      simp only [Option.map_some, UnitRow.answered, UnitRow.heard, hp]
      cases x <;> rfl
    · subst hx
      refine ⟨endSet_refused_holds ho k, fun hm => ?_⟩
      rw [hrow, Option.map_some]
      exact congrArg some (answered_promise .refused _ _ fun _ => decide_eq_true hm)
    · rw [hrow, Option.map_some]
      exact congrArg some ((answered_promise x _ _ fun h => absurd h hx).trans (decide_eq_false hx))
    · subst hheld
      exact endSet_held_reads ho hx k
    · subst hheld
      exact endSet_unheld_completes hc hx k
  · obtain ⟨t, he, k⟩ := execLoopReply_outcome f ha.1 ht
    rw [judgeFrame_valid rfl hfa hk hfr hfc hfg (by rw [hb]; simp [bodyFits, hlen, hall]), hb, takeOutcome_read _ h hp] at k
    obtain ⟨hperf, hset, hrow, hretry⟩ := endRead_takesVerdict (sent := sent) (ls := ls) f.good h
    have hend : t.field.retry a = _ := k.keeps_calm (endRead_calm hc) (keptAtEnd_retry a _) hretry
    refine ⟨t, he, k.perf.trans hperf, k.settings.trans hset, ?_, hend.trans ?_⟩
    · rw [k.rows, hrow, Option.map_some, judged_levelUnconfirmed, show (r.judged _ _).present = true from hp]; rfl
    · exact Option.map_map ..
  · obtain ⟨o, hdraws, rfl⟩ := drawsNothing_of hd
    have ho := ((idle_iff s).1 ha.2).1
    refine ⟨fun held ht hm => ?_, fun ht hm => ?_, fun ht hm hl => ?_⟩
    · obtain ⟨clock, t, he, k⟩ := exec_drawsNothing hdraws ha.1 ht nofun
      rw [takeOutcome_set (s := { s with clock := clock }) o h hp] at k
      obtain ⟨hrow, hworks, hperf, hset⟩ := endSet_missesSet (s := { s with clock := clock }) hdraws ho h hp hm k
      exact ⟨t, he, by rw [hrow, ← hp]; rfl, hworks.urgent, hworks.ordinary, hperf, hset⟩
    · obtain ⟨clock, t, he, k⟩ := exec_drawsNothing hdraws ha.1 ht nofun
      rw [takeOutcome_read (s := { s with clock := clock }) o h hp] at k
      obtain ⟨htrans, hrow, hurgent, hordinary, hlight, hperf⟩ := endRead_missesRead (s := { s with clock := clock }) hdraws ho h hp hm k
      exact ⟨t, he, htrans, by rw [hrow, ← hp]; rfl, hurgent, hordinary, hlight, hperf⟩
    · obtain ⟨x, htx, hx⟩ : ∃ x, s.loop.transaction = some x ∧ (x = .read a sent ∨ ∃ held, x = .set a sent held) := by
        obtain ht | ⟨held, ht⟩ := ht
        · exact ⟨_, ht, .inl rfl⟩
        · exact ⟨_, ht, .inr ⟨held, rfl⟩⟩
      obtain ⟨clock, t, he, k⟩ := exec_drawsNothing hdraws ha.1 htx (by obtain rfl | ⟨held, rfl⟩ := hx <;> nofun)
      have hlost := takeOutcome_losesUnit (s := { s with clock := clock }) hdraws hx h hp hm hl
      obtain ⟨hrow, hdark, hunit⟩ := hlost.ended k
      have hset : t.settings = s.settings := k.settings.trans hlost.settings
      refine ⟨t, he, by rw [hrow]; rfl, ?_, ?_, hdark.unset, k.unread hlost.transaction a sent, hunit, hset ▸ hdark.lamps⟩
      · rw [hrow, Option.map_some]
        exact congrArg some (insertKind_held _ _)
      · rw [hrow, Option.map_some]
        exact congrArg some (contains_insertKind ..)

end Sys2Proof.Machine

/-! The findings of a probe (R118, R119, R123, R158, R169, R171, R175): the row, the lamps and the reachable table after each. -/

namespace Sys2Proof.Machine

/-! ## A presence report -/

theorem present_core (a outputs : Nat) (f : Field) : (f.present a outputs).settings = f.settings ∧ (f.present a outputs).loop.core = f.loop.core := by
  unfold Field.present; dsimp only; split
  · exact ⟨rfl, rfl⟩
  · exact ⟨(Refreshes.markUnit a _ _).settings, (Refreshes.markUnit a _ _).core⟩

/-- R118: the record of a lamp unit reported present. -/
theorem present_unit (a outputs : Nat) (f : Field) : ((f.present a outputs).light.unit a).map LightUnit.place = some (a, true, outputs) := by
  have hunits : ∀ lamps : List Lamp, ((Light.changeUnit { f.light with
      units := if f.light.units.any (·.address == a) then f.light.units else f.light.units ++ [⟨a, true, outputs, .clean, false⟩], lamps := lamps }
      a (fun x => { x with present := true, outputs := outputs })).unit a).map LightUnit.place = some (a, true, outputs) := by
    intro lamps
    rw [unit_changeUnit (f := fun x => { x with present := true, outputs := outputs }) fun _ => rfl]
    have hfind : ∃ x, (if f.light.units.any (·.address == a) then f.light.units else f.light.units ++ [⟨a, true, outputs, .clean, false⟩]).find?
        (·.address == a) = some x := by
      rw [← Option.isSome_iff_exists, List.find?_isSome]
      split
      · rename_i h; simpa using h
      · exact ⟨_, List.mem_append_right _ List.mem_cons_self, beq_self_eq_true a⟩
    obtain ⟨x, hx⟩ := hfind
    have ha : x.address = a := by simpa using List.find?_some hx
    show (Option.map _ (List.find? _ _)).map _ = _
    rw [hx]
    simp [LightUnit.place, ha]
  unfold Field.present; dsimp only; split
  · exact hunits _
  · exact (markUnit_view LightUnit.place (fun _ _ => rfl) a a _ _).trans (hunits _)

/-- R118: the channels of a lamp unit reported present are placed as its outputs have it. -/
theorem present_placedTo (a outputs : Nat) (f : Field) : (f.present a outputs).PlacedTo a outputs := by
  have hlamps : (f.present a outputs).light.lamps = f.light.lamps.map fun l => if (f.settings.lamp l.num).unit == a then
      { l with placed := decide ((f.settings.lamp l.num).output ≤ outputs), sent := none } else l := by
    unfold Field.present; dsimp only; split
    · rfl
    · exact markUnit_lamps a _ _
  intro l hl hu
  rw [(present_core a outputs f).1] at hu ⊢
  rw [hlamps] at hl
  obtain ⟨x, hx, rfl⟩ := List.mem_map.1 hl
  split at hu
  · rename_i e; rw [if_pos e]
  · rename_i e; exact absurd (beq_iff_eq.2 hu) e

theorem mem_insertRow (r : ReachableRow) (l : List ReachableRow) : r ∈ insertRow r l := by
  induction l with
  | nil => exact List.mem_cons_self
  | cons x l ih =>
    unfold insertRow; split
    · exact List.mem_cons_self
    split
    · exact List.mem_cons_self
    · exact List.mem_cons_of_mem _ ih

section
variable {s : State} {a : Nat} {r : UnitRow}

theorem reportPresence_core (a : Nat) (outputs : Option Nat) (s : State) :
    (reportPresence a outputs s).settings = s.settings ∧ (reportPresence a outputs s).loop.core = s.loop.core := by
  unfold reportPresence; split
  · exact ⟨rfl, (present_core a _ s.field).2⟩
  · unfold callUnitPresent; split <;> exact ⟨rfl, rfl⟩
  · exact ⟨rfl, rfl⟩

/-- R171: a presence report with its notice. -/
def announcePresence (a : Nat) (outputs area : Option Nat) (s : State) : State := presenceNotice a outputs area (reportPresence a outputs s)

theorem KeepsCourse.announcePresence (a : Nat) (outputs area : Option Nat) (s : State) : KeepsCourse s (Machine.announcePresence a outputs area s) :=
  (KeepsCourse.of_core (reportPresence_core a outputs s).1 (reportPresence_core a outputs s).2).trans (.notify _ _ _)

theorem announcePresence_row (a b : Nat) (outputs area : Option Nat) (s : State) :
    (announcePresence a outputs area s).loop.row b = s.loop.row b :=
  (notify_row ..).trans (row_of_core (reportPresence_core a outputs s).2 b)

/-- R118, R119: a lamp unit announced carries its outputs, and its channels within them are placed. -/
theorem announcePresence_lamp (outputs : Nat) (area : Option Nat) (he : (s.settings.loopRow a).expected = .lamp) :
    ((announcePresence a (some outputs) area s).light.unit a).map LightUnit.place = some (a, true, outputs) ∧
      (announcePresence a (some outputs) area s).field.PlacedTo a outputs := by
  have hreport : (reportPresence a (some outputs) s).field = s.field.present a outputs := by
    rw [reportPresence, he]
    exact onField_field (f := Field.present a outputs) (present_core a outputs _).1
  have hfield : (announcePresence a (some outputs) area s).field = s.field.present a outputs := (notify_field ..).trans hreport
  refine ⟨?_, hfield ▸ present_placedTo a outputs _⟩
  have hlight : (announcePresence a (some outputs) area s).light = (s.field.present a outputs).light := congrArg Field.light hfield
  rw [hlight]; exact present_unit a outputs _

/-- R123: a call unit announced joins the reachable table with its area and acceptance. -/
theorem announcePresence_call {c : CallUnitSettings} (outputs area : Option Nat) (he : (s.settings.loopRow a).expected = .call)
    (hc : s.settings.callUnit a = some c) : ⟨a, c.area, c.acceptsAll⟩ ∈ (announcePresence a outputs area s).calls.reachable := by
  have hreport : (reportPresence a outputs s).calls.reachable = insertRow ⟨a, c.area, c.acceptsAll⟩ s.calls.reachable := by
    rw [reportPresence, he]; dsimp only
    rw [callUnitPresent, hc]; rfl
  have hcalls : (announcePresence a outputs area s).calls = (reportPresence a outputs s).calls := (TableWork.notify _ _ _).calls
  rw [hcalls, hreport]
  exact mem_insertRow _ _

theorem unlessStarting_running (f : State → State) (h : s.loop.state = .running) : unlessStarting f s = f s := by
  rw [unlessStarting, h]; rfl

/-! ## A unit of the expected kind -/

/-- R171: the row of a unit that has become PRESENT. -/
def UnitRow.entered (kind : UnitKind) (outputs area now : Nat) (r : UnitRow) : UnitRow :=
  { r.identified kind outputs area with
    present := true, room := .room, nextPoll := some now, faultsHeld := removeKind .unitKindMismatch (removeKind .unitAbsent r.faultsHeld) }

/-- R171: the table's part of a unit that becomes PRESENT. -/
def enterRow (a : Nat) (kind : UnitKind) (outputs area : Nat) (s : State) : State :=
  clearUnitFault a .unitKindMismatch (clearUnitFault a .unitAbsent
    (mapRow a (fun r => { r.identified kind outputs area with present := true, room := .room, nextPoll := some s.clock.now }) s))

theorem enterRow_work (a : Nat) (kind : UnitKind) (outputs area : Nat) (s : State) : TableWork s (enterRow a kind outputs area s) :=
  ((TableWork.mapRow a _ s).trans (.clearUnitFault _ _ _)).trans (.clearUnitFault _ _ _)

theorem enterRow_row (kind : UnitKind) (outputs area : Nat) (h : s.loop.row a = some r) :
    (enterRow a kind outputs area s).loop.row a = some (r.entered kind outputs area s.clock.now) :=
  clearUnitFault_row _ (clearUnitFault_row _ (mapRow_row
    (f := fun r => { r.identified kind outputs area with present := true, room := .room, nextPoll := some s.clock.now }) (fun _ => rfl) h))

theorem becomePresent_eq (kind : UnitKind) (outputs area : Nat) (hr : s.loop.state = .running) : becomePresent a kind outputs area s =
    announcePresence a (outputsOf kind outputs) (areaFound kind area) (enterRow a kind outputs area s) :=
  unlessStarting_running (fun s => announcePresence a (outputsOf kind outputs) (areaFound kind area) s)
    ((enterRow_work a kind outputs area s).state.trans hr)

theorem identify_work (a : Nat) (kind : UnitKind) (outputs area : Nat) (s : State) :
    TableWork s (mapRow a (fun r => r.identified kind outputs area) s) := .mapRow ..

theorem foundAgain_changed {outputs : Nat} (area : Nat) (hr : s.loop.state = .running) (ho : r.outputs ≠ some outputs) :
    foundAgain a .lamp outputs area r s = announcePresence a (some outputs) none (mapRow a (fun r => r.identified .lamp outputs area) s) := by
  unfold foundAgain; dsimp only
  rw [if_pos ⟨rfl, ho⟩]
  exact unlessStarting_running _ hr

theorem foundAgain_same {kind : UnitKind} {outputs : Nat} (area : Nat) (ho : kind = .lamp → r.outputs = some outputs) :
    foundAgain a kind outputs area r s = mapRow a (fun r => r.identified kind outputs area) s := by
  unfold foundAgain; dsimp only
  rw [if_neg fun h => h.2 (ho h.1)]

theorem foundAgain_row (kind : UnitKind) (outputs area : Nat) (x : UnitRow) (hr : s.loop.state = .running) (h : s.loop.row a = some r) :
    KeepsCourse s (foundAgain a kind outputs area x s) ∧
      (foundAgain a kind outputs area x s).loop.row a = some (r.identified kind outputs area) := by
  have hw := (identify_work a kind outputs area s).course
  have hrow : (mapRow a (fun r => r.identified kind outputs area) s).loop.row a = some (r.identified kind outputs area) :=
    mapRow_row (f := fun r => r.identified kind outputs area) (fun _ => rfl) h
  by_cases hc : kind = .lamp ∧ x.outputs ≠ some outputs
  · obtain ⟨rfl, hx⟩ := hc
    rw [foundAgain_changed area hr hx]
    exact ⟨hw.trans (.announcePresence ..), (announcePresence_row ..).trans hrow⟩
  · rw [foundAgain_same area fun hk => by_contra fun hx => hc ⟨hk, hx⟩]
    exact ⟨hw, hrow⟩

/-! ## A unit of another kind, and one where none is expected -/

theorem recordKind_row (kind : UnitKind) (h : s.loop.row a = some r) : (recordKind a kind s).loop.row a = some { r with found := kind } :=
  mapRow_row (f := fun r => { r with found := kind }) (fun _ => rfl) h

theorem recordKind_work (a : Nat) (kind : UnitKind) (s : State) : TableWork s (recordKind a kind s) := .mapRow ..

theorem TableWork.unlessStarting_notice (n : Notice) (s : State) : TableWork s (unlessStarting (Machine.loopNotice n) s) := by
  unfold unlessStarting; split
  · exact .refl s
  · exact .notify _ _ s

theorem unlessStarting_notice_row (n : Notice) (s : State) (b : Nat) : (unlessStarting (loopNotice n) s).loop.row b = s.loop.row b := by
  unfold unlessStarting; split
  · rfl
  · exact notify_row ..

theorem holdsUnitFault_of_row (k : FaultKind) (h : s.loop.row a = some r) : holdsUnitFault a k s = r.faultsHeld.contains k := by
  rw [holdsUnitFault, h]; rfl

theorem holdFault_of_held {k : FaultKind} (h : r.faultsHeld.contains k = true) : r.holdFault k = r := by
  rw [UnitRow.holdFault, insertKind, if_pos h]

theorem foundUnexpected_row (h : s.loop.row a = some r) : TableWork s (foundUnexpected a s) ∧
    (foundUnexpected a s).loop.row a = some (r.holdFault .unexpectedUnit) := by
  unfold foundUnexpected
  rw [holdsUnitFault_of_row _ h]
  split
  · rename_i hh
    rw [holdFault_of_held hh]; exact ⟨.refl s, h⟩
  · exact ⟨(TableWork.raiseUnitFault a _ s).trans (.unlessStarting_notice _ _), (unlessStarting_notice_row ..).trans (raiseUnitFault_row _ h)⟩

/-- R171: the faults of an ABSENT row where a unit of another kind answers. -/
def UnitRow.mismatched (r : UnitRow) : UnitRow :=
  if r.faultsHeld.contains .unitKindMismatch then r else (r.holdFault .unitKindMismatch).dropFault .unitAbsent

theorem foundMismatch_absent {x : UnitRow} (hx : x.present = false) (h : s.loop.row a = some r) : TableWork s (foundMismatch a x s) ∧
    (foundMismatch a x s).loop.row a = some r.mismatched := by
  unfold foundMismatch UnitRow.mismatched
  rw [holdsUnitFault_of_row _ h]
  simp only [hx, Bool.false_eq_true, if_false]
  split
  · exact ⟨.refl s, h⟩
  · exact ⟨((TableWork.raiseUnitFault a _ s).trans (.clearUnitFault _ _ _)).trans (.unlessStarting_notice _ _),
      (unlessStarting_notice_row ..).trans (clearUnitFault_row _ (raiseUnitFault_row _ h))⟩

theorem foundMismatch_present {x : UnitRow} (hx : x.present = true) (s : State) : foundMismatch a x s =
    goAbsent a (s.settings.loopRow a).expected (some .unitKindMismatch) (.kindMismatch a (s.settings.loopRow a).expected s.uptime) s := by
  unfold foundMismatch; simp only [hx, if_true]

/-! ## An identity -/

theorem takeIdentity_unexpected (kind : UnitKind) (outputs area : Nat) (h : s.loop.row a = some r) (he : (s.settings.loopRow a).expected = .none) :
    takeIdentity a kind outputs area s = foundUnexpected a (recordKind a kind s) := by
  rw [takeIdentity, h]; simp only [he, if_true]

theorem expected_of_matches {v : Settings} {kind : UnitKind} {area : Nat} (hm : matchesExpected v a kind area = true) :
    (v.loopRow a).expected = kind := by
  have := (Bool.and_eq_true_iff.1 hm).1
  exact beq_iff_eq.1 this

theorem takeIdentity_matches {kind : UnitKind} {outputs area : Nat} (h : s.loop.row a = some r) (hk : kind ≠ .none)
    (hm : matchesExpected s.settings a kind area = true) :
    takeIdentity a kind outputs area s = if r.present then foundAgain a kind outputs area r s else becomePresent a kind outputs area s := by
  rw [takeIdentity, h]
  simp only [expected_of_matches hm, hk, if_false, hm, if_true]

theorem takeIdentity_mismatch {kind : UnitKind} {outputs area : Nat} (h : s.loop.row a = some r) (he : (s.settings.loopRow a).expected ≠ .none)
    (hm : matchesExpected s.settings a kind area = false) : takeIdentity a kind outputs area s = foundMismatch a r (recordKind a kind s) := by
  rw [takeIdentity, h]
  simp only [he, if_false, hm, Bool.false_eq_true]

/-! ## No valid reply -/

/-- R171: an ABSENT row where a probe has found nothing. -/
theorem takeNothing_absent (o : LoopOutcome) (h : s.loop.row a = some r) (hp : r.present = false) : TableWork s (takeNothing a o s) ∧
    ∃ l, (takeNothing a o s).loop.row a = some { r with found := .none, faultsHeld := l } ∧
      ((s.settings.loopRow a).expected = .none → l.contains .unexpectedUnit = false) := by
  have hw := recordKind_work a .none s
  have hrow := recordKind_row .none h
  rw [takeNothing, h]; dsimp only
  rw [if_neg (by rw [hp]; nofun)]
  split
  · exact ⟨hw.trans (.clearUnitFault _ _ _), _, clearUnitFault_row _ hrow, fun _ => removeKind_unheld _ _⟩
  rename_i he
  split
  · exact ⟨(hw.trans (.clearUnitFault _ _ _)).trans (.raiseUnitFault _ _ _), _, raiseUnitFault_row _ (clearUnitFault_row _ hrow), fun h => absurd h he⟩
  · exact ⟨hw, _, hrow, fun h => absurd h he⟩

/-- R171: a row with its found kind, which only a probe that draws no reply at all changes. -/
def UnitRow.vacated (o : LoopOutcome) (r : UnitRow) : UnitRow := { r with found := if o = .noReply then .none else r.found }

/-- R169, R171: a PRESENT row where a probe has drawn no valid reply. -/
def UnitRow.unfound (o : LoopOutcome) (r : UnitRow) : UnitRow := (r.vacated o).missed

theorem takeNothing_present (o : LoopOutcome) (h : s.loop.row a = some r) (hp : r.present = true) : KeepsCourse s (takeNothing a o s) ∧
    (takeNothing a o s).loop.row a = some (r.unfound o) := by
  rw [takeNothing, h]
  simp only [hp, if_true]
  unfold UnitRow.unfound UnitRow.vacated
  split
  · exact ⟨(recordKind_work a .none s).course.trans (.miss ..), miss_row (recordKind_row .none h) hp⟩
  · exact ⟨.miss .., miss_row h hp⟩

theorem takeFinding_drawsNothing {c : Instr} {o : LoopOutcome} (hd : DrawsNothing c o) (s : State) :
    TableWork (takeNothing a o s) (takeFinding a o s) ∧ ∀ x, (takeNothing a o s).loop.row a = some x →
      (takeFinding a o s).loop.row a = some { x with checkErrors := o.errors x.checkErrors } := by
  obtain ⟨-, rfl⟩ | ⟨f, -, -, rfl⟩ := hd
  · exact ⟨.refl _, fun x hx => hx⟩
  · exact ⟨.countGarbled a _, fun x hx => countGarbled_row hx⟩

end

end Sys2Proof.Machine

/-! The end of a probe in RUNNING (R118, R119, R123, R158, R169, R171, R175). -/

namespace Sys2Proof.Machine

/-! ## The survey carried on -/

/-- What the survey and the end of its event leave of the finding `y` of a probe. -/
structure EndsFinding (y t : State) : Prop where
  settings : t.settings = y.settings
  rows : ∀ a, t.loop.row a = y.loop.row a
  reachable : t.calls.reachable = y.calls.reachable
  places : ∀ a, (t.light.unit a).map LightUnit.place = (y.light.unit a).map LightUnit.place
  placed : ∀ a outputs, y.field.PlacedTo a outputs → t.field.PlacedTo a outputs
  dark : ∀ a, y.field.Dark a → t.field.Dark a

/-- R174: a full survey carried on, or ended, changes itself and the Port Units alone. -/
theorem advanceSurvey_eq (answered : Bool) {s : State} (h : ∀ v, s.loop.survey = some v → v.cause = .retrain) :
    ∃ x q, advanceSurvey answered s = { s with loop := { s.loop with survey := x }, ports := q } := by
  unfold advanceSurvey; split
  · exact ⟨s.loop.survey, s.ports, rfl⟩
  rename_i v hv
  dsimp only; split
  · rw [h v hv]; dsimp only
    obtain ⟨q, e⟩ := notify_eq (mapLoop (fun u => { u with survey := none }) s) .loop
      (.surveyDone .retrain v.retrains (surveyLists s.settings { s.loop with survey := none }))
    exact ⟨none, q, e⟩
  · exact ⟨_, s.ports, rfl⟩

section
variable {s t : State} {a : Nat} {r : UnitRow}

theorem endProbe_endsFinding {p : ProbeKind} {o : LoopOutcome} (hp : p = .survey → ∀ v, s.loop.survey = some v → v.cause = .retrain)
    (hc : KeepsCourse (endTransaction s) (takeFinding a o (endTransaction s))) (k : EndsOutcome (endProbe a p o s) t) :
    EndsFinding (takeFinding a o (endTransaction s)) t := by
  have heq : ∃ x q, endProbe a p o s = { takeFinding a o (endTransaction s) with
      loop := { (takeFinding a o (endTransaction s)).loop with survey := x }, ports := q } := by
    cases p with
    | sweep | reprobe => exact ⟨_, _, rfl⟩
    | survey => exact advanceSurvey_eq o.isValid fun v hv => hp rfl v (hc.survey.symm.trans hv)
  obtain ⟨x, q, e⟩ := heq
  rw [e] at k
  exact ⟨k.settings, k.rows, k.reachable, k.places, fun b n h => k.keeps (keptAtEnd_placed _ b n) h,
    fun b d => k.dark b ⟨d.unset, d.waiting, d.lamps⟩⟩

theorem endProbe_drawsNothing {p : ProbeKind} {o : LoopOutcome} {c : Instr} (hd : DrawsNothing c o)
    (hp : p = .survey → ∀ v, s.loop.survey = some v → v.cause = .retrain)
    (hc : KeepsCourse (endTransaction s) (takeNothing a o (endTransaction s))) (k : EndsOutcome (endProbe a p o s) t) {x : UnitRow}
    (hx : (takeNothing a o (endTransaction s)).loop.row a = some x) :
    t.settings = s.settings ∧ t.loop.row a = some { x with checkErrors := o.errors x.checkErrors } := by
  obtain ⟨hw, hrow⟩ := takeFinding_drawsNothing (a := a) hd (endTransaction s)
  have hk := hc.trans hw.course
  have he := endProbe_endsFinding hp hk k
  exact ⟨he.settings.trans hk.settings, (he.rows a).trans (hrow x hx)⟩

/-! ## An identity taken -/

/-- R168: the state in which the identity of a probe's valid reply is taken. -/
def probeHeard (a : Nat) (good : Bool) (s : State) : State := heard a good (endTransaction s)

theorem probeHeard_work (a : Nat) (good : Bool) (s : State) : TableWork (endTransaction s) (probeHeard a good s) := .heard ..

theorem probeHeard_row (good : Bool) (h : s.loop.row a = some r) : (probeHeard a good s).loop.row a = some (r.heard good) :=
  heard_row (s := endTransaction s) good h

theorem heard_badData (good : Bool) (r : UnitRow) : (r.heard good).faultsHeld.contains .unitBadData = !good := by
  cases good with
  | true => exact removeKind_unheld _ _
  | false => exact insertKind_held _ _

theorem heard_holds {k : FaultKind} (hk : k ≠ .unitBadData) (good : Bool) (r : UnitRow) :
    (r.heard good).faultsHeld.contains k = r.faultsHeld.contains k := by
  cases good with
  | true => exact (contains_removeKind ..).trans (by simp [hk])
  | false => exact (contains_insertKind ..).trans (by simp [hk])

/-- R168, R171: whatever an identity finds, the row has its kind, and holds "unit bad data" as before. -/
theorem takeIdentity_found {kind : UnitKind} (outputs area : Nat) (h : s.loop.row a = some r) (hr : s.loop.state = .running) (hk : kind ≠ .none) :
    KeepsCourse s (takeIdentity a kind outputs area s) ∧ ∃ x, (takeIdentity a kind outputs area s).loop.row a = some x ∧ x.found = kind ∧
      x.faultsHeld.contains .unitBadData = r.faultsHeld.contains .unitBadData := by
  have hrec := recordKind_row kind h
  have hw := recordKind_work a kind s
  by_cases he : (s.settings.loopRow a).expected = .none
  · rw [takeIdentity_unexpected kind outputs area h he]
    obtain ⟨hf, hrow⟩ := foundUnexpected_row hrec
    exact ⟨(hw.trans hf).course, _, hrow, rfl, contains_insertKind ..⟩
  cases hm : matchesExpected s.settings a kind area with
  | true =>
    rw [takeIdentity_matches h hk hm]
    split
    · obtain ⟨hc, hrow⟩ := foundAgain_row kind outputs area r hr h
      exact ⟨hc, _, hrow, rfl, rfl⟩
    · rw [becomePresent_eq kind outputs area hr]
      refine ⟨(enterRow_work ..).course.trans (.announcePresence ..), _, (announcePresence_row ..).trans (enterRow_row kind outputs area h), rfl, ?_⟩
      exact (contains_removeKind ..).trans (contains_removeKind ..)
  | false =>
    rw [takeIdentity_mismatch h he hm]
    cases hp : r.present with
    | true =>
      rw [foundMismatch_present hp]
      exact ⟨hw.course.trans (.goAbsent ..), _, goAbsent_fault_row _ _ _ hrec, rfl, contains_insertKind ..⟩
    | false =>
      obtain ⟨hf, hrow⟩ := foundMismatch_absent hp hrec
      refine ⟨(hw.trans hf).course, _, hrow, ?_⟩
      unfold UnitRow.mismatched; split
      · exact ⟨rfl, rfl⟩
      · exact ⟨rfl, (contains_removeKind ..).trans (contains_insertKind ..)⟩

/-- R171: a unit that becomes PRESENT is neither absent nor mismatched. -/
theorem entered_faults (kind : UnitKind) (outputs area now : Nat) (r : UnitRow) :
    ((r.entered kind outputs area now).faultsHeld.contains .unitAbsent ||
      (r.entered kind outputs area now).faultsHeld.contains .unitKindMismatch) = false := by
  have habsent : (r.entered kind outputs area now).faultsHeld.contains .unitAbsent = false :=
    (contains_removeKind ..).trans (by rw [removeKind_unheld]; rfl)
  rw [habsent]
  exact removeKind_unheld ..

theorem lamp_of_place {u : Light} {outputs : Nat} (h : (u.unit a).map LightUnit.place = some (a, true, outputs)) :
    (u.unit a).map (fun x => (x.present, x.outputs)) = some (true, outputs) := by
  simpa [Function.comp_def, LightUnit.place] using congrArg (Option.map Prod.snd) h

/-- R118, R119, R123, R171: what a unit of the expected kind makes of an ABSENT address. -/
structure Enters (a : Nat) (kind : UnitKind) (outputs area now : Nat) (r : UnitRow) (s y : State) : Prop where
  row : y.loop.row a = some (r.entered kind outputs area now)
  lamp : kind = .lamp → (y.light.unit a).map LightUnit.place = some (a, true, outputs) ∧ y.field.PlacedTo a outputs
  call : kind = .call → ∀ c, s.settings.callUnit a = some c → ⟨a, c.area, c.acceptsAll⟩ ∈ y.calls.reachable

theorem takeIdentity_enters {kind : UnitKind} {outputs area : Nat} (h : s.loop.row a = some r) (hp : r.present = false)
    (hr : s.loop.state = .running) (hk : kind ≠ .none) (hm : matchesExpected s.settings a kind area = true) :
    Enters a kind outputs area s.clock.now r s (takeIdentity a kind outputs area s) := by
  have hw := enterRow_work a kind outputs area s
  have he : ((enterRow a kind outputs area s).settings.loopRow a).expected = kind := by rw [hw.settings]; exact expected_of_matches hm
  rw [takeIdentity_matches h hk hm, hp]
  simp only [Bool.false_eq_true, if_false]
  rw [becomePresent_eq kind outputs area hr]
  refine ⟨(announcePresence_row ..).trans (enterRow_row kind outputs area h), fun hl => ?_, fun hl c hc => ?_⟩
  · subst hl; exact announcePresence_lamp outputs _ he
  · exact announcePresence_call _ _ (he.trans hl) (hw.settings.symm ▸ hc)

/-- R171: what a unit of the expected kind makes of a PRESENT address. -/
structure FoundAgain (a : Nat) (kind : UnitKind) (outputs area : Nat) (r : UnitRow) (s y : State) : Prop where
  row : y.loop.row a = some (r.identified kind outputs area)
  changed : kind = .lamp → r.outputs ≠ some outputs → (y.light.unit a).map LightUnit.place = some (a, true, outputs) ∧ y.field.PlacedTo a outputs
  same : kind = .lamp → r.outputs = some outputs → y.light = s.light

theorem takeIdentity_foundAgain {kind : UnitKind} {outputs area : Nat} (h : s.loop.row a = some r) (hp : r.present = true)
    (hr : s.loop.state = .running) (hk : kind ≠ .none) (hm : matchesExpected s.settings a kind area = true) :
    FoundAgain a kind outputs area r s (takeIdentity a kind outputs area s) := by
  have hw := identify_work a kind outputs area s
  rw [takeIdentity_matches h hk hm, hp]
  simp only [if_true]
  refine ⟨(foundAgain_row kind outputs area r hr h).2, fun hl ho => ?_, fun hl ho => ?_⟩
  · subst hl
    rw [foundAgain_changed area hr ho]
    exact announcePresence_lamp outputs _ (by rw [hw.settings]; exact expected_of_matches hm)
  · rw [foundAgain_same area fun _ => ho]
    exact hw.light

/-- R171: what a unit of another kind or area makes of a PRESENT address. -/
structure Loses (a : Nat) (kind : UnitKind) (r : UnitRow) (s y : State) : Prop where
  row : y.loop.row a = some (UnitRow.holdFault .unitKindMismatch (UnitRow.absent { r with found := kind }))
  lamp : (s.settings.loopRow a).expected = .lamp → y.field.Dark a
  call : (s.settings.loopRow a).expected = .call → ∀ x ∈ y.calls.reachable, x.address ≠ a

theorem takeIdentity_loses {kind : UnitKind} {outputs area : Nat} (h : s.loop.row a = some r) (hp : r.present = true)
    (he : (s.settings.loopRow a).expected ≠ .none) (hm : matchesExpected s.settings a kind area = false) :
    Loses a kind r s (takeIdentity a kind outputs area s) := by
  have hs := (recordKind_work a kind s).settings
  rw [takeIdentity_mismatch h he hm, foundMismatch_present hp, hs]
  refine ⟨goAbsent_fault_row _ _ _ (recordKind_row kind h), fun hl => ?_, fun hl => ?_⟩
  · rw [hl]; exact goAbsent_fault_dark ..
  · rw [hl]; exact goAbsent_fault_unreachable a _ _ _

/-! ## The reply of a probe -/

/-- R159: an identity that fits the reply to a probe. -/
def IdentityFits (kind : UnitKind) (outputs area : Nat) : Prop :=
  (kind = .lamp ∧ 1 ≤ outputs ∧ outputs ≤ 8 ∧ area = 0) ∨ (kind = .call ∧ outputs = 0 ∧ area ≤ 15)

theorem IdentityFits.ne_none {kind : UnitKind} {outputs area : Nat} (h : IdentityFits kind outputs area) : kind ≠ .none := by
  obtain ⟨rfl, -⟩ | ⟨rfl, -⟩ := h <;> nofun

theorem IdentityFits.outputs_area {kind : UnitKind} {outputs area : Nat} (h : IdentityFits kind outputs area) :
    (outputsOf kind outputs, areaFound kind area) = if kind = .lamp then (some outputs, none) else (none, some area) := by
  obtain ⟨rfl, -⟩ | ⟨rfl, -⟩ := h <;> rfl

theorem IdentityFits.bodyFits {kind : UnitKind} {outputs area : Nat} (h : IdentityFits kind outputs area) (p : ProbeKind) :
    bodyFits (.probe a p) (.identity kind outputs area) = true := by
  obtain ⟨rfl, h1, h8, rfl⟩ | ⟨rfl, rfl, h15⟩ := h
  · simp [Machine.bodyFits, h1, h8]
  · simp [Machine.bodyFits, h15]

/-- A whole identity drawn by the probe of an address. -/
structure Identifies (f : LoopFrame) (a : Nat) (kind : UnitKind) (outputs area : Nat) : Prop where
  address : f.address = a
  survey : f.kind = .survey
  reply : f.reply = true
  complete : f.complete = true
  check : f.checkGood = true
  body : f.body = .identity kind outputs area
  fits : IdentityFits kind outputs area

/-- A probe in RUNNING on the loop, with no start-up survey under way. -/
structure Probes (s : State) (a : Nat) (p : ProbeKind) : Prop where
  held : s.resetHeld = false
  running : s.loop.state = .running
  transaction : s.loop.transaction = some (.probe a p)
  survey : p = .survey → ∀ v, s.loop.survey = some v → v.cause = .retrain

theorem execLoopReply_identity {p : ProbeKind} {f : LoopFrame} {kind : UnitKind} {outputs area : Nat} (hs : Probes s a p)
    (h : s.loop.row a = some r) (hf : Identifies f a kind outputs area) :
    ∃ t, exec (.loopReply f) s = .next t ∧ EndsFinding (takeIdentity a kind outputs area (probeHeard a f.good s)) t ∧ t.settings = s.settings ∧
      ∃ x, t.loop.row a = some x ∧ x.found = kind ∧ x.faultsHeld.contains .unitBadData = !f.good := by
  obtain ⟨t, he, k⟩ := execLoopReply_outcome f hs.held hs.transaction
  have hw := probeHeard_work a f.good s
  obtain ⟨hc, x, hx, hfound, hbad⟩ := takeIdentity_found outputs area (probeHeard_row f.good h) (hw.state.trans hs.running) hf.fits.ne_none
  rw [judgeFrame_valid rfl hf.address hf.survey hf.reply hf.complete hf.check (by rw [hf.body]; exact hf.fits.bodyFits p), hf.body] at k
  have k := endProbe_endsFinding (o := .valid (.identity kind outputs area) f.good) hs.survey (hw.course.trans hc) k
  exact ⟨t, he, k, k.settings.trans (hw.course.trans hc).settings, x, (k.rows a).trans hx, hfound, hbad.trans (heard_badData f.good r)⟩

/-- A probe that draws no valid reply: what it makes of the row, and the check error of a GARBLED one. -/
theorem exec_probe_drawsNothing {p : ProbeKind} {c : Instr} {o : LoopOutcome} {q : UnitRow → Prop} (hd : DrawsNothing c o) (hs : Probes s a p)
    (hn : ∀ u : State, u.loop.row a = s.loop.row a → u.settings = s.settings →
      KeepsCourse u (takeNothing a o u) ∧ ∃ x, (takeNothing a o u).loop.row a = some x ∧ q x) :
    ∃ t, exec c s = .next t ∧ t.settings = s.settings ∧ ∃ x, q x ∧ t.loop.row a = some { x with checkErrors := o.errors x.checkErrors } := by
  obtain ⟨clock, t, he, k⟩ := exec_drawsNothing hd hs.held hs.transaction nofun
  obtain ⟨hc, x, hx, hq⟩ := hn (endTransaction { s with clock := clock }) rfl rfl
  obtain ⟨hset, hrow⟩ := endProbe_drawsNothing (s := { s with clock := clock }) hd hs.survey hc k hx
  exact ⟨t, he, hset, x, hq, hrow⟩

/-- R171: an ABSENT address where a probe draws no valid reply has nothing found. -/
theorem exec_probe_absent {p : ProbeKind} {c : Instr} {o : LoopOutcome} (hd : DrawsNothing c o) (hs : Probes s a p) (h : s.loop.row a = some r)
    (hp : r.present = false) : ∃ t, exec c s = .next t ∧ t.settings = s.settings ∧
      ∃ l, t.loop.row a = some { r with found := .none, faultsHeld := l, checkErrors := o.errors r.checkErrors } ∧
        ((s.settings.loopRow a).expected = .none → l.contains .unexpectedUnit = false) := by
  obtain ⟨t, he, hset, x, ⟨l, rfl, hl⟩, hrow⟩ := exec_probe_drawsNothing (q := fun x => ∃ l, x = { r with found := .none, faultsHeld := l } ∧
    ((s.settings.loopRow a).expected = .none → l.contains .unexpectedUnit = false)) hd hs fun u hu hset => by
      obtain ⟨hw, l, hrow, hl⟩ := takeNothing_absent o (hu.trans h) hp
      exact ⟨hw.course, _, hrow, l, rfl, hset ▸ hl⟩
  exact ⟨t, he, hset, l, hrow, hl⟩

/-- R169, R171: at a PRESENT address it is a miss. -/
theorem exec_probe_present {p : ProbeKind} {c : Instr} {o : LoopOutcome} (hd : DrawsNothing c o) (hs : Probes s a p) (h : s.loop.row a = some r)
    (hp : r.present = true) : ∃ t, exec c s = .next t ∧ t.settings = s.settings ∧
      t.loop.row a = some { r.unfound o with checkErrors := o.errors r.checkErrors } := by
  obtain ⟨t, he, hset, x, rfl, hrow⟩ := exec_probe_drawsNothing (q := fun x => x = r.unfound o) hd hs fun u hu _ => by
    obtain ⟨hc, hrow⟩ := takeNothing_present o (hu.trans h) hp
    exact ⟨hc, _, hrow, rfl⟩
  exact ⟨t, he, hset, hrow.trans (by rw [show (r.unfound o).checkErrors = r.checkErrors from missed_checkErrors _])⟩

/-- The row of a PRESENT unit that a probe has not found. -/
theorem unfound_fields (o : LoopOutcome) (hp : r.present = true) : (r.unfound o).found = (if o = .noReply then .none else r.found) ∧
    ((r.unfound o).present, (r.unfound o).misses) = (if r.misses + 1 < 3 then (true, r.misses + 1) else (false, 0)) ∧
    (3 ≤ r.misses + 1 → ((r.unfound o).room, (r.unfound o).nextPoll) = (.room, none) ∧ (r.unfound o).faultsHeld.contains .unitAbsent = true) := by
  by_cases hm : r.misses + 1 < 3
  · rw [UnitRow.unfound, missed_early (r := r.vacated o) hm, if_pos hm, ← hp]
    exact ⟨rfl, rfl, fun h => absurd hm (by omega)⟩
  · rw [UnitRow.unfound, missed_third (r := r.vacated o) (Nat.le_of_not_lt hm), if_neg hm]
    exact ⟨rfl, rfl, fun _ => ⟨rfl, insertKind_held _ _⟩⟩

theorem mismatched_fields {x : UnitRow} (h : x.faultsHeld.contains .unitKindMismatch = false) :
    (x.mismatched.present, x.mismatched.faultsHeld.contains .unitKindMismatch, x.mismatched.faultsHeld.contains .unitAbsent) =
      (x.present, true, false) := by
  have hmismatch : (removeKind .unitAbsent (insertKind .unitKindMismatch x.faultsHeld)).contains .unitKindMismatch = true :=
    (contains_removeKind ..).trans (insertKind_held _ _)
  rw [UnitRow.mismatched, h]
  exact Prod.ext rfl (Prod.ext hmismatch (removeKind_unheld _ _))

end

/-! ## Settled -/

/-- Settles O52: each identity by what stands at its address, and the probes that find nothing by the row. -/
theorem probeFindsUnit : Obligations.ProbeFindsUnit := by
  unfold Obligations.ProbeFindsUnit
  refine ⟨fun s a p r hh hr ht hv h hp => ⟨?_, ?_, ?_⟩, fun s a p r hh hr ht hv h hp => ⟨?_, ?_⟩⟩
  · intro f kind outputs area h1 h2 h3 h4 h5 h6 h7
    obtain ⟨t, he, k, hset, x, hx, hfound, -⟩ := execLoopReply_identity ⟨hh, hr, ht, hv⟩ h ⟨h1, h2, h3, h4, h5, h6, h7⟩
    have hw := probeHeard_work a f.good s
    have hrow := probeHeard_row f.good h
    have hs : (probeHeard a f.good s).settings = s.settings := hw.settings
    refine ⟨t, he, hset, by rw [hx, Option.map_some, hfound], fun hm => ?_, fun hne hm hno => ?_, fun hnone => ?_⟩
    · obtain ⟨henter, hlamp, hcall⟩ := takeIdentity_enters hrow hp (hw.state.trans hr) (IdentityFits.ne_none h7) (hs.symm ▸ hm)
      rw [k.rows, henter, hs.symm, k.reachable]
      refine ⟨by rw [hw.clock]; rfl, congrArg some (IdentityFits.outputs_area h7), congrArg some (entered_faults ..), fun hl => ?_, hcall⟩
      obtain ⟨hplace, hplaced⟩ := hlamp hl
      have hto := k.placed a outputs hplaced
      exact ⟨lamp_of_place ((k.places a).trans hplace), (hset.trans hs.symm) ▸ hto⟩
    · have hrec := recordKind_row kind hrow
      have hheld := (heard_holds (k := .unitKindMismatch) (by decide) f.good r).trans hno
      obtain ⟨-, hmis⟩ := foundMismatch_absent (x := r.heard f.good) hp hrec
      rw [k.rows, takeIdentity_mismatch hrow (hs.symm ▸ hne) (hs.symm ▸ hm), hmis]
      exact congrArg some ((mismatched_fields (x := { r.heard f.good with found := kind }) hheld).trans (congrArg (fun b => (b, true, false)) hp))
    · obtain ⟨-, hun⟩ := foundUnexpected_row (recordKind_row kind hrow)
      rw [k.rows, takeIdentity_unexpected kind outputs area hrow (hs.symm ▸ hnone), hun, Option.map_some, ← hp]
      exact congrArg (fun b => some (r.present, b)) (insertKind_held _ _)
  · obtain ⟨t, he, hset, l, hrow, hl⟩ := exec_probe_absent (.inl ⟨rfl, rfl⟩) ⟨hh, hr, ht, hv⟩ h hp
    refine ⟨t, he, hset, by rw [hrow, ← hp]; rfl, fun hnone => ?_⟩
    rw [hrow, Option.map_some, hl hnone]
  · intro f hf
    obtain ⟨t, he, -, l, hrow, -⟩ := exec_probe_absent (.inr ⟨f, rfl, hf, rfl⟩) ⟨hh, hr, ht, hv⟩ h hp
    exact ⟨t, he, by rw [hrow, ← hp]; rfl⟩
  · intro f kind outputs area h1 h2 h3 h4 h5 h6 h7
    obtain ⟨t, he, k, hset, x, hx, hfound, hbad⟩ := execLoopReply_identity ⟨hh, hr, ht, hv⟩ h ⟨h1, h2, h3, h4, h5, h6, h7⟩
    have hw := probeHeard_work a f.good s
    have hrow := probeHeard_row f.good h
    have hs : (probeHeard a f.good s).settings = s.settings := hw.settings
    refine ⟨t, he, hset, by rw [hx, Option.map_some, hfound], by rw [hx, Option.map_some, hbad], fun hm => ?_, fun hne hm => ?_⟩
    · obtain ⟨hagain, hchanged, hsame⟩ := takeIdentity_foundAgain hrow hp (hw.state.trans hr) (IdentityFits.ne_none h7) (hs.symm ▸ hm)
      rw [k.rows, hagain]
      refine ⟨congrArg (fun b => some (b, _)) hp, congrArg some (IdentityFits.outputs_area h7), fun hl ho => ?_, fun hl ho => ?_⟩
      · obtain ⟨hplace, hplaced⟩ := hchanged hl ho
        have hto := k.placed a outputs hplaced
        exact ⟨lamp_of_place ((k.places a).trans hplace), hset ▸ hto⟩
      · have hplace := k.places a
        rw [hsame hl ho, hw.light] at hplace
        simpa [Function.comp_def, LightUnit.place, endTransaction] using congrArg (Option.map fun x => x.2.2) hplace
    · obtain ⟨hlost, hlamp, hcall⟩ := takeIdentity_loses (kind := kind) (outputs := outputs) (area := area) hrow hp (hs.symm ▸ hne) (hs.symm ▸ hm)
      rw [k.rows, hlost]
      refine ⟨rfl, ?_, fun hl => ?_, fun hl => ?_⟩
      · have habsent : (insertKind .unitKindMismatch (r.heard f.good).faultsHeld).contains .unitAbsent = r.faultsHeld.contains .unitAbsent :=
          (contains_insertKind ..).trans (heard_holds (by decide) f.good r)
        exact congrArg some (Prod.ext (insertKind_held _ _) habsent)
      · have hdark := k.dark a (hlamp (hs.symm ▸ hl))
        exact ⟨hdark.unset, hset ▸ hdark.lamps⟩
      · rw [k.reachable]; exact hcall (hs.symm ▸ hl)
  · intro c found errors hd
    obtain ⟨o, hdraws, rfl, rfl⟩ : ∃ o : LoopOutcome, DrawsNothing c o ∧ found = (if o = .noReply then .none else r.found) ∧
        errors = o.errors r.checkErrors := by
      obtain ⟨rfl, rfl, rfl⟩ | ⟨f, rfl, hf, rfl, rfl⟩ := hd
      · exact ⟨.noReply, .inl ⟨rfl, rfl⟩, rfl, rfl⟩
      · exact ⟨.garbled, .inr ⟨f, rfl, hf, rfl⟩, rfl, rfl⟩
    obtain ⟨t, he, hset, hrow⟩ := exec_probe_present hdraws ⟨hh, hr, ht, hv⟩ h hp
    obtain ⟨hfound, hmissed, hlost⟩ := unfound_fields o hp
    refine ⟨t, he, hset, ?_⟩
    rw [hrow]
    exact ⟨congrArg some (Prod.ext hfound rfl), congrArg some hmissed, fun hm => ⟨congrArg some (hlost hm).1, congrArg some (hlost hm).2⟩⟩

end Sys2Proof.Machine

/-! The orders of the ports (R126, R128, R136): the reply to PLACE CALL ahead of what its order does, and what a withdrawal leaves in the queue. -/

namespace Sys2Proof.Machine

/-! ## Changes of one order -/

theorem change_ids (id : Nat) (f : Order → Order) (u : Calls) (hf : ∀ x, x.id = id → (f x).id = x.id) :
    (u.change id f).queue.map Order.id = u.queue.map Order.id := by
  rw [Calls.change, List.map_map]
  refine List.map_congr_left fun x _ => ?_
  simp only [Function.comp]; split
  · rename_i h; exact hf x (beq_iff_eq.1 h)
  · rfl

theorem endOrder_ids (out : CallOutcome) (o : Order) {s : State} (h : (s.calls.queue.map Order.id).Nodup) :
    ((endOrder out o s).calls.queue.map Order.id).Nodup := by
  rw [endOrder_queue]
  exact h.sublist (List.filter_sublist.map _)

theorem calls_order_some {u : Calls} {id : Nat} {o : Order} (h : u.order id = some o) : o ∈ u.queue ∧ o.id = id :=
  ⟨List.mem_of_find?_eq_some h, by simpa using List.find?_some h⟩

theorem calls_order_none {u : Calls} {id : Nat} {x : Order} (h : u.order id = none) (hx : x ∈ u.queue) : x.id ≠ id := by
  simpa using List.find?_eq_none.1 h x hx

/-! ## Placing -/

/-- R181: a reply that is owed joins the tail of the queue, ahead of the Port Unit's own answers that waited for it. -/
theorem placeReply_append {tag : Tag} {u : PortUnit} (o : ReplyOutcome) (h : u.owes tag = true) :
    ∃ l, (u.placeReply tag o).queue = u.queue ++ .reply tag o :: l := by
  unfold PortUnit.placeReply
  rw [if_pos h]
  exact ⟨_, List.append_assoc ..⟩

/-- R181: the reply of a request that is with its owner stands ahead of all that the rest of the event sends. -/
theorem reply_ahead {p : Port} {tag : Tag} {k : RequestKind} {s b t : State} (o : ReplyOutcome) (ho : s.owns p tag k = true)
    (hb : b.ports = s.ports) (h : Spares (reply p tag o b) t) : ∃ l, (t.port p).queue = (s.port p).queue ++ .reply tag o :: l := by
  have hport : b.port p = s.port p := by cases p <;> simp only [State.port, hb]
  obtain ⟨own, hown⟩ := placeReply_append o (owes_of_owns ho)
  obtain ⟨l, hl⟩ := h.queues p
  refine ⟨own ++ l, ?_⟩
  rw [← hl, reply, mapPort_port_self, hport, hown, List.append_assoc]
  rfl

theorem gatePlaceCall_class {cls : CallClass} {kind : CallKind} {target : Target} {reps : Repeats} {anchor : Anchor} {off : Option Nat}
    {s : State} (h : gatePlaceCall cls kind target reps anchor off s = none) : cls ≠ .lifeSafety := by
  rintro rfl
  rw [gatePlaceCall, if_pos (.inl rfl)] at h
  cases h

/-- R128: an order that joins stands in the queue, WAITING or DUE. -/
theorem joinQueue_mem (o : Order) (s : State) : ∃ st, { o with state := st } ∈ (joinQueue o s).calls.queue := by
  have hjoin : ∀ u : Calls, o ∈ u.queue → ∃ st, { o with state := st } ∈ (makeDue s.uptime u).queue := fun u hu => by
    by_cases h : (o.isWaiting && o.dueAt u) = true
    · exact ⟨.due s.uptime, List.mem_map.2 ⟨o, hu, if_pos h⟩⟩
    · exact ⟨o.state, List.mem_map.2 ⟨o, hu, if_neg h⟩⟩
  exact hjoin _ (List.mem_append_right _ (List.mem_singleton.2 rfl))

theorem joinQueue_length (o : Order) (s : State) : (joinQueue o s).calls.queue.length = s.calls.queue.length + 1 := by
  simp [joinQueue, mapCalls, makeDue]

/-- R131, R138: on an idle controller an accepted order that finds the line held joins the queue, and there is only its reply to send. -/
theorem settle_placed {s : State} (p : Port) (tag : Tag) {o : Order} (h : s.idle) (hl : s.lineHeld) (ho : o.cls ≠ .lifeSafety) :
    settle (contend (done p tag (joinQueue o s))) = transmit (done p tag (joinQueue o s)) := by
  have hjoined : contend (done p tag (joinQueue o s)) = done p tag (joinQueue o s) := contend_joinQueue (s := done p tag s) hl ho
  rw [hjoined]
  exact settle_frames s _ h rfl rfl rfl rfl rfl

/-! ## Withdrawing -/

/-- Every order of the queue after stood in it before with its id, its origin and its tag, and was SOUNDING if its id is one of the
list. -/
def LeavesSounding (ids : List Nat) (s t : State) : Prop :=
  ∀ y ∈ t.calls.queue, ∃ x ∈ s.calls.queue, x.id = y.id ∧ x.origin = y.origin ∧ x.tag = y.tag ∧ x.isSounding = y.isSounding ∧
    (y.id ∈ ids → x.isSounding = true)

theorem LeavesSounding.refl (s : State) : LeavesSounding [] s s := fun y hy => ⟨y, hy, rfl, rfl, rfl, rfl, nofun⟩

theorem LeavesSounding.trans {a b c : State} {l m : List Nat} (h : LeavesSounding l a b) (k : LeavesSounding m b c) :
    LeavesSounding (l ++ m) a c := by
  intro y hy
  obtain ⟨x, hx, hid, horigin, htag, hsound, hm⟩ := k y hy
  obtain ⟨w, hw, hid', horigin', htag', hsound', hl⟩ := h x hx
  refine ⟨w, hw, hid'.trans hid, horigin'.trans horigin, htag'.trans htag, hsound'.trans hsound, fun hmem => ?_⟩
  obtain hmem | hmem := List.mem_append.1 hmem
  · exact hl (hid ▸ hmem)
  · exact hsound'.trans (hm hmem)

/-- R136: the withdrawal of one order leaves no order of its id but one that sounds. -/
theorem withdrawOrder_leavesSounding {s : State} {o : Order} (hn : (s.calls.queue.map Order.id).Nodup) (ho : o ∈ s.calls.queue) :
    LeavesSounding [o.id] s (withdrawOrder o s) ∧ ((withdrawOrder o s).calls.queue.map Order.id).Nodup := by
  unfold withdrawOrder
  split
  · rename_i hsound
    refine ⟨fun y hy => ?_, (change_ids o.id (fun x => { x with withdrawn := true }) s.calls fun _ _ => rfl).symm ▸ hn⟩
    obtain ⟨x, hx, rfl⟩ := List.mem_map.1 hy
    have hsole : x.id = o.id → x.isSounding = true := fun e => by rwa [List.inj_on_of_nodup_map hn hx ho e]
    refine ⟨x, hx, ?_⟩
    split <;> exact ⟨rfl, rfl, rfl, rfl, fun h => hsole (List.mem_singleton.1 h)⟩
  · refine ⟨fun y hy => ?_, endOrder_ids _ _ hn⟩
    rw [endOrder_queue] at hy
    obtain ⟨hy, hne⟩ := List.mem_filter.1 hy
    exact ⟨y, hy, rfl, rfl, rfl, rfl, fun h => absurd (List.mem_singleton.1 h) (by simpa using hne)⟩

/-- R136: one turn of a withdrawal: the order of an id withdrawn, if one stands in the queue. -/
def withdrawId (s : State) (id : Nat) : State :=
  match s.calls.order id with
  | some o => withdrawOrder o s
  | none => s

theorem withdrawIds_eq (ids : List Nat) (s : State) :
    withdrawIds ids s = if (ids.foldl withdrawId s).calls.queue.length < s.calls.queue.length then arbitrate (ids.foldl withdrawId s)
      else ids.foldl withdrawId s := rfl

theorem withdrawId_leavesSounding {s : State} (id : Nat) (hn : (s.calls.queue.map Order.id).Nodup) :
    LeavesSounding [id] s (withdrawId s id) ∧ ((withdrawId s id).calls.queue.map Order.id).Nodup := by
  unfold withdrawId
  cases h : s.calls.order id with
  | some o =>
    obtain ⟨ho, rfl⟩ := calls_order_some h
    exact withdrawOrder_leavesSounding hn ho
  | none => exact ⟨fun y hy => ⟨y, hy, rfl, rfl, rfl, rfl, fun e => absurd (List.mem_singleton.1 e) (calls_order_none h hy)⟩, hn⟩

theorem withdrawFold_leavesSounding (ids : List Nat) : ∀ {s : State}, (s.calls.queue.map Order.id).Nodup →
    LeavesSounding ids s (ids.foldl withdrawId s) := by
  induction ids with
  | nil => exact fun _ => .refl _
  | cons a l ih =>
    intro s hn
    obtain ⟨hstep, hn'⟩ := withdrawId_leavesSounding a hn
    exact hstep.trans (ih hn')

/-- R136: when a withdrawal of the orders of some ids has run to its end, none of them is left but one that sounded. -/
theorem withdrawIds_left {ids : List Nat} {s t : State} (hn : (s.calls.queue.map Order.id).Nodup) (h : OrdersFrom (withdrawIds ids s) t) :
    ∀ o ∈ t.calls.queue, ∃ x ∈ s.calls.queue, x.id = o.id ∧ x.origin = o.origin ∧ x.tag = o.tag ∧ (x.id ∈ ids → x.isSounding = true) := by
  intro o ho
  have hend : OrdersFrom (ids.foldl withdrawId s) t := by
    refine OrdersFrom.trans ?_ h
    rw [withdrawIds_eq]; split
    · exact arbitrate_from _
    · exact .refl _
  obtain ⟨y, hy, hid, horigin, htag⟩ := hend o ho
  obtain ⟨x, hx, hid', horigin', htag', -, hsound⟩ := withdrawFold_leavesSounding ids hn y hy
  exact ⟨x, hx, hid'.trans hid, horigin'.trans horigin, htag'.trans htag, fun h => hsound (hid' ▸ h)⟩

theorem mem_portOrders {p : Port} {named : Nat} {u : Calls} {x : Order} (hx : x ∈ u.queue) (ho : x.origin = originOf p) (ht : x.tag = named) :
    x.id ∈ portOrders p named u :=
  List.mem_map.2 ⟨x, List.mem_filter.2 ⟨hx, by simp [ho, ht]⟩, rfl⟩

theorem originOf_eq (p : Port) : (match p with | .stage => .stage | .front => .front) = originOf p := by cases p <;> rfl

/-! ## Settled -/

/-- R126: PLACE CALL accepted. -/
theorem execPlaceCall_accepted {s : State} {p : Port} {tag : Tag} {cls : CallClass} {kind : CallKind} {target : Target} {reps : Repeats}
    {anchor : Anchor} {off : Option Nat} (hh : s.resetHeld = false) (ho : s.owns p tag .placeCall = true)
    (hg : gatePlaceCall cls kind target reps anchor off s = none) :
    exec (.placeCall p tag cls kind target reps anchor off) s = .next (settle (contend (done p tag
      (joinQueue ⟨s.calls.nextId, tag.toNat, originOf p, cls, kind, target, reps, anchor, off, .waiting, 0, false, []⟩ s)))) := by
  show execPlaceCall p tag cls kind target reps anchor off s = _
  rw [execPlaceCall, request_owned _ hh ho, hg]

/-- R136: WITHDRAW CALL that reaches an order. -/
theorem execWithdrawCall_reaching {s : State} {p : Port} {tag : Tag} {named : Nat} (hh : s.resetHeld = false)
    (ho : s.owns p tag .withdrawCall = true) (hne : portOrders p named s.calls ≠ []) :
    exec (.withdrawCall p tag named) s = .next (settle (reply p tag (.done (.withdrawn (portOrders p named s.calls).length))
      (withdrawIds (portOrders p named s.calls) s))) := by
  show execWithdrawCall p tag named s = _
  rw [execWithdrawCall, request_owned _ hh ho]
  dsimp only
  rw [if_neg hne]

/-- Settles O46: the reply to PLACE CALL stands ahead of the arbitration's frames; what a withdrawal leaves is followed through the fold over
the orders that it reaches. -/
theorem placeAndWithdrawCall : Obligations.PlaceAndWithdrawCall := by
  refine ⟨fun s p tag cls kind target reps anchor off hh ho hg => ⟨_, execPlaceCall_accepted hh ho hg, ?_, fun hidle hline => ?_⟩,
    fun s p tag named h ho => ⟨fun hnone => ?_, fun hne hn => ⟨_, execWithdrawCall_reaching h.1 ho hne, ?_, fun o hmem horigin htag => ?_, ?_⟩⟩⟩
  · exact reply_ahead (b := joinQueue _ s) _ ho rfl (Spares.refl _).contend.settle
  · rw [settle_placed p tag hidle hline (gatePlaceCall_class hg)]
    obtain ⟨st, hst⟩ := joinQueue_mem ⟨s.calls.nextId, tag.toNat, originOf p, cls, kind, target, reps, anchor, off, .waiting, 0, false, []⟩ s
    exact ⟨⟨_, hst, rfl, (originOf_eq p).symm, rfl, rfl, rfl, rfl, rfl, rfl, rfl⟩, joinQueue_length _ s, rfl, rfl, rfl, rfl⟩
  · show execWithdrawCall p tag named s = _
    rw [execWithdrawCall, request_replied h ho]
    exact if_pos hnone
  · exact settle_answered ho (((Leaves.refl s).withdrawIds _).intakes p)
  · obtain ⟨x, hx, hid, horigin', htag', hsound⟩ := withdrawIds_left hn (settle_from (reply p tag _ (withdrawIds _ s))) o hmem
    exact ⟨x, hx, hid, hsound (mem_portOrders hx (horigin'.trans (horigin.trans (originOf_eq p))) (htag'.trans htag))⟩
  · have hl := (Leaves.refl s).withdrawIds (portOrders p named s.calls)
    exact ⟨(Leaves.refl (reply p tag _ _)).settle.perf.trans hl.perf, (Leaves.refl (reply p tag _ _)).settle.sup.trans hl.sup⟩

end Sys2Proof.Machine

/-! The order on the line (R131 to R134, R158, R162): its repetition at the time limit, the order that goes back to the line, and a sent broadcast. -/

namespace Sys2Proof.Machine

/-! ## Orders changed in the queue -/

theorem change_change {id : Nat} {f : Order → Order} (g : Order → Order) (u : Calls) (hf : ∀ x, (f x).id = x.id) :
    (u.change id f).change id g = u.change id (fun x => g (f x)) := by
  simp only [Calls.change, List.map_map]
  congr 1
  refine List.map_congr_left fun x _ => ?_
  simp only [Function.comp]
  by_cases h : (x.id == id) = true
  · simp only [h, hf, if_true]
  · simp [h]

theorem change_self (id : Nat) (u : Calls) : u.change id (fun x => x) = u := by
  simp [Calls.change]

theorem change_mem {u : Calls} {o : Order} (f : Order → Order) (h : o ∈ u.queue) : f o ∈ (u.change o.id f).queue :=
  List.mem_map.2 ⟨o, h, if_pos (beq_self_eq_true _)⟩

theorem sounding_mem {u : Calls} {o : Order} (h : u.sounding = some o) : o ∈ u.queue ∧ o.isSounding = true :=
  ⟨List.mem_of_find?_eq_some h, List.find?_some h⟩

theorem serial_of_sounding {o : Order} (h : o.isSounding = true) : ∃ n, o.serial = some n := by
  unfold Order.isSounding at h; unfold Order.serial
  split at h
  · exact ⟨_, rfl⟩
  · cases h

/-- An order on the line that changes in its place, and not in its state, is still on the line. -/
theorem sounding_change {u : Calls} {o : Order} {f : Order → Order} (h : u.sounding = some o) (hf : ∀ x, (f x).state = x.state) :
    (u.change o.id f).sounding = some (f o) := by
  have hsame : (Order.isSounding ∘ fun x => if x.id == o.id then f x else x) = Order.isSounding := by
    funext x
    simp only [Function.comp]; split
    · simp only [Order.isSounding, hf]
    · rfl
  have hfind : u.queue.find? Order.isSounding = some o := h
  rw [Calls.sounding, Calls.change, List.find?_map, hsame, hfind, Option.map_some, if_pos (beq_self_eq_true _)]

/-! ## The units missed -/

theorem mem_insertNum_iff {m n : Nat} {l : List Nat} : m ∈ insertNum n l ↔ m = n ∨ m ∈ l := by
  induction l with
  | nil => simp [insertNum]
  | cons k l ih =>
    unfold insertNum
    split_ifs with h1 h2
    · exact List.mem_cons
    · subst h2; simp
    · simp only [List.mem_cons, ih]; tauto

/-- R133: an order with areas added to its missing areas, one after another. -/
def Order.missesAreas (areas : List Nat) (o : Order) : Order := { o with missing := areas.foldl (fun l a => insertNum a l) o.missing }

theorem missesAreas_cons (a : Nat) (areas : List Nat) (o : Order) : o.missesAreas (a :: areas) = (o.addMissing a).missesAreas areas := rfl

theorem mem_missesAreas {m : Nat} {areas : List Nat} : ∀ {o : Order}, m ∈ (o.missesAreas areas).missing ↔ m ∈ o.missing ∨ m ∈ areas := by
  induction areas with
  | nil => simp [Order.missesAreas]
  | cons a areas ih =>
    intro o
    rw [missesAreas_cons, ih, Order.addMissing, mem_insertNum_iff, List.mem_cons]
    tauto

/-- R133, R141: the areas of the units still awaited, as they stood when the repetition was opened. -/
def Repetition.missedAreas (r : Repetition) : List Nat := r.awaited.map (areaOf r.expected)

theorem mem_missedAreas {m : Nat} {r : Repetition} : m ∈ r.missedAreas ↔ ∃ a ∈ r.awaited, m = areaOf r.expected a := by
  simp only [Repetition.missedAreas, List.mem_map, eq_comm]

/-- R142: an ACTIVE entry of a pair stands in the fault list. -/
def Supervision.holdsActive (u : Supervision) (src : FaultSource) (k : FaultKind) : Prop :=
  ∃ f ∈ u.entries, f.pair = (src, k) ∧ f.state = .active

/-- R144: a raise that finds room makes one ACTIVE entry, at the tail or in the place of the pair's own. -/
theorem raiseFault_entries (src : FaultSource) (k : FaultKind) {s : State} (h : s.sup.entries.length < 32) :
    ∃ e : FaultEntry, e.pair = (src, k) ∧ e.state = .active ∧ ((raiseFault src k s).sup.entries = s.sup.entries ++ [e] ∨
      (∃ x ∈ s.sup.entries, x.isOf src k = true) ∧ (raiseFault src k s).sup.entries = (s.sup.change src k fun _ => e).entries) := by
  unfold raiseFault
  cases hfind : s.sup.find src k with
  | none =>
    simp only [h, if_true]
    exact ⟨_, rfl, rfl, .inl (by simp only [newFault, faultNotice, notify_get_sup]; rfl)⟩
  | some e =>
    have hof : e.isOf src k = true := List.find?_some (p := fun x : FaultEntry => x.isOf src k) hfind
    have hpair : e.pair = (src, k) := by simpa [FaultEntry.isOf, FaultEntry.pair] using hof
    have hmem : ∃ x ∈ s.sup.entries, x.isOf src k = true := ⟨e, List.mem_of_find?_eq_some hfind, hof⟩
    cases hs : e.state with
    | cleared =>
      exact ⟨{ e with state := .active, acked := false, occurrences := satSucc 255 e.occurrences }, hpair, rfl,
        .inr ⟨hmem, by simp only [hs, faultNotice, notify_get_sup]; rfl⟩⟩
    | active =>
      exact ⟨{ e with occurrences := satSucc 255 e.occurrences }, hpair, hs,
        .inr ⟨hmem, by simp only [hs, faultNotice, notify_get_sup]; rfl⟩⟩

/-- R144: such a raise leaves its pair ACTIVE, and every pair that was; and it takes one place at most. -/
theorem raiseFault_holdsActive (src : FaultSource) (k : FaultKind) {s : State} (h : s.sup.entries.length < 32) :
    (raiseFault src k s).sup.holdsActive src k ∧ (raiseFault src k s).sup.entries.length ≤ s.sup.entries.length + 1 ∧
      ∀ src' k', s.sup.holdsActive src' k' → (raiseFault src k s).sup.holdsActive src' k' := by
  unfold Supervision.holdsActive
  obtain ⟨e, hpair, hactive, ht | ⟨⟨x, hx, hof⟩, ht⟩⟩ := raiseFault_entries src k h
  · rw [ht]
    exact ⟨⟨e, List.mem_append_right _ (List.mem_singleton.2 rfl), hpair, hactive⟩, by simp,
      fun _ _ ⟨f, hf, hp, ha⟩ => ⟨f, List.mem_append_left _ hf, hp, ha⟩⟩
  · rw [ht]
    refine ⟨⟨e, List.mem_map.2 ⟨x, hx, if_pos hof⟩, hpair, hactive⟩, by simp [Supervision.change], fun src' k' ⟨f, hf, hp, ha⟩ => ?_⟩
    by_cases hf' : f.isOf src k = true
    · have hsame : f.pair = (src, k) := by simpa [FaultEntry.isOf, FaultEntry.pair] using hf'
      exact ⟨e, List.mem_map.2 ⟨f, hf, if_pos hf'⟩, hpair.trans (hsame.symm.trans hp), hactive⟩
    · exact ⟨f, List.mem_map.2 ⟨f, hf, if_neg hf'⟩, hp, ha⟩

/-- R133: a state in which an order misses areas, with the fault list and the Port Units as the faults raised leave them. -/
def State.missing (o : Order) (areas : List Nat) (u : Supervision) (q : Ports) (s : State) : State :=
  { s with calls := s.calls.change o.id (Order.missesAreas areas), sup := u, ports := q }

/-- R133: a unit missed adds its area and raises its fault, and leaves the rest. -/
theorem missUnit_eq (o : Order) (r : Repetition) (a : Nat) (s : State) : ∃ u q, missUnit o r a s = s.missing o [areaOf r.expected a] u q :=
  raiseFault_eq ..

/-- R133, R144: where there is room, a unit missed has its fault ACTIVE, as has every pair that had; and it takes one place at most. -/
theorem missUnit_holdsActive (o : Order) (r : Repetition) (a : Nat) {s : State} (h : s.sup.entries.length < 32) :
    (missUnit o r a s).sup.holdsActive (.unit a) .callNotReported ∧ (missUnit o r a s).sup.entries.length ≤ s.sup.entries.length + 1 ∧
      ∀ src k, s.sup.holdsActive src k → (missUnit o r a s).sup.holdsActive src k :=
  raiseFault_holdsActive (.unit a) .callNotReported (s := mapCalls _ s) h

/-- R133: every unit missed adds its area, and while there is room its fault is ACTIVE. -/
theorem missUnits_eq (o : Order) (r : Repetition) (l : List Nat) : ∀ s : State, ∃ u q,
    l.foldl (fun s a => missUnit o r a s) s = s.missing o (l.map (areaOf r.expected)) u q ∧
    (s.sup.entries.length + l.length ≤ 32 → (∀ src k, s.sup.holdsActive src k → u.holdsActive src k) ∧
      ∀ a ∈ l, u.holdsActive (.unit a) .callNotReported) := by
  induction l with
  | nil =>
    intro s
    have hnone : s.calls.change o.id (Order.missesAreas []) = s.calls := change_self o.id s.calls
    exact ⟨s.sup, s.ports, by rw [List.map_nil, State.missing, hnone]; rfl, fun _ => ⟨fun _ _ => id, nofun⟩⟩
  | cons a l ih =>
    intro s
    obtain ⟨u1, q1, h1⟩ := missUnit_eq o r a s
    obtain ⟨u, q, h, hroom⟩ := ih (missUnit o r a s)
    refine ⟨u, q, ?_, fun hlen => ?_⟩
    · rw [List.foldl_cons, h, h1]
      unfold State.missing; dsimp only
      rw [change_change (f := Order.missesAreas [areaOf r.expected a]) _ _ fun _ => rfl]
      rfl
    · rw [List.length_cons] at hlen
      obtain ⟨hself, hgrow, hkeep⟩ := missUnit_holdsActive o r a (s := s) (by omega)
      obtain ⟨hkept, hall⟩ := hroom (by omega)
      refine ⟨fun src k hk => hkept _ _ (hkeep _ _ hk), fun b hb => ?_⟩
      obtain rfl | hb := List.mem_cons.1 hb
      · exact hkept _ _ hself
      · exact hall b hb

/-! ## The end of a repetition -/

/-- R134: an order whose repetition has ended: counted done, its serial removed, DUE since it first became due. -/
def Order.repeated (o : Order) : Order := { o with done := satSucc 255 o.done, state := .due o.since }

theorem repeated_done {o : Order} (h : o.done < 255) : o.repeated.done = o.done + 1 := if_pos h

/-- R134, R162: the repetition over, its CALL taken out of its lane if it is still unsent, before the order goes on or ends. -/
def State.repetitionOver (o : Order) (n : Nat) (s : State) : State :=
  mapCalls (fun u => { u.change o.id (fun _ => o.repeated) with repetition := none }) (mapLoop (Loop.removeCall n) s)

/-- R134: after its last repetition, or any when it has been withdrawn, an order ends. -/
theorem endRepetition_ends {o : Order} {n : Nat} (s : State) (hn : o.serial = some n)
    (h : o.repeats = .times o.repeated.done ∨ o.withdrawn = true) :
    ∃ out, endRepetition o s = arbitrate (endOrder out o.repeated (s.repetitionOver o n)) := by
  unfold endRepetition
  rw [hn]; dsimp only
  split
  · exact ⟨_, rfl⟩
  · rename_i hw
    exact ⟨.done, if_pos (h.resolve_right hw)⟩

/-- R134: after another it goes back to the line. -/
theorem endRepetition_returns {o : Order} {n : Nat} (s : State) (hn : o.serial = some n) (h : o.repeats ≠ .times o.repeated.done)
    (hw : o.withdrawn = false) : endRepetition o s = arbitrate (s.repetitionOver o n) := by
  unfold endRepetition
  rw [hn]; dsimp only
  rw [if_neg (by simp [hw])]
  exact if_neg h

/-! ## An order that waits for the line -/

theorem bestDue_mem {l : List Order} : ∀ {o : Order}, bestDue l = some o → o ∈ l := by
  induction l with
  | nil => nofun
  | cons x l ih =>
    intro o h
    unfold bestDue at h
    split at h
    · split at h
      · cases h; exact List.mem_cons_self
      · cases h
    · rename_i b hb
      split at h
      · cases h; exact List.mem_cons_self
      · cases h; exact List.mem_cons_of_mem _ (ih hb)

theorem LineWork.rowsNow {s t : State} (h : LineWork s t) : t.rowsNow = s.rowsNow := by
  unfold State.rowsNow
  rw [h.reachable, h.leaves.settings]

/-- R131: an order contends for the line: it stands in the queue under an id of its own, DUE since it became due or SOUNDING again, and
there are units that it addresses. -/
structure Contends (o : Order) (s : State) : Prop where
  own : (s.calls.queue.map Order.id).Nodup
  units : expectedUnits o s.rowsNow ≠ []
  stands : ∃ st, { o with state := st } ∈ s.calls.queue ∧ (st = .due o.since ∨ ∃ n, st = .sounding o.since n)

section
variable {o : Order} {s t : State}

theorem Contends.same (h : Contends o s) (hq : t.calls.queue = s.calls.queue) (hr : t.rowsNow = s.rowsNow) : Contends o t := by
  obtain ⟨hown, hunits, hstands⟩ := h
  exact ⟨hq ▸ hown, hr ▸ hunits, hq ▸ hstands⟩

/-- R132: an order that ends because it addresses no unit is another. -/
theorem Contends.endOrder (h : Contends o s) (out : CallOutcome) {x : Order} (hx : x ∈ s.calls.queue)
    (he : expectedUnits x s.rowsNow = []) : Contends o (Machine.endOrder out x s) := by
  obtain ⟨st, hst, hstate⟩ := h.stands
  refine ⟨endOrder_ids _ _ h.own, ((LineWork.refl s).endOrder out x).rowsNow.symm ▸ h.units, st, ?_, hstate⟩
  rw [endOrder_queue]
  refine List.mem_filter.2 ⟨hst, bne_iff_ne.2 fun hid => h.units ?_⟩
  have hsame : { o with state := st } = x := List.inj_on_of_nodup_map h.own hst hx hid
  rw [← he, ← hsame]; rfl

/-- R131, R132: a grant makes the order granted SOUNDING, and leaves every other. -/
theorem Contends.grant (h : Contends o s) (n : Nat) (r : Option Repetition) (m : Nat) {b : Order} (hb : b ∈ s.calls.queue) :
    Contends o (mapCalls (fun u => { u.change b.id (fun x => { x with state := .sounding b.since n }) with repetition := r, nextSerial := m }) s) := by
  obtain ⟨st, hst, hstate⟩ := h.stands
  refine ⟨(change_ids b.id (fun x => { x with state := .sounding b.since n }) s.calls fun _ _ => rfl).symm ▸ h.own, h.units, ?_⟩
  by_cases hid : o.id = b.id
  · have hsame : { o with state := st } = b := List.inj_on_of_nodup_map h.own hst hb hid
    have hsince : b.since = o.since := by
      rw [← hsame]
      obtain rfl | ⟨k, rfl⟩ := hstate <;> rfl
    exact ⟨_, List.mem_map.2 ⟨_, hst, if_pos (beq_iff_eq.2 hid)⟩, .inr ⟨n, by rw [hsince]⟩⟩
  · exact ⟨st, List.mem_map.2 ⟨_, hst, if_neg (by simpa using hid)⟩, hstate⟩

theorem Contends.arbitrateFuel (k : Nat) : ∀ {s : State}, Contends o s → Contends o (Machine.arbitrateFuel k s) := by
  induction k with
  | zero => exact id
  | succ k ih =>
    intro s h
    unfold Machine.arbitrateFuel; dsimp only
    split
    · exact h
    split
    · exact h
    rename_i b hb
    split
    · rename_i he
      exact ih (h.endOrder .failed (bestDue_mem hb) he)
    split
    · have hloop : ∀ u : Loop, Contends o { s with loop := u } := fun u => h.same rfl rfl
      exact ((hloop _).grant _ _ _ (bestDue_mem hb)).same (by rw [calls_notify]; rfl) ((LineWork.refl _).notify _ _).rowsNow
    · exact h

theorem Contends.arbitrate (h : Contends o s) : Contends o (Machine.arbitrate s) := h.arbitrateFuel _

theorem Contends.serveRoom (k : Nat) : ∀ {s : State}, Contends o s → Contends o (Machine.serveRoom k s) := by
  induction k with
  | zero => exact fun h => h.same rfl rfl
  | succ k ih =>
    intro s h
    unfold Machine.serveRoom
    split
    · have handed : Contends o (onField Field.rehand (mapLoop (fun u => { u with roomOwed := false }) s)) := h.same rfl rfl
      exact ih handed.arbitrate
    · exact h

theorem Contends.settle (h : Contends o s) : Contends o (Machine.settle s) :=
  (h.serveRoom 8).same (congrArg Calls.queue (takeWork_calls _)) (by
    show (takeWork _).rowsNow = _
    rw [takeWork_eq]; rfl)

/-- R134: an order that goes back to the line contends for it. -/
theorem repetitionOver_contends (n : Nat) (hn : (s.calls.queue.map Order.id).Nodup) (ho : o ∈ s.calls.queue)
    (hu : expectedUnits o s.rowsNow ≠ []) : Contends o.repeated (s.repetitionOver o n) := by
  have hids := change_ids o.id (fun _ => o.repeated) s.calls fun _ h => h.symm
  exact ⟨hids.symm ▸ hn, hu, .due o.since, change_mem (fun _ => o.repeated) ho, .inl rfl⟩

end

/-! ## The time limit -/

/-- R133: at the time limit the areas missed are the order's and their faults are raised; then the repetition ends. -/
theorem endAtLimit_eq {s : State} {o : Order} (r : Repetition) (h : s.calls.sounding = some o) : ∃ u q,
    endAtLimit o r s = endRepetition (o.missesAreas r.missedAreas) (s.missing o r.missedAreas u q) ∧
    (s.sup.entries.length + r.awaited.length ≤ 32 → ∀ a ∈ r.awaited, u.holdsActive (.unit a) .callNotReported) := by
  obtain ⟨u, q, hmiss, hroom⟩ := missUnits_eq o r r.awaited s
  refine ⟨u, q, ?_, fun hlen => (hroom hlen).2⟩
  have hline : (s.missing o r.missedAreas u q).calls.sounding = some (o.missesAreas r.missedAreas) := sounding_change h fun _ => rfl
  unfold endAtLimit
  rw [hmiss]; dsimp only
  rw [← Repetition.missedAreas, hline]

theorem execCallTimeLimit_due {s : State} {o : Order} {r : Repetition} {e : Nat} (hh : s.resetHeld = false) (ho : s.calls.sounding = some o)
    (hr : s.calls.repetition = some r) (hl : r.limitAt = some e) (he : e ≤ s.uptime) :
    exec .callTimeLimit s = .next (settle (endAtLimit o r s)) := by
  show execCallTimeLimit s = _
  rw [execCallTimeLimit, command_next _ hh, ho, hr]
  dsimp only
  rw [hl, if_pos (by simpa using he)]

/-- R134: an order that ends is gone at the end of the event. -/
theorem settle_ended (out : CallOutcome) (o : Order) (s : State) : ∀ x ∈ (settle (arbitrate (endOrder out o s))).calls.queue, x.id ≠ o.id := by
  intro x hx
  obtain ⟨y, hy, hid, -⟩ := ((arbitrate_from _).trans (settle_from _)) x hx
  rw [endOrder_queue] at hy
  rw [← hid]
  simpa using (List.mem_filter.1 hy).2

/-! ## The broadcast -/

/-- R132: the time limit that begins with the sending of the CALL of a serial changes the repetition alone. -/
theorem callSent_eq (k : Nat) (s : State) : ∃ r, callSent k s = { s with calls := { s.calls with repetition := r } } := by
  unfold callSent
  split
  · split
    · exact ⟨_, rfl⟩
    · exact ⟨s.calls.repetition, rfl⟩
  · exact ⟨s.calls.repetition, rfl⟩

/-- The loop freed of a broadcast that has been sent (R160, R162). -/
def Loop.broadcastOver (u : Loop) : Loop := { u.removeSent with transaction := none, drives := false }

theorem broadcastOver_roomOwed {u : Loop} (ho : u.roomOwed = false) (hl : u.ordinary.length < 48) : u.broadcastOver.roomOwed = false := by
  show (u.roomOwed || (decide (48 ≤ u.ordinary.length) && _)) = false
  simp [ho, Nat.not_le.2 hl]

/-- R158, R162: a broadcast that has been sent changes the loop and the repetition alone. -/
theorem broadcastSent_eq (s : State) : ∃ r, broadcastSent s = { s with loop := s.loop.broadcastOver, calls := { s.calls with repetition := r } } := by
  unfold broadcastSent; dsimp only
  split
  · exact callSent_eq _ (mapLoop Loop.broadcastOver s)
  · exact ⟨s.calls.repetition, rfl⟩

/-- R132, R162: the CALL of the order on the line has been sent. -/
theorem broadcastSent_repetition {s : State} {o : Order} {r : Repetition} {k : Nat} (ho : s.calls.sounding = some o)
    (hr : s.calls.repetition = some r) (hk : o.serial = some k) (hs : s.loop.sendingSerial = some k) :
    (broadcastSent s).calls.repetition = some { r with limitAt := some (s.uptime + timeLimit o.kind) } := by
  have hsent : broadcastSent s = callSent k (mapLoop Loop.broadcastOver s) := by
    unfold broadcastSent; rw [hs]; rfl
  rw [hsent, callSent]
  simp only [mapLoop, ho, hr, hk, if_true]
  rfl

theorem sendingSerial_none {u : Loop} {i : LaneItem} (h : (u.urgent ++ u.ordinary).find? (·.sending) = some i)
    (hi : ∀ b, i.work ≠ .call b) : u.sendingSerial = none := by
  unfold Loop.sendingSerial
  rw [h, Option.bind_some]
  cases hw : i.work with
  | call b => exact absurd hw (hi b)
  | set | cancel => rfl

/-- R162: a broadcast other than a CALL tells the Call Controller nothing. -/
theorem broadcastSent_calls {s : State} (h : s.loop.sendingSerial = none) : (broadcastSent s).calls = s.calls := by
  unfold broadcastSent; rw [h]; rfl

theorem execLoopBroadcastSent_next {s : State} (hh : s.resetHeld = false) (ht : s.loop.transaction = some .broadcast) :
    exec .loopBroadcastSent s = .next (settle (broadcastSent s)) := by
  show execLoopBroadcastSent s = _
  rw [execLoopBroadcastSent, command_next _ hh, if_pos ht]

/-- With no room to report, the end of an event leaves the curtain. -/
theorem settle_served_curtain {s : State} (h : s.loop.roomOwed = false) : (settle s).curtain = s.curtain := by
  rw [settle_served s h, transmit_get_curtain, takeWork_eq]

/-! ## Settled -/

section
variable {s : State} {o : Order}

/-- R133, R134: the last repetition of an order, or any of one withdrawn, at its time limit. -/
theorem endAtLimit_ends (r : Repetition) (ho : s.calls.sounding = some o)
    (h : (o.repeats = .times (o.done + 1) ∧ o.done < 255) ∨ o.withdrawn = true) :
    ∀ x ∈ (settle (endAtLimit o r s)).calls.queue, x.id ≠ o.id := by
  obtain ⟨u, q, he, -⟩ := endAtLimit_eq r ho
  obtain ⟨n, hn⟩ := serial_of_sounding (sounding_mem ho).2
  have hlast : o.repeats = .times o.repeated.done ∨ o.withdrawn = true := h.imp_left fun ⟨hrep, hd⟩ => by rw [repeated_done hd, hrep]
  obtain ⟨out, hout⟩ := endRepetition_ends (o := o.missesAreas r.missedAreas) (s.missing o r.missedAreas u q) hn hlast
  rw [he, hout]
  exact settle_ended out _ _

/-- R133, R134: after another repetition the order contends for the line again, and while there is room the faults are ACTIVE. -/
theorem endAtLimit_returns (r : Repetition) (ho : s.calls.sounding = some o) (hrep : o.repeats ≠ .times (o.done + 1)) (hd : o.done < 255)
    (hw : o.withdrawn = false) (hn : (s.calls.queue.map Order.id).Nodup) (hu : expectedUnits o s.rowsNow ≠ []) :
    Contends (o.missesAreas r.missedAreas).repeated (settle (endAtLimit o r s)) ∧
      (s.sup.entries.length + r.awaited.length ≤ 32 → ∀ a ∈ r.awaited,
        (settle (endAtLimit o r s)).sup.holdsActive (.unit a) .callNotReported) := by
  obtain ⟨u, q, he, hroom⟩ := endAtLimit_eq r ho
  obtain ⟨hin, hsound⟩ := sounding_mem ho
  obtain ⟨n, hserial⟩ := serial_of_sounding hsound
  have hmore : o.repeats ≠ .times o.repeated.done := by rwa [repeated_done hd]
  have hids : ((s.missing o r.missedAreas u q).calls.queue.map Order.id).Nodup :=
    (change_ids o.id (Order.missesAreas r.missedAreas) s.calls fun _ _ => rfl).symm ▸ hn
  have hcontends := repetitionOver_contends (o := o.missesAreas r.missedAreas) (s := s.missing o r.missedAreas u q) n hids (change_mem _ hin) hu
  rw [he]
  refine ⟨?_, fun hlen => ?_⟩
  · rw [endRepetition_returns (o := o.missesAreas r.missedAreas) (s.missing o r.missedAreas u q) hserial hmore hw]
    exact hcontends.arbitrate.settle
  · rw [((Leaves.refl _).endRepetition _).settle.sup]
    exact hroom hlen

theorem settle_endAtLimit_leaves (r : Repetition) (ho : s.calls.sounding = some o) :
    (settle (endAtLimit o r s)).perf = s.perf ∧ (settle (endAtLimit o r s)).settings = s.settings := by
  obtain ⟨u, q, he, -⟩ := endAtLimit_eq r ho
  have hl := ((Leaves.refl (s.missing o r.missedAreas u q)).endRepetition (o.missesAreas r.missedAreas)).settle
  rw [he]
  exact ⟨hl.perf, hl.settings⟩

end

/-- Settles O47: the order at the time limit by whether its repetition was the last, and the broadcast by the item that was being sent. -/
theorem soundingOrder : Obligations.SoundingOrder := by
  refine ⟨fun s o r e hh ho hr hl he => ⟨fun hlast => ?_, fun hrep hd hw hn hu => ?_⟩, fun s hh ht hroom hlen => ?_⟩
  · exact ⟨_, execCallTimeLimit_due hh ho hr hl he, endAtLimit_ends r ho hlast, settle_endAtLimit_leaves r ho⟩
  · obtain ⟨hperf, hsettings⟩ := settle_endAtLimit_leaves r ho
    obtain ⟨⟨-, -, st, hst, hstate⟩, hfaults⟩ := endAtLimit_returns r ho hrep hd hw hn hu
    have hmissing : ∀ m, m ∈ (o.missesAreas r.missedAreas).missing ↔ m ∈ o.missing ∨ ∃ a ∈ r.awaited, m = areaOf r.expected a := fun m => by
      rw [mem_missesAreas, mem_missedAreas]
    exact ⟨_, execCallTimeLimit_due hh ho hr hl he, hperf, hsettings, ⟨_, hst, rfl, repeated_done hd, hmissing, hstate⟩, hfaults⟩
  · obtain ⟨rep, hsent⟩ := broadcastSent_eq s
    have hserved : (broadcastSent s).loop.roomOwed = false := by rw [hsent]; exact broadcastOver_roomOwed hroom hlen
    obtain ⟨hcalls, halarm⟩ := settle_served_alarm hserved
    have hleft := (Leaves.refl (broadcastSent s)).settle
    have hworks := (settle_endsOutcome (broadcastSent s)).works hserved
    refine ⟨_, execLoopBroadcastSent_next hh ht, ?_, ?_, ?_, ?_, ?_, ?_, ?_, fun o r k ho hr hk hs => ?_, fun i hi hne => ?_⟩
    · rw [hleft.perf, hsent]
    · rw [hleft.sup, hsent]
    · rw [settle_served_curtain hserved, hsent]
    · rw [halarm, hsent]
    · rw [hcalls, hsent]
    · rw [hworks.urgent, hsent]; rfl
    · rw [hworks.ordinary, hsent]; rfl
    · rw [hcalls]; exact broadcastSent_repetition ho hr hk hs
    · rw [hcalls]; exact broadcastSent_calls (sendingSerial_none hi hne)

end Sys2Proof.Machine

/-! Faults (R142 to R150): the fault list as an invariant of the step, the sections lost at start-up (R155, R195), and the two requests that acknowledge a fault (R147, R148). -/

namespace Sys2Proof.Machine

/-! ## The fault list as an invariant -/

theorem supervision_reset_sound : Supervision.reset.sound := by unfold Supervision.sound; decide

/-- R155, R195: start-up begins on an empty fault list. -/
theorem Begins.sup {s t : State} (h : Begins s t) : t.sup.sound := by
  obtain ⟨c, b, -, hk⟩ := h
  exact hk.sup supervision_reset_sound

/-- Settles O5: R142, R143, R145 and R150 as an invariant of the step, by what a step can do. -/
theorem faultListStaysSound : Obligations.FaultListStaysSound := by
  intro s t hs h
  obtain ⟨q, hk | rfl | hb⟩ := step_outcomes s t h
  · exact hk.sup hs
  · exact supervision_reset_sound
  · exact hb.sup

/-! ## Sections loaded -/

theorem row_name (u : Store) (n : SectionName) : (u.row n).name = n := by
  unfold Store.row
  cases h : u.rows.find? (·.name == n) with
  | none => rfl
  | some r => simpa using List.find?_some h

theorem loadRow_section {r : StoreRow} {v : SectionValue} (h : loadRow r = some v) : valueSection v = r.name := by
  unfold loadRow at h
  split at h
  · split_ifs at h with hv
    cases h; exact hv
  all_goals cases h

theorem put_value (v : SectionValue) (n : SectionName) (s : Settings) : (s.put v).value n = if valueSection v = n then v else s.value n := by
  cases v <;> cases n <;> rfl

/-- R195: a section that cannot be loaded runs on its built-in defaults, whatever the others load. -/
theorem loadSettings_lost {u : Store} {n : SectionName} (h : loadRow (u.row n) = none) :
    (loadSettings u).value n = Settings.default.value n := by
  refine List.foldlRecOn (motive := fun s : Settings => s.value n = Settings.default.value n) _ _ rfl fun s hs m _ => ?_
  split
  · rename_i v hv
    have hm : valueSection v = m := (loadRow_section hv).trans (row_name u m)
    rw [put_value, if_neg (by rw [hm]; rintro rfl; rw [hv] at h; cases h), hs]
  · exact hs

theorem loadedRow_name (r : StoreRow) : (loadedRow r).name = r.name := by unfold loadedRow; split <;> rfl

theorem loadStore_row (u : Store) (n : SectionName) : (loadStore u).row n = loadedRow (u.row n) := by
  rw [Store.row, loadStore, SectionName.all]
  cases n <;> simp [loadedRow_name, row_name]

theorem mem_sections (n : SectionName) : n ∈ SectionName.all := by cases n <;> decide

/-- R190, R195: the sections lost are those that could not be loaded. -/
theorem mem_lostSections {u : Store} {n : SectionName} (h : loadRow (u.row n) = none) : n ∈ lostSections (loadStore u) := by
  refine List.mem_filter.2 ⟨mem_sections n, ?_⟩
  rw [loadStore_row, loadedRow, h]; rfl

/-! ## A list of raised faults -/

/-- R144, R149: a fault list in which nothing has been cleared, each entry with its kind's severity. -/
def Supervision.asRaised (u : Supervision) : Prop := ∀ e ∈ u.entries, e.state = .active ∧ e.severity = severityOf e.kind

/-- R142: an entry put in the place of its pair's leaves every ACTIVE pair ACTIVE. -/
theorem change_holdsActive {u : Supervision} {src src' : FaultSource} {k k' : FaultKind} {e : FaultEntry} (he : e.pair = (src, k))
    (ha : e.state = .active) (h : u.holdsActive src' k') : (u.change src k fun _ => e).holdsActive src' k' := by
  obtain ⟨f, hf, hp, hs⟩ := h
  by_cases hof : f.isOf src k = true
  · exact ⟨e, List.mem_map.2 ⟨f, hf, if_pos hof⟩, he.trans (((isOf_pair f src k).1 hof).symm.trans hp), ha⟩
  · exact ⟨f, List.mem_map.2 ⟨f, hf, if_neg hof⟩, hp, hs⟩

/-- R144, R145: from a list in which nothing has been cleared comes another, and every pair in it is still ACTIVE. -/
structure AddsRaised (u v : Supervision) : Prop where
  asRaised : u.asRaised → v.asRaised
  holds : u.asRaised → ∀ src k, u.holdsActive src k → v.holdsActive src k

theorem AddsRaised.refl (u : Supervision) : AddsRaised u u := ⟨id, fun _ _ _ => id⟩

theorem AddsRaised.trans {u v w : Supervision} (h : AddsRaised u v) (k : AddsRaised v w) : AddsRaised u w :=
  ⟨fun x => k.asRaised (h.asRaised x), fun x src kind y => k.holds (h.asRaised x) src kind (h.holds x src kind y)⟩

theorem AddsRaised.append {u v : Supervision} {e : FaultEntry} (hv : v.entries = u.entries ++ [e]) (ha : e.state = .active)
    (hs : e.severity = severityOf e.kind) : AddsRaised u v where
  asRaised h x hx := by
    rw [hv] at hx
    obtain hx | hx := List.mem_append.1 hx
    · exact h x hx
    · rw [List.mem_singleton.1 hx]; exact ⟨ha, hs⟩
  holds := fun _ _ _ ⟨f, hf, hp⟩ => ⟨f, hv ▸ List.mem_append_left _ hf, hp⟩

/-- R144: an entry raised again counts an occurrence, in its place. -/
theorem AddsRaised.recur {u : Supervision} {src : FaultSource} {k : FaultKind} {e : FaultEntry} (n : Nat) (h : u.find src k = some e) :
    AddsRaised u (u.change src k fun _ => { e with occurrences := n }).judge where
  asRaised hu x hx := by
    obtain ⟨y, hy, rfl⟩ := List.mem_map.1 hx
    split
    · exact hu e (List.mem_of_find?_eq_some h)
    · exact hu y hy
  holds hu _ _ := change_holdsActive (show e.pair = (src, k) from find_pair h) (hu e (List.mem_of_find?_eq_some h)).1

/-- R144, R145: a raise makes an entry, counts an occurrence, or is lost; with nothing cleared there is nothing to displace. -/
theorem raiseFault_addsRaised (src : FaultSource) (k : FaultKind) (s : State) : AddsRaised s.sup (raiseFault src k s).sup := by
  by_cases hr : s.sup.asRaised
  swap
  · exact ⟨fun h => absurd h hr, fun h => absurd h hr⟩
  unfold raiseFault
  split
  · split
    · exact .append (by simp only [newFault, faultNotice, notify_get_sup]; rfl) rfl rfl
    · split
      · rename_i e he
        have hcleared := List.find?_some he
        simp [(hr e (List.mem_of_find?_eq_some he)).1] at hcleared
      · unfold loseFault; rw [notify_get_sup]
        exact ⟨id, fun _ _ _ => id⟩
  · rename_i e he
    split
    · rename_i hcleared
      cases hcleared.symm.trans (hr e (List.mem_of_find?_eq_some he)).1
    · unfold faultNotice; rw [notify_get_sup]
      exact .recur _ he

theorem raiseFaults_addsRaised {α : Type} (src : α → FaultSource) (k : FaultKind) (l : List α) (s : State) :
    AddsRaised s.sup (l.foldl (fun s a => raiseFault (src a) k s) s).sup :=
  List.foldlRecOn (motive := fun t : State => AddsRaised s.sup t.sup) _ _ (.refl _) fun t h a _ => h.trans (raiseFault_addsRaised (src a) k t)

/-- R144: while there is room, every fault raised has its entry. -/
theorem raiseFaults_holdsActive {α : Type} (src : α → FaultSource) (k : FaultKind) (l : List α) : ∀ {s : State}, s.sup.asRaised →
    s.sup.entries.length + l.length ≤ 32 → ∀ a ∈ l, (l.foldl (fun s a => raiseFault (src a) k s) s).sup.holdsActive (src a) k := by
  induction l with
  | nil => exact fun _ _ => nofun
  | cons b l ih =>
    intro s hr hlen a ha
    rw [List.length_cons] at hlen
    obtain ⟨hself, hgrow, -⟩ := raiseFault_holdsActive (src b) k (s := s) (by omega)
    have hraised := (raiseFault_addsRaised (src b) k s).asRaised hr
    obtain rfl | ha := List.mem_cons.1 ha
    · exact (raiseFaults_addsRaised src k l _).holds hraised _ _ hself
    · exact ih hraised (by omega) a ha

/-! ## Sections lost at start-up -/

theorem asRaised_reset : Supervision.reset.asRaised := nofun

theorem raiseLost_addsRaised (s : State) : AddsRaised s.sup (raiseLost s).sup := raiseFaults_addsRaised ..

theorem raiseIsolated_addsRaised (s : State) : AddsRaised s.sup (raiseIsolated s).sup :=
  (raiseFaults_addsRaised .channel .isolated _ s).trans (raiseFaults_addsRaised .zone .isolated _ _)

theorem startUp_asRaised (c : Curtain) (s : State) : (startUp c s).sup.asRaised :=
  ((raiseLost_addsRaised (rebuild c s)).trans (raiseIsolated_addsRaised _)).asRaised asRaised_reset

/-- R155: the eight sections find room in the empty list, and the isolations displace none of them. -/
theorem startUp_holdsLost (c : Curtain) {s : State} {n : SectionName} (h : n ∈ lostSections (rebuild c s).store) :
    (startUp c s).sup.holdsActive (.store n) .sectionLost := by
  have hlen : (rebuild c s).sup.entries.length + (lostSections (rebuild c s).store).length ≤ 32 := by
    have h8 : (lostSections (rebuild c s).store).length ≤ 8 := List.length_filter_le _ SectionName.all
    exact (Nat.add_le_add_left h8 0).trans (by decide)
  have hlost := raiseFaults_holdsActive .store .sectionLost _ asRaised_reset hlen n h
  exact (raiseIsolated_addsRaised _).holds ((raiseLost_addsRaised (rebuild c s)).asRaised asRaised_reset) _ _ hlost

/-- R150: the trouble relay is released while an ACTIVE entry above NOTE is held. -/
theorem relay_of_troubles {u : Supervision} {e : FaultEntry} (h : u.sound) (he : e ∈ u.entries) (ht : e.troubles = true) : u.relay = false := by
  obtain ⟨hrelay, -⟩ := h
  rw [hrelay, List.any_eq_true.2 ⟨e, he, ht⟩]; rfl

/-- R155, R195: the section's defaults stand through the load, and its entry through the isolations and the end of the event. -/
theorem settle_startUp_lost (c : Curtain) {s : State} {n : SectionName} (h : loadRow ((stopStore s.store).row n) = none) :
    (settle (startUp c s)).settings.value n = Settings.default.value n ∧
      (∃ e ∈ (settle (startUp c s)).sup.entries, e.pair = (.store n, .sectionLost) ∧ e.state = .active ∧ e.severity = .critical) ∧
      (settle (startUp c s)).sup.relay = false := by
  obtain ⟨u, q, hsettled, -⟩ := settle_startUp c s
  have hsup : (settle (startUp c s)).sup = (startUp c s).sup := (Leaves.refl _).settle.sup
  have hsound : (settle (startUp c s)).sup.sound := (startUp_afterRebuild c s).sup supervision_reset_sound
  obtain ⟨e, he, hpair, hactive⟩ := startUp_holdsLost c (s := s) (mem_lostSections h)
  have hcritical : e.severity = .critical := by
    rw [(startUp_asRaised c s e he).2, show e.kind = .sectionLost from congrArg Prod.snd hpair]; rfl
  rw [← hsup] at he
  refine ⟨?_, ⟨e, he, hpair, hactive, hcritical⟩, relay_of_troubles hsound he ?_⟩
  · rw [hsettled]; exact loadSettings_lost h
  · rw [FaultEntry.troubles, hactive, hcritical]; rfl

/-- Settles O12: power-on is the start-up of a controller with its clock and its last step forgotten. -/
theorem lostSectionIsReported : Obligations.LostSectionIsReported := fun _ _ h => ⟨_, rfl, settle_startUp_lost Curtain.unresolved h⟩

/-! ## An entry acknowledged -/

theorem isOf_eq_decide (x e : FaultEntry) : x.isOf e.source e.kind = decide (x.pair = e.pair) :=
  Bool.eq_iff_iff.2 ((isOf_pair x e.source e.kind).trans decide_eq_true_iff.symm)

/-- R143: the entry of a pair is the only one. -/
theorem Supervision.sound.unique {u : Supervision} {e x : FaultEntry} (h : u.sound) (he : e ∈ u.entries) (hx : x ∈ u.entries)
    (hp : x.pair = e.pair) : x = e := by
  obtain ⟨-, -, -, hnodup⟩ := h
  exact List.inj_on_of_nodup_map hnodup hx he hp

/-- R150: entries that trouble as those before leave the relay as it was. -/
theorem Supervision.sound.judge_entries {u : Supervision} {l : List FaultEntry} (h : u.sound)
    (hl : l.any FaultEntry.troubles = u.entries.any FaultEntry.troubles) : ({ u with entries := l } : Supervision).judge = { u with entries := l } := by
  obtain ⟨hrelay, -⟩ := h
  rw [Supervision.judge, hl, ← hrelay]

/-- R147, R150: an ACTIVE entry marked acknowledged keeps its place, and the relay is not concerned. -/
theorem change_acked_judge {u : Supervision} {e : FaultEntry} (h : u.sound) (he : e ∈ u.entries) :
    (u.change e.source e.kind fun _ => { e with acked := true }).judge =
      { u with entries := u.entries.map fun x => if x.pair = e.pair then { e with acked := true } else x } := by
  have hmap : u.change e.source e.kind (fun _ => { e with acked := true }) =
      { u with entries := u.entries.map fun x => if x.pair = e.pair then { e with acked := true } else x } := by
    simp only [Supervision.change, isOf_eq_decide, decide_eq_true_eq]
  have htroubles : ∀ x ∈ u.entries, (if x.pair = e.pair then { e with acked := true } else x).troubles = x.troubles := by
    intro x hx
    split
    · rename_i hp; rw [h.unique he hx hp]; rfl
    · rfl
  rw [hmap]
  refine h.judge_entries ?_
  rw [List.any_map, Bool.eq_iff_iff, List.any_eq_true, List.any_eq_true]
  exact exists_congr fun x => and_congr_right fun hx => by rw [Function.comp_apply, htroubles x hx]

/-- R147, R150: a CLEARED entry removed did not hold the relay released. -/
theorem remove_cleared_judge {u : Supervision} {e : FaultEntry} (h : u.sound) (he : e ∈ u.entries) (hc : e.state = .cleared) :
    (u.remove e.source e.kind).judge = { u with entries := u.entries.filter fun x => decide (x.pair ≠ e.pair) } := by
  have hfilter : u.remove e.source e.kind = { u with entries := u.entries.filter fun x => decide (x.pair ≠ e.pair) } := by
    simp only [Supervision.remove, isOf_eq_decide, decide_not]
  have hquiet : e.troubles = false := by rw [FaultEntry.troubles, hc]; rfl
  rw [hfilter]
  refine h.judge_entries ?_
  rw [Bool.eq_iff_iff, List.any_eq_true, List.any_eq_true]
  refine exists_congr fun x => ⟨fun ⟨hx, ht⟩ => ⟨(List.mem_filter.1 hx).1, ht⟩, fun ⟨hx, ht⟩ => ⟨List.mem_filter.2 ⟨hx, ?_⟩, ht⟩⟩
  refine decide_eq_true fun hp => ?_
  rw [h.unique he hx hp, hquiet] at ht
  cases ht

section
variable {s : State} {p : Port} {e : FaultEntry}

theorem acknowledgeEntryFault_acked (hs : e.state = .active) (ha : e.acked = true) : acknowledgeEntryFault p e s = s := by
  rw [acknowledgeEntryFault, hs, ha]

theorem acknowledgeEntryFault_active (h : s.sup.sound) (he : e ∈ s.sup.entries) (hs : e.state = .active) (ha : e.acked = false) :
    acknowledgeEntryFault p e s = notify e.severity.family (.fault .acknowledged { e with acked := true } false (some p) s.uptime
      s.sup.entries.length s.sup.lost s.sup.relay)
        { s with sup := { s.sup with entries := s.sup.entries.map fun x => if x.pair = e.pair then { e with acked := true } else x } } := by
  have hack : acknowledgeEntryFault p e s = faultNotice .acknowledged { e with acked := true } false (some p)
      (setSup (s.sup.change e.source e.kind fun _ => { e with acked := true }) s) := by rw [acknowledgeEntryFault, hs, ha]
  rw [hack, setSup, change_acked_judge h he, faultNotice]
  dsimp only
  rw [List.length_map]

theorem acknowledgeEntryFault_cleared (h : s.sup.sound) (he : e ∈ s.sup.entries) (hs : e.state = .cleared) :
    acknowledgeEntryFault p e s = notify e.severity.family (.fault .acknowledged { e with acked := true } true (some p) s.uptime
      (s.sup.entries.filter fun x => decide (x.pair ≠ e.pair)).length s.sup.lost s.sup.relay)
        { s with sup := { s.sup with entries := s.sup.entries.filter fun x => decide (x.pair ≠ e.pair) } } := by
  rw [acknowledgeEntryFault, hs]
  dsimp only
  rw [setSup, remove_cleared_judge h he hs, faultNotice]

/-- R148, R150: with the count at 0 the relay is what the entries make it. -/
theorem resetLost_eq (s : State) : resetLost s = notify .faultMajor (.faultLostReset s.sup.entries.length 0 (!(s.sup.entries.any FaultEntry.troubles)))
    { s with sup := { s.sup with lost := 0, relay := !(s.sup.entries.any FaultEntry.troubles) } } := by
  simp [resetLost, setSup, Supervision.judge]

/-! ## The two requests -/

/-- On an idle controller a change of the fault list with its notice and its reply has only frames to send. -/
theorem settle_sup_notice_reply (h : s.idle) (p : Port) (tag : Tag) (o : ReplyOutcome) (f : Family) (n : Notice) (u : Supervision) :
    settle (reply p tag o (notify f n { s with sup := u })) = transmit (reply p tag o (notify f n { s with sup := u })) :=
  settle_frames s _ h (by simp) (by simp) (by simp) (by simp) (by simp)

variable {tag : Tag} {src : FaultSource} {k : FaultKind}

theorem execAcknowledgeFault_none (h : s.awake) (ho : s.owns p tag .acknowledgeFault = true) :
    exec (.acknowledgeFault p tag src none) s = .next (transmit (reply p tag (.refused .invalid) s)) := request_replied h ho rfl

theorem execAcknowledgeFault_notAllowed (h : s.awake) (ho : s.owns p tag .acknowledgeFault = true) (hk : allowedAt k src = false) :
    exec (.acknowledgeFault p tag src (some k)) s = .next (transmit (reply p tag (.refused .invalid) s)) := by
  show execAcknowledgeFault p tag src (some k) s = _
  rw [execAcknowledgeFault, request_replied h ho]
  simp [hk, refuse]

theorem execAcknowledgeFault_notFound (h : s.awake) (ho : s.owns p tag .acknowledgeFault = true) (hk : allowedAt k src = true)
    (hf : s.sup.find src k = none) : exec (.acknowledgeFault p tag src (some k)) s = .next (transmit (reply p tag (.refused .notPresented) s)) := by
  show execAcknowledgeFault p tag src (some k) s = _
  rw [execAcknowledgeFault, request_replied h ho]
  simp [hk, hf, refuse]

theorem execAcknowledgeFault_found (h : s.awake) (ho : s.owns p tag .acknowledgeFault = true) (hk : allowedAt k src = true)
    (hf : s.sup.find src k = some e) :
    exec (.acknowledgeFault p tag src (some k)) s = .next (settle (done p tag (acknowledgeEntryFault p e s))) := by
  show execAcknowledgeFault p tag src (some k) s = _
  rw [execAcknowledgeFault, request_owned _ h.1 ho]
  simp only [hk, hf, not_true_eq_false, if_false]

theorem execAcknowledgeFaultLost_owned (h : s.awake) (ho : s.owns p tag .acknowledgeFault = true) :
    (s.sup.lost = 0 → exec (.acknowledgeFaultLost p tag) s = .next (transmit (reply p tag (.done .empty) s))) ∧
    (0 < s.sup.lost → s.sup.entries.length = 32 → exec (.acknowledgeFaultLost p tag) s = .next (transmit (reply p tag (.refused .full) s))) ∧
    (0 < s.sup.lost → s.sup.entries.length < 32 → exec (.acknowledgeFaultLost p tag) s = .next (settle (done p tag (resetLost s)))) := by
  have hexec : exec (.acknowledgeFaultLost p tag) s = execAcknowledgeFaultLost p tag s := rfl
  rw [hexec, execAcknowledgeFaultLost]
  refine ⟨fun hl => request_replied h ho ?_, fun hl hfull => request_replied h ho ?_, fun hl hroom => ?_⟩
  · rw [if_pos hl]; rfl
  · rw [if_neg hl.ne', if_pos hfull.ge]; rfl
  · rw [request_owned _ h.1 ho, if_neg hl.ne', if_neg hroom.not_ge]

end

/-- Settles O48: the entry by its state, and the count by whether the list has room. -/
theorem acknowledgeFault : Obligations.AcknowledgeFault := by
  refine ⟨fun s p tag src h ho => ⟨execAcknowledgeFault_none h ho, fun k => ⟨execAcknowledgeFault_notAllowed h ho,
    execAcknowledgeFault_notFound h ho, fun e hk hf hsound => ?_⟩⟩, fun s p tag h ho => ?_⟩
  · have he : e ∈ s.sup.entries := List.mem_of_find?_eq_some hf
    refine ⟨fun hs ha => ?_, fun hs ha => ?_, fun hs => ?_⟩ <;> rw [execAcknowledgeFault_found h ho hk hf]
    · rw [acknowledgeEntryFault_acked hs ha]
      exact congrArg Host.Outcome.next (settle_reply p tag _ h.2)
    · rw [acknowledgeEntryFault_active hsound he hs ha]
      exact congrArg Host.Outcome.next (settle_sup_notice_reply h.2 ..)
    · rw [acknowledgeEntryFault_cleared hsound he hs]
      exact congrArg Host.Outcome.next (settle_sup_notice_reply h.2 ..)
  · obtain ⟨hzero, hfull, hroom⟩ := execAcknowledgeFaultLost_owned h ho
    refine ⟨hzero, hfull, fun hl hlen => ?_⟩
    rw [hroom hl hlen, resetLost_eq]
    exact congrArg Host.Outcome.next (settle_sup_notice_reply h.2 ..)

end Sys2Proof.Machine

/-! What a POLL's answers and misses do (R156, R158, R165, R167 to R169, R175). -/

namespace Sys2Proof.Machine

section
variable {s : State} {a began : Nat} {kind : UnitKind} {r : UnitRow}

/-! ## The contents of a reply -/

/-- A fault cleared changes Supervision and the Port Units alone. -/
theorem RowWork.clearFault (p : Nat → Prop) (src : FaultSource) (k : FaultKind) (s : State) : RowWork p s (Machine.clearFault src k s) := by
  obtain ⟨u, q, e⟩ := clearFault_eq src k s
  rw [e]
  exact ⟨rfl, rfl, rfl, fun _ _ => rfl, fun _ => id, fun _ => id, fun _ d => ⟨d.unset, d.waiting, d.lamps⟩⟩

/-- R133: a call unit's progress taken leaves the unit table. -/
theorem RowWork.unitReport (a serial : Nat) (progress : CallProgress) (s : State) :
    RowWork (fun _ => False) s (Machine.unitReport a serial progress s) := by
  unfold Machine.unitReport; split
  · rename_i o x _ _
    split
    · have hawaited : LineWork s (mapCalls (fun u => { u with repetition := some { x with awaited := removeNum a x.awaited } }) s) :=
        (LineWork.refl s).mapCalls _
      exact ((RowWork.of_lineWork _ hawaited).trans (.clearFault _ _ _ _)).trans (.of_lineWork _ (LineWork.refl _).judgeRepetition)
    · exact .refl _ s
  · exact .refl _ s

/-- R168: the row with the contents of a good reply to its POLL. -/
def UnitRow.takes (b : LoopBody) (r : UnitRow) : UnitRow :=
  match b with
  | .lampPoll x => { r with room := x }
  | .callPoll n p => { r with lastSerial := n, progress := p }
  | .setAnswer _ | .levels _ | .identity _ _ _ | .malformed => r

theorem takePoll_row (b : LoopBody) (h : s.loop.row a = some r) :
    (takePoll a b s).settings = s.settings ∧ (takePoll a b s).loop.row a = some (r.takes b) := by
  cases b with
  | lampPoll x => exact ⟨rfl, mapRow_row (f := fun y => { y with room := x }) (fun _ => rfl) h⟩
  | callPoll n p =>
    have hreport := RowWork.unitReport a n p (mapRow a (fun x => { x with lastSerial := n, progress := p }) s)
    exact ⟨hreport.settings, (hreport.rows a id).trans (mapRow_row (f := fun x => { x with lastSerial := n, progress := p }) (fun _ => rfl) h)⟩
  | setAnswer | levels | identity | malformed => exact ⟨rfl, h⟩

/-- R168: the row of a unit that has given a valid reply to its POLL. -/
def UnitRow.polled (b : LoopBody) (good : Bool) (r : UnitRow) : UnitRow := if good then (r.heard good).takes b else r.heard good

theorem endPoll_row (b : LoopBody) (good : Bool) (h : s.loop.row a = some r) :
    (endPoll a (.valid b good) s).settings = s.settings ∧ (endPoll a (.valid b good) s).loop.row a = some (r.polled b good) := by
  have hw := TableWork.heard a good s
  have hrow := heard_row good h
  cases good with
  | true =>
    obtain ⟨hset, ht⟩ := takePoll_row b hrow
    exact ⟨hset.trans hw.settings, ht⟩
  | false => exact ⟨hw.settings, hrow⟩

theorem endPoll_lampPoll (x : Room) (good : Bool) (s : State) : TableWork s (endPoll a (.valid (.lampPoll x) good) s) := by
  have hw := TableWork.heard a good s
  cases good with
  | true => exact hw.trans (.mapRow ..)
  | false => exact hw

/-- R168: what a valid reply to a POLL makes of the row, whatever its contents. -/
structure PolledRow (good : Bool) (r x : UnitRow) : Prop where
  present : x.present = r.present
  misses : x.misses = 0
  nextPoll : x.nextPoll = r.nextPoll
  badData : x.faultsHeld.contains .unitBadData = !good

theorem heard_polledRow (good : Bool) (r : UnitRow) : PolledRow good r (r.heard good) := ⟨rfl, rfl, rfl, heard_badData good r⟩

theorem PolledRow.takes {good : Bool} {r x : UnitRow} (h : PolledRow good r x) (b : LoopBody) : PolledRow good r (x.takes b) := by
  cases b <;> exact ⟨h.present, h.misses, h.nextPoll, h.badData⟩

theorem polled_polledRow (b : LoopBody) (good : Bool) (r : UnitRow) : PolledRow good r (r.polled b good) := by
  cases good with
  | true => exact (heard_polledRow true r).takes b
  | false => exact heard_polledRow false r

/-- R168: the contents of a good reply are taken, those of "bad data" set aside. -/
theorem polled_lampPoll (x : Room) (good : Bool) (r : UnitRow) : (r.polled (.lampPoll x) good).room = if good then x else r.room := by
  cases good <;> rfl

theorem polled_callPoll (n : Nat) (p : CallProgress) (good : Bool) (r : UnitRow) :
    ((r.polled (.callPoll n p) good).lastSerial, (r.polled (.callPoll n p) good).progress) = if good then (n, p) else (r.lastSerial, r.progress) := by
  cases good <;> rfl

/-! ## The next POLL -/

/-- R165: the row of a unit whose next POLL is due at a time, if it is still PRESENT. -/
def UnitRow.pollAt (time : Nat) (r : UnitRow) : UnitRow := if r.present then { r with nextPoll := some time } else r

theorem scheduleNext_row (h : s.loop.row a = some r) :
    (scheduleNext a began s).loop.row a = some (r.pollAt (began + s.settings.loop.pollPeriod * 10)) :=
  mapRow_row (f := UnitRow.pollAt (began + s.settings.loop.pollPeriod * 10)) (fun r => by unfold UnitRow.pollAt; split <;> rfl) h

theorem pollAt_present {time : Nat} (hp : r.present = true) : r.pollAt time = { r with nextPoll := some time } := if_pos hp

theorem pollAt_absent {time : Nat} (hp : r.present = false) : r.pollAt time = r := if_neg (by simp [hp])

theorem takeOutcome_poll (o : LoopOutcome) (h : s.loop.row a = some r) (hp : r.present = true) :
    takeOutcome (.poll a kind began) o s = scheduleNext a began (endPoll a o (endTransaction s)) := by
  rw [takeOutcome, stillPresent_of_row h, hp]; rfl

theorem takeOutcome_lostPoll (o : LoopOutcome) (h : s.loop.row a = some r) (hp : r.present = false) :
    takeOutcome (.poll a kind began) o s = lostOutcome a o (endTransaction s) := by
  rw [takeOutcome, stillPresent_of_row h, hp]; rfl

/-! ## A reply -/

/-- A whole reply drawn by the POLL of an address, that fits the kind expected when the POLL began. -/
structure AnswersPoll (s : State) (f : LoopFrame) (a : Nat) (kind : UnitKind) (began : Nat) : Prop where
  held : s.resetHeld = false
  transaction : s.loop.transaction = some (.poll a kind began)
  poll : f.kind = .poll
  address : f.address = a
  reply : f.reply = true
  complete : f.complete = true
  check : f.checkGood = true
  fits : bodyFits (.poll a kind began) f.body = true

theorem AnswersPoll.outcome {f : LoopFrame} (h : AnswersPoll s f a kind began) :
    ∃ t, exec (.loopReply f) s = .next t ∧ EndsOutcome (takeOutcome (.poll a kind began) (.valid f.body f.good) s) t := by
  obtain ⟨t, he, k⟩ := execLoopReply_outcome f h.held h.transaction
  rw [judgeFrame_valid rfl h.address h.poll h.reply h.complete h.check h.fits] at k
  exact ⟨t, he, k⟩

/-- R165, R168: the reply of a PRESENT unit. -/
theorem AnswersPoll.present {f : LoopFrame} (hf : AnswersPoll s f a kind began) (h : s.loop.row a = some r) (hp : r.present = true) :
    ∃ t, exec (.loopReply f) s = .next t ∧ EndsOutcome (scheduleNext a began (endPoll a (.valid f.body f.good) (endTransaction s))) t ∧
      t.settings = s.settings ∧
      t.loop.row a = some { r.polled f.body f.good with nextPoll := some (began + s.settings.loop.pollPeriod * 10) } := by
  obtain ⟨t, he, k⟩ := hf.outcome
  rw [takeOutcome_poll _ h hp] at k
  obtain ⟨hset, hrow⟩ := endPoll_row (s := endTransaction s) f.body f.good h
  have hpresent : (r.polled f.body f.good).present = true := (polled_polledRow f.body f.good r).present.trans hp
  refine ⟨t, he, k, k.settings.trans hset, ?_⟩
  rw [k.rows, scheduleNext_row hrow, pollAt_present hpresent, hset]; rfl

/-- R156, R168: the reply of a unit that a CONFIG has made ABSENT acts on its row, a lamp unit's room on that of a LAMP row alone. -/
theorem lostOutcome_lampPoll (x : Room) (good : Bool) (h : s.loop.row a = some r) :
    (lostOutcome a (.valid (.lampPoll x) good) s).settings = s.settings ∧ ∃ b : LoopBody,
      (lostOutcome a (.valid (.lampPoll x) good) s).loop.row a = some (r.polled b good) := by
  have hw := TableWork.heard a good s
  have hrow := heard_row good h
  unfold lostOutcome; dsimp only; split
  · rename_i hg
    obtain ⟨rfl, -⟩ := Bool.and_eq_true_iff.1 hg
    obtain ⟨hset, ht⟩ := takePoll_row (.lampPoll x) hrow
    exact ⟨hset.trans hw.settings, .lampPoll x, ht⟩
  · exact ⟨hw.settings, .malformed, by rw [hrow]; cases good <;> rfl⟩

/-! ## A miss -/

/-- R169: the row of a PRESENT unit whose POLL has drawn no valid reply. -/
def UnitRow.unpolled (o : LoopOutcome) (time : Nat) (r : UnitRow) : UnitRow :=
  UnitRow.pollAt time { r.missed with checkErrors := o.errors r.checkErrors }

theorem unpolled_early (o : LoopOutcome) (time : Nat) (hp : r.present = true) (hm : r.misses + 1 < 3) :
    r.unpolled o time = { r with misses := r.misses + 1, checkErrors := o.errors r.checkErrors, nextPoll := some time } := by
  rw [UnitRow.unpolled, missed_early hm]; exact pollAt_present hp

theorem unpolled_third (o : LoopOutcome) (time : Nat) (hm : 3 ≤ r.misses + 1) :
    r.unpolled o time = { r.absent.holdFault .unitAbsent with checkErrors := o.errors r.checkErrors } := by
  rw [UnitRow.unpolled, missed_third hm]; exact pollAt_absent rfl

/-- R169, R175: the fields of that row. -/
structure MissedRow (o : LoopOutcome) (r x : UnitRow) : Prop where
  present : x.present = decide (r.misses + 1 < 3)
  misses : x.misses = if r.misses + 1 < 3 then r.misses + 1 else 0
  errors : x.checkErrors = o.errors r.checkErrors
  lost : 3 ≤ r.misses + 1 → (x.room, x.nextPoll) = (.room, none) ∧ x.faultsHeld.contains .unitAbsent = true

theorem unpolled_missedRow (o : LoopOutcome) (time : Nat) (hp : r.present = true) : MissedRow o r (r.unpolled o time) := by
  by_cases hm : r.misses + 1 < 3
  · rw [unpolled_early o time hp hm]
    exact ⟨hp.trans (decide_eq_true hm).symm, (if_pos hm).symm, rfl, fun h => absurd hm (Nat.not_lt.2 h)⟩
  · rw [unpolled_third o time (Nat.le_of_not_lt hm)]
    exact ⟨(decide_eq_false hm).symm, (if_neg hm).symm, rfl, fun _ => ⟨rfl, insertKind_held _ _⟩⟩

/-- What a miss of a POLL makes of the row, and of the blocks that a lost unit is taken out of. -/
structure MissesPoll (a : Nat) (r : UnitRow) (o : LoopOutcome) (time : Nat) (s t : State) : Prop where
  settings : t.settings = s.settings
  row : t.loop.row a = some (r.unpolled o time)
  lamp : 3 ≤ r.misses + 1 → (s.settings.loopRow a).expected = .lamp → t.field.Dark a
  call : 3 ≤ r.misses + 1 → (s.settings.loopRow a).expected = .call → ∀ y ∈ t.calls.reachable, y.address ≠ a

/-- R169, R123: the third consecutive miss of a call unit leaves it reachable no more. -/
theorem unheard_unreachable (o : LoopOutcome) (h : s.loop.row a = some r) (hp : r.present = true) (hm : 3 ≤ r.misses + 1)
    (he : (s.settings.loopRow a).expected = .call) : ∀ y ∈ (unheard a o s).calls.reachable, y.address ≠ a := by
  rw [(unheard_work a o s).calls, miss_third h hp hm, absentByMisses, he]
  exact goAbsent_fault_unreachable a _ _ s

theorem exec_poll_drawsNothing {c : Instr} {o : LoopOutcome} (hd : DrawsNothing c o) (hh : s.resetHeld = false)
    (ht : s.loop.transaction = some (.poll a kind began)) (h : s.loop.row a = some r) (hp : r.present = true) :
    ∃ t, exec c s = .next t ∧ MissesPoll a r o (began + s.settings.loop.pollPeriod * 10) s t := by
  obtain ⟨clock, t, he, k⟩ := exec_drawsNothing hd hh ht nofun
  have hend : endPoll a o (endTransaction { s with clock := clock }) = unheard a o (endTransaction { s with clock := clock }) := by
    obtain ⟨-, rfl⟩ | ⟨f, -, -, rfl⟩ := hd <;> rfl
  rw [takeOutcome_poll (s := { s with clock := clock }) o h hp, hend] at k
  generalize hy : endTransaction { s with clock := clock } = y at k
  have hset : y.settings = s.settings := by subst hy; rfl
  have hrow : y.loop.row a = some r := by subst hy; exact h
  have hu := (KeepsCourse.unheard a o y).settings.trans hset
  have hw : TableWork (unheard a o y) (scheduleNext a began (unheard a o y)) := .mapRow ..
  refine ⟨t, he, k.settings.trans hu, ?_, fun hm hl => ?_, fun hm hl => ?_⟩
  · rw [k.rows, scheduleNext_row (unheard_row o hrow hp), hu]; rfl
  · exact k.dark a (hw.dark (unheard_lost o hrow hp hm (hset.symm ▸ hl)).1)
  · rw [k.reachable, hw.calls]
    exact unheard_unreachable o hrow hp hm (hset.symm ▸ hl)

end

/-! ## Settled -/

/-- Settles O49: the replies by their contents and by whether the unit is still PRESENT, the misses by their count. -/
theorem pollAnswers : Obligations.PollAnswers := by
  unfold Obligations.PollAnswers
  refine ⟨fun s a began kind x f hh ht h hp h1 h2 h3 h4 => ⟨fun h5 r hk hb => ?_, fun h5 n p hn hk hb => ?_, fun h5 => ?_⟩,
    fun s a began kind r hh ht h hp => ?_,
    fun s a began kind x f hh ht h hp hnext h1 h2 h3 h4 h5 => ⟨fun r hk hb => ?_, fun n p hn hk hb => ?_⟩⟩
  · obtain ⟨t, he, k, hset, hrow⟩ := AnswersPoll.present ⟨hh, ht, h1, h2, h3, h4, h5, by rw [hb, hk]; rfl⟩ h hp
    rw [hb] at k hrow
    have hx := polled_polledRow (.lampPoll r) f.good x
    refine ⟨t, he, ?_, fun hg => ?_, fun hg => ?_, k.perf.trans (endPoll_lampPoll r f.good (endTransaction s)).perf, hset⟩
    · rw [hrow, Option.map_some, hx.present, hx.misses, polled_lampPoll, hp]
    · rw [hrow, Option.map_some, hx.badData, hg]; rfl
    · rw [hrow, Option.map_some, hx.badData, hg]; rfl
  · obtain ⟨t, he, -, hset, hrow⟩ := AnswersPoll.present ⟨hh, ht, h1, h2, h3, h4, h5, by rw [hb, hk]; simp [bodyFits, hn]⟩ h hp
    rw [hb] at hrow
    have hx := polled_polledRow (.callPoll n p) f.good x
    exact ⟨t, he, by rw [hrow, Option.map_some, hx.present, hx.misses, polled_callPoll, hp], hset⟩
  · obtain ⟨t, he, k⟩ := exec_poll_drawsNothing (.inr ⟨f, rfl, h5, rfl⟩) hh ht h hp
    have hx := unpolled_missedRow .garbled (began + s.settings.loop.pollPeriod * 10) hp
    refine ⟨t, he, k.settings, ?_⟩
    rw [k.row, Option.map_some, hx.present, hx.misses, hx.errors]; rfl
  · obtain ⟨t, he, k⟩ := exec_poll_drawsNothing (.inl ⟨rfl, rfl⟩) hh ht h hp
    have hx := unpolled_missedRow .noReply (began + s.settings.loop.pollPeriod * 10) hp
    refine ⟨t, he, k.settings, ?_, fun hm => ?_⟩
    · rw [k.row, Option.map_some, hx.present, hx.misses]
      by_cases hm : r.misses + 1 < 3 <;> simp only [hm, decide_true, decide_false, if_true, if_false]
    · rw [k.row]
      obtain ⟨hroom, habsent⟩ := hx.lost hm
      refine ⟨congrArg some hroom, congrArg some habsent, fun hl => ?_, k.call hm⟩
      have hdark := k.lamp hm hl
      exact ⟨hdark.unset, k.settings ▸ hdark.lamps⟩
  · obtain ⟨t, he, k⟩ := AnswersPoll.outcome ⟨hh, ht, h1, h2, h3, h4, h5, by rw [hb, hk]; rfl⟩
    rw [takeOutcome_lostPoll _ h hp, hb] at k
    obtain ⟨hset, b, hrow⟩ := lostOutcome_lampPoll (s := endTransaction s) r f.good h
    have hx := polled_polledRow b f.good x
    refine ⟨t, he, k.settings.trans hset, ?_⟩
    rw [k.rows, hrow, Option.map_some, hx.present, hx.misses, hx.nextPoll, hx.badData, hp, hnext]
  · obtain ⟨t, he, k⟩ := AnswersPoll.outcome ⟨hh, ht, h1, h2, h3, h4, h5, by rw [hb, hk]; simp [bodyFits, hn]⟩
    rw [takeOutcome_lostPoll _ h hp, hb] at k
    obtain ⟨hset, hrow⟩ := endPoll_row (s := endTransaction s) (.callPoll n p) f.good h
    have hx := polled_polledRow (.callPoll n p) f.good x
    have hrow : t.loop.row a = some (x.polled (.callPoll n p) f.good) := (k.rows a).trans hrow
    refine ⟨t, he, k.settings.trans hset, ?_⟩
    rw [hrow, Option.map_some, hx.present, hx.misses, hx.nextPoll, hx.badData, polled_callPoll, hp, hnext]

end Sys2Proof.Machine

/-! The loop's schedule (R165, R173 to R175): a POLL that comes due, the end of a survey period, and RETRAIN LOOP. -/

namespace Sys2Proof.Machine

section
variable {s : State}

/-! ## What the loop's work leaves of the schedule -/

/-- The Loop Master but for its lanes, its transaction and the probes that are due. -/
def Loop.schedule (u : Loop) : Loop :=
  { u.core with transaction := none, windowAt := 0, drives := false, sweepPosition := 0, sweepDue := false, reprobes := [] }

theorem startItem_schedule (lane : Lane) (i : LaneItem) (s : State) : (startItem lane i s).loop.schedule = s.loop.schedule := by
  unfold startItem; dsimp only
  cases lane <;> split <;> rfl

theorem takeWork_schedule (s : State) : (takeWork s).loop.schedule = s.loop.schedule := by
  unfold takeWork
  split
  · rfl
  split
  · exact startItem_schedule _ _ s
  split
  · rfl
  split
  · rename_i k _
    cases k <;> rfl
  split
  · exact startItem_schedule _ _ s
  · rfl

/-- R173 to R175: the end of an event leaves the survey, its period, the rate and the counts of check errors. -/
theorem settle_schedule (s : State) : (settle s).loop.schedule = s.loop.schedule := by
  obtain ⟨u, h, e⟩ := settle_lineWork s
  have hcore : u.loop.schedule = s.loop.schedule := by
    show u.loop.core.schedule = s.loop.core.schedule
    rw [show u.loop.core = s.loop.core from h.refreshes.core]
  rw [e]
  exact (takeWork_schedule u).trans hcore

/-- R164: while a transaction is on the loop the end of an event leaves all but the lanes. -/
theorem settle_busy_core (hb : s.loop.transaction ≠ none) : (settle s).loop.core = s.loop.core := by
  obtain ⟨u, h, e⟩ := settle_lineWork s
  have hcore : u.loop.core = s.loop.core := h.refreshes.core
  have hbusy : u.loop.transaction ≠ none := by
    show u.loop.core.transaction ≠ none
    rw [hcore]; exact hb
  rw [e, takeWork_of_busy u hbusy]
  exact hcore

/-! ## A POLL that comes due -/

theorem foldl_earlierPoll_same {p : Nat × Nat} (l : List (Nat × Nat)) (h : ∀ q ∈ l, q = p) : l.foldl earlierPoll (some p) = some p := by
  induction l with
  | nil => rfl
  | cons q l ih =>
    have hq : earlierPoll (some p) q = some p := by rw [h q List.mem_cons_self, earlierPoll, if_neg (Nat.lt_irrefl _)]
    rw [List.foldl_cons, hq]
    exact ih fun q hq => h q (List.mem_cons_of_mem _ hq)

/-- R165: a POLL that is due with no other is the one to be taken. -/
theorem duePoll_alone {u : Loop} {r : UnitRow} {now x : Nat} (hr : r ∈ u.rows) (hx : r.nextPoll = some x) (hle : x ≤ now)
    (halone : ∀ q ∈ u.rows, ∀ y, q.nextPoll = some y → q = r ∨ now < y) : u.duePoll now = some r.address := by
  have hall : ∀ p ∈ u.duePolls now, p = (r.address, x) := fun p hp => by
    obtain ⟨q, hq, ha, hy, hyn⟩ := mem_duePolls.1 hp
    obtain rfl | hlt := halone q hq _ hy
    · exact Prod.ext ha.symm (Option.some_inj.1 (hy.symm.trans hx))
    · exact absurd hlt (Nat.not_lt.2 hyn)
  have hmem : (r.address, x) ∈ u.duePolls now := mem_duePolls.2 ⟨r, hr, rfl, hx, hle⟩
  show ((u.duePolls now).foldl earlierPoll none).map (·.1) = some r.address
  cases hl : u.duePolls now with
  | nil => rw [hl] at hmem; cases hmem
  | cons p l =>
    rw [hl] at hall
    have hp := hall p List.mem_cons_self
    rw [List.foldl_cons, show earlierPoll none p = some p from rfl,
      foldl_earlierPoll_same l fun q hq => (hall q (List.mem_cons_of_mem _ hq)).trans hp.symm, hp]; rfl

theorem row_mem {u : Loop} {a : Nat} {r : UnitRow} (h : u.row a = some r) : r ∈ u.rows ∧ r.address = a :=
  ⟨List.mem_of_find?_eq_some h, by simpa using List.find?_some h⟩

theorem execPollDue_next {a x : Nat} {r : UnitRow} (h : s.awake) (hr : s.loop.row a = some r) (hx : r.nextPoll = some x) :
    exec (.pollDue a) s = .next (takeWork (mapClock (Clock.reach x) s)) := by
  show execPollDue a s = _
  rw [execPollDue, command_next _ h.1, hr]
  simp only [Option.bind_some, hx]
  rw [settle_clocked (t := mapClock (Clock.reach x) s) h.2 rfl rfl rfl rfl]

/-! ## The end of a survey period -/

theorem newPeriod_row (now length : Nat) (u : Loop) (a : Nat) :
    (u.newPeriod now length).row a = (u.row a).map fun r => { r with checkErrors := 0 } := by
  show (u.rows.map fun r => { r with checkErrors := 0 }).find? (fun r => r.address == a) = _
  rw [List.find?_map]; rfl

theorem newPeriod_absentRow (now length : Nat) (u : Loop) : (u.newPeriod now length).absentRow = u.absentRow := by
  funext a
  unfold Loop.absentRow
  rw [newPeriod_row]
  cases u.row a <;> rfl

theorem newPeriod_eligible (now length : Nat) (u : Loop) : (u.newPeriod now length).eligible = u.eligible := by
  funext i
  unfold Loop.eligible
  simp only [newPeriod_row]
  cases i.work with
  | set a c => dsimp only; cases u.row a <;> rfl
  | call | cancel => rfl

theorem newPeriod_duePoll (time now length : Nat) (u : Loop) : (u.newPeriod now length).duePoll time = u.duePoll time := by
  show (((u.rows.map fun r => { r with checkErrors := 0 }).filterMap _).foldl earlierPoll none).map (·.1) = _
  rw [List.filterMap_map]; rfl

/-- R173: the new period, with a sweep probe made due where one is wanted. -/
theorem endPeriod_eq (now length : Nat) (u : Loop) : u.endPeriod now length =
    { u.newPeriod now length with sweepDue := if u.survey.isNone ∧ u.nextSweep.isSome then true else u.sweepDue } := by
  have hsweep : (u.newPeriod now length).nextSweep = u.nextSweep := by rw [nextSweep_eq, newPeriod_absentRow, nextSweep_eq]; rfl
  unfold Loop.endPeriod; dsimp only
  rw [hsweep, show (u.newPeriod now length).survey = u.survey from rfl]
  split <;> rfl

theorem endPeriod_schedule (now length : Nat) (u : Loop) : (u.endPeriod now length).schedule = (u.newPeriod now length).schedule := by
  rw [endPeriod_eq]; rfl

theorem nextSweep_isSome {u : Loop} {a : Nat} (h : u.absentAt a) : u.nextSweep.isSome = true := by
  obtain ⟨hr, hab⟩ := (absentAt_iff u a).1 h
  rw [nextSweep_eq, List.find?_isSome]
  exact ⟨a, mem_sweepOrder.2 hr, hab⟩

theorem execSurveyPeriodEnd_next (hh : s.resetHeld = false) (hr : s.loop.state = .running) (hp : s.loop.periodBegan + s.loop.periodLength ≤ s.uptime) :
    exec .surveyPeriodEnd s = .next (settle (mapLoop (Loop.endPeriod s.uptime s.settings.loop.surveyPeriod) s)) := by
  show execSurveyPeriodEnd s = _
  rw [execSurveyPeriodEnd, command_next _ hh, if_pos ⟨hr, hp⟩]

/-- What the end of its event leaves of a new survey period. -/
structure BeginsPeriod (s t : State) : Prop where
  began : t.loop.periodBegan = s.uptime
  length : t.loop.periodLength = s.settings.loop.surveyPeriod
  errors : t.loop.checkErrors = 0
  rows : ∀ r ∈ t.loop.rows, r.checkErrors = 0
  perf : t.perf = s.perf
  sup : t.sup = s.sup

theorem settle_beginsPeriod (s : State) : BeginsPeriod s (settle (mapLoop (Loop.endPeriod s.uptime s.settings.loop.surveyPeriod) s)) := by
  have hl := (Leaves.refl (mapLoop (Loop.endPeriod s.uptime s.settings.loop.surveyPeriod) s)).settle
  have hs : (settle (mapLoop (Loop.endPeriod s.uptime s.settings.loop.surveyPeriod) s)).loop.schedule =
      (s.loop.newPeriod s.uptime s.settings.loop.surveyPeriod).schedule :=
    (settle_schedule _).trans (endPeriod_schedule ..)
  refine ⟨congrArg Loop.periodBegan hs, congrArg Loop.periodLength hs, congrArg Loop.checkErrors hs, fun r hr => ?_, hl.perf, hl.sup⟩
  have hrows : (settle (mapLoop (Loop.endPeriod s.uptime s.settings.loop.surveyPeriod) s)).loop.rows =
      s.loop.rows.map fun r => { r with checkErrors := 0 } := congrArg Loop.rows hs
  rw [hrows] at hr
  obtain ⟨x, -, rfl⟩ := List.mem_map.1 hr
  rfl

/-- R173: while a transaction is on the loop a sweep probe made due waits. -/
theorem settle_endPeriod_busy (now length : Nat) (hb : s.loop.transaction ≠ none) :
    (settle (mapLoop (Loop.endPeriod now length) s)).loop.core = (s.loop.endPeriod now length).core :=
  settle_busy_core (s := mapLoop (Loop.endPeriod now length) s) (by show (s.loop.endPeriod now length).transaction ≠ none; rw [endPeriod_eq]; exact hb)

/-- On an idle controller with a free loop in RUNNING no POLL is due, and no probe of an address newly expected. -/
theorem idle_undue (h : takeWork s = s) (hn : s.loop.transaction = none) (hr : s.loop.state = .running) :
    s.loop.urgent.find? s.loop.eligible = none ∧ s.loop.duePoll s.clock.now = none ∧ s.loop.reprobes = [] := by
  obtain ⟨hu, hp, -⟩ := idle_lanes h hn
  rw [if_neg (by simp [hr])] at hu
  refine ⟨hu, Option.eq_none_iff_forall_ne_some.2 fun a ha => ?_, List.eq_nil_iff_forall_not_mem.2 fun a ha => ?_⟩
  · rw [takeWork_poll hn hr hu ha] at h
    have hb : (startPoll a s).loop.transaction ≠ none := nofun
    exact hb (h ▸ hn)
  · obtain ⟨b, l, hl⟩ := List.exists_cons_of_ne_nil (List.ne_nil_of_mem ha)
    rw [Loop.nextProbe, hr, hl] at hp
    cases hp

/-- R173: a new period with a sweep probe due and the Scanner's path settled: the state in which the free loop takes its work. -/
def State.sweepDueIn (now length : Nat) (s : State) : State :=
  { s with loop := { s.loop.newPeriod now length with sweepDue := true }, scanner := s.scanner.settlePath s.settings }

/-- R173: on an idle controller with a free loop the sweep probe made due is begun at once. -/
theorem settle_endPeriod_sweeps {a : Nat} (now length : Nat) (hi : s.idle) (hn : s.loop.transaction = none) (hr : s.loop.state = .running)
    (hv : s.loop.survey = none) (h1 : 1 ≤ s.loop.sweepPosition) (h31 : s.loop.sweepPosition ≤ 31) (ha : s.loop.sweepsNext a) :
    (settle (mapLoop (Loop.endPeriod now length) s)).loop.transaction = some (.probe a .sweep) ∧
      (settle (mapLoop (Loop.endPeriod now length) s)).loop.sweepPosition = a ∧
      (settle (mapLoop (Loop.endPeriod now length) s)).loop.sweepDue = false := by
  obtain ⟨hroom, -, hwork, -⟩ := (idle_iff s).1 hi
  obtain ⟨hu, hp, hre⟩ := idle_undue hwork hn hr
  have hdue : s.loop.endPeriod now length = { s.loop.newPeriod now length with sweepDue := true } := by
    rw [endPeriod_eq, hv, nextSweep_isSome ha.1]; rfl
  have habsent : ∀ b, (s.loop.newPeriod now length).absentAt b ↔ s.loop.absentAt b := fun b => by
    rw [absentAt_iff, absentAt_iff, newPeriod_absentRow]
  have hnext : (s.loop.newPeriod now length).sweepsNext a := ⟨(habsent a).2 ha.1, fun b hb => ha.2 b ((habsent b).1 hb)⟩
  have hsettle : settle (mapLoop (Loop.endPeriod now length) s) = transmit (takeWork (s.sweepDueIn now length)) := by
    rw [mapLoop, hdue]
    exact settle_served _ hroom
  have hurgent : (s.sweepDueIn now length).loop.urgent.find? (s.sweepDueIn now length).loop.eligible = none := by
    show s.loop.urgent.find? (s.loop.newPeriod now length).eligible = none
    rw [newPeriod_eligible]; exact hu
  have hpoll := (newPeriod_duePoll s.clock.now now length s.loop).trans hp
  have k := takeWork_takesProbe (s := s.sweepDueIn now length) hn hr hurgent hpoll
  rw [hsettle]
  exact k.sweep a hre hv rfl h1 h31 hnext

/-! ## RETRAIN LOOP -/

/-- R174, R175: the loop brought back to FAST. -/
def resumeFast (s : State) : State :=
  if s.loop.rate = .slow then clearFault .loop .loopRateFallback (loopNotice .rateFast (mapLoop (fun u => { u with rate := .fast }) s)) else s

/-- R174: a full survey begun, or the one that runs told of one more request. -/
def Loop.retrained (now length : Nat) (u : Loop) : Loop :=
  { u.newPeriod now length with
    survey := some (match u.survey with
      | some v => { v with retrains := v.retrains + 1 }
      | none => ⟨.retrain, 1, 0, 1⟩) }

theorem retrain_eq (s : State) :
    retrain s = mapLoop (Loop.retrained (resumeFast s).uptime (resumeFast s).settings.loop.surveyPeriod) (resumeFast s) := rfl

theorem Spares.resumeFast {s0 : State} (h : Spares s0 s) : Spares s0 (Machine.resumeFast s) := by
  unfold Machine.resumeFast; split
  · exact Spares.clearFault _ _ ((h.mapLoop _).notify _ _)
  · exact h

theorem resumeFast_eq (s : State) : ∃ u q, resumeFast s = { s with loop := { s.loop with rate := .fast }, sup := u, ports := q } := by
  unfold resumeFast; split
  · obtain ⟨r, hr⟩ := notify_eq (mapLoop (fun u => { u with rate := .fast }) s) .loop .rateFast
    obtain ⟨u, q, e⟩ := clearFault_eq .loop .loopRateFallback { mapLoop (fun u => { u with rate := .fast }) s with ports := r }
    exact ⟨u, q, by rw [loopNotice, hr, e]; rfl⟩
  · rename_i hr
    have hfast : s.loop.rate = .fast := by
      cases h : s.loop.rate with
      | fast => rfl
      | slow => exact absurd h hr
    exact ⟨s.sup, s.ports, by rw [← hfast]⟩

theorem Spares.retrain {s0 : State} (h : Spares s0 s) : Spares s0 (Machine.retrain s) := by
  rw [retrain_eq]; exact h.resumeFast.mapLoop _

/-- What RETRAIN LOOP makes of the loop and leaves of the rest. -/
structure Retrains (s t : State) : Prop where
  rate : t.loop.rate = .fast
  survey : t.loop.survey = some (match s.loop.survey with
    | some v => { v with retrains := v.retrains + 1 }
    | none => ⟨.retrain, 1, 0, 1⟩)
  errors : t.loop.checkErrors = 0
  perf : t.perf = s.perf
  settings : t.settings = s.settings

theorem settle_retrains (s : State) : Retrains s (settle (retrain s)) := by
  have hl := (Leaves.refl (retrain s)).settle
  have hs := settle_schedule (retrain s)
  obtain ⟨u, q, e⟩ := resumeFast_eq s
  rw [retrain_eq, e] at hl hs ⊢
  exact ⟨congrArg Loop.rate hs, congrArg Loop.survey hs, congrArg Loop.checkErrors hs, hl.perf, hl.settings⟩

end

/-! ## Settled -/

/-- Settles O53: the due POLL, the period by whether the loop is free, and RETRAIN LOOP. -/
theorem loopScheduleGoesOn : Obligations.LoopScheduleGoesOn := by
  refine ⟨fun s a x r h hr hx => ⟨fun hb => ?_, fun hn hrun hu halone hlt => ?_⟩, fun s hh hr hp => ?_, fun s tag hh ho => ?_⟩
  · rw [execPollDue_next h hr hx, takeWork_of_busy (mapClock (Clock.reach x) s) hb]; rfl
  · obtain ⟨hmem, ha⟩ := row_mem hr
    have hnow : (mapClock (Clock.reach x) s).clock.now = x := max_eq_right hlt.le
    have hdue : s.loop.duePoll (mapClock (Clock.reach x) s).clock.now = some a := by
      rw [hnow, duePoll_alone hmem hx le_rfl halone, ha]
    rw [execPollDue_next h hr hx, takeWork_poll (s := mapClock (Clock.reach x) s) hn hrun hu hdue]
    refine ⟨_, rfl, ?_, ?_, rfl, rfl, rfl⟩
    · exact congrArg (fun n => some (Transaction.poll a (s.settings.loopRow a).expected n)) hnow
    · exact congrArg (fun n => { s.clock with now := n }) hnow
  · have k := settle_beginsPeriod s
    refine ⟨_, execSurveyPeriodEnd_next hh hr hp, k.began, k.length, k.errors, k.rows, k.perf, k.sup, fun hb => ?_, fun hn hi hv h1 h31 a ha => ?_⟩
    · have hcore := settle_endPeriod_busy s.uptime s.settings.loop.surveyPeriod hb
      rw [endPeriod_eq] at hcore
      have htransaction := congrArg Loop.transaction hcore
      have hposition := congrArg Loop.sweepPosition hcore
      have hdue := congrArg Loop.sweepDue hcore
      refine ⟨htransaction, hposition, fun hv ⟨a, ha⟩ => hdue.trans ?_, fun hs => hdue.trans ?_⟩
      · exact if_pos ⟨by rw [hv]; rfl, nextSweep_isSome ha⟩
      · refine if_neg fun ⟨hnone, hsome⟩ => ?_
        obtain hv | habs := hs
        · exact hv (Option.isNone_iff_eq_none.1 hnone)
        · rw [nextSweep_none habs] at hsome; cases hsome
    · exact settle_endPeriod_sweeps _ _ hi hn hr hv h1 h31 ha
  · have k := settle_retrains (accept .stage tag s)
    have hreply : OutFrame.reply tag .accepted ∈ ((accept .stage tag s).port .stage).queue := reply_mem .stage tag .accepted s (owes_of_owns ho)
    have hqueue := ((Spares.refl (accept .stage tag s)).retrain.settle.queues .stage).subset
    refine ⟨_, ?_, hqueue hreply, k.rate, k.survey, k.errors, k.perf, k.settings⟩
    show execRetrainLoop .stage tag s = _
    rw [execRetrainLoop, stageRequest_taken (gate := fun _ => none) hh ho rfl]

end Sys2Proof.Machine

/-! What the blocks leave of how far start-up has come (R195): its step and uptime, the loop's state and its survey, that the Scanner scans, and that the curtain is resolved. One lemma per function, in the form that backward chaining uses. -/

namespace Sys2Proof.Machine

/-- How far start-up has come, but for the curtain. -/
def State.progress (s : State) : StartStep × Nat × LoopState × Option Survey × Bool :=
  (s.startStep, s.uptime, s.loop.state, s.loop.survey, s.scanner.scanning)

/-- Start-up stands where it stood, and a resolved curtain is resolved still. -/
structure HoldsStart (s t : State) : Prop where
  progress : t.progress = s.progress
  resolved : s.curtain.resolved = true → t.curtain.resolved = true

theorem HoldsStart.refl (s : State) : HoldsStart s s := ⟨rfl, id⟩

theorem HoldsStart.trans {a b c : State} (h : HoldsStart a b) (k : HoldsStart b c) : HoldsStart a c :=
  ⟨k.progress.trans h.progress, fun hr => k.resolved (h.resolved hr)⟩

section
variable {s0 s t : State}

/-- A change of nothing that start-up is told by. -/
theorem HoldsStart.same (h : HoldsStart s0 s) (hp : t.progress = s.progress := by rfl) (hc : t.curtain.resolved = s.curtain.resolved := by rfl) :
    HoldsStart s0 t := h.trans ⟨hp, fun hr => hc.trans hr⟩

theorem HoldsStart.foldl {α : Type} (g : State → α → State) (hg : ∀ {s0 s : State} (a : α), HoldsStart s0 s → HoldsStart s0 (g s a)) (l : List α) :
    ∀ {s : State}, HoldsStart s0 s → HoldsStart s0 (l.foldl g s) := by
  induction l with
  | nil => exact id
  | cons a l ih => exact fun h => ih (hg a h)

theorem HoldsStart.mapCurtain (f : Curtain → Curtain) (h : HoldsStart s0 s)
    (hf : s.curtain.resolved = true → (f s.curtain).resolved = true := by exact id) : HoldsStart s0 (Machine.mapCurtain f s) :=
  h.trans ⟨rfl, hf⟩

theorem progress_of_core {u : Loop} (hu : u.core = s.loop.core) : ({ s with loop := u } : State).progress = s.progress := by
  have hstate : u.core.state = s.loop.core.state := by rw [hu]
  have hsurvey : u.core.survey = s.loop.core.survey := by rw [hu]
  exact congrArg₂ (fun a b => (s.startStep, s.uptime, a, b, s.scanner.scanning)) hstate hsurvey

/-- A change of the lanes. -/
theorem HoldsStart.withLanes (u : Loop) (h : HoldsStart s0 s) (hu : u.core = s.loop.core) : HoldsStart s0 { s with loop := u } :=
  h.trans ⟨progress_of_core hu, id⟩

/-- A change of the lamps and the lanes. -/
theorem HoldsStart.onField (f : Field → Field) (h : HoldsStart s0 s) (hf : (f s.field).loop.core = s.loop.core) :
    HoldsStart s0 (Machine.onField f s) := (h.withLanes _ hf).same

theorem Refreshes.changeLamps (ns : List Nat) (g : Nat → Lamp → Lamp) (f : Field) : Refreshes f (f.changeLamps ns g) :=
  Refreshes.foldl (fun f n => .changeLamp n _ f) ns f

theorem HoldsStart.placeFlash (ns : List Nat) (h : HoldsStart s0 s) : HoldsStart s0 (Machine.onField (Field.placeFlash ns) s) :=
  h.onField _ (Refreshes.placeFlash ns _).core

theorem HoldsStart.removeFlash (ns : List Nat) (h : HoldsStart s0 s) : HoldsStart s0 (Machine.onField (Field.removeFlash ns) s) :=
  h.onField _ (Refreshes.changeLamps ns _ _).core

theorem HoldsStart.enterPhase (new previous : Phase) (clears : Bool) (h : HoldsStart s0 s) :
    HoldsStart s0 (Machine.onField (Field.enterPhase new previous clears) s) := h.onField _ (Refreshes.changeLamps s.field.numbers _ _).core

theorem HoldsStart.of_table (h : TableWork s t) : HoldsStart s t :=
  ⟨h.view (fun u : State => (u.startStep, u.uptime, u.loop.state, u.loop.survey, u.scanner.scanning)), fun hr => by rw [h.curtain]; exact hr⟩

/-! ## Notices and faults -/

theorem HoldsStart.placeOn (p : Port) (f : Family) (n : Notice) (h : HoldsStart s0 s) : HoldsStart s0 (Machine.placeOn p f n s) := by
  obtain ⟨q, e⟩ := placeOn_eq s p f n
  rw [e]; exact h.same

theorem HoldsStart.notify (f : Family) (n : Notice) (h : HoldsStart s0 s) : HoldsStart s0 (Machine.notify f n s) := (h.placeOn _ _ _).placeOn _ _ _

theorem HoldsStart.notifyAlways (n : Notice) (h : HoldsStart s0 s) : HoldsStart s0 (Machine.notifyAlways n s) := by
  obtain ⟨q, e⟩ := notifyAlways_eq n s
  rw [e]; exact h.same

theorem HoldsStart.raiseFault (src : FaultSource) (k : FaultKind) (h : HoldsStart s0 s) : HoldsStart s0 (Machine.raiseFault src k s) := by
  obtain ⟨u, q, e⟩ := raiseFault_eq src k s
  rw [e]; exact h.same

theorem HoldsStart.raiseCurtainFault (k : FaultKind) (h : HoldsStart s0 s) : HoldsStart s0 (Machine.raiseCurtainFault k s) :=
  (h.mapCurtain _).raiseFault _ _

/-! ## The performance record -/

theorem HoldsStart.noticeClearanceEnd (w : ClearanceName) (was : Option Nat) (c : PhaseChange) (h : HoldsStart s0 s) :
    HoldsStart s0 (Machine.noticeClearanceEnd w was c s) := by
  unfold Machine.noticeClearanceEnd; split
  exacts [h.notify _ _, h]

theorem HoldsStart.noticeCountdownClear (w : CountdownName) (b : Bool) (was : Option Nat) (h : HoldsStart s0 s) :
    HoldsStart s0 (Machine.noticeCountdownClear w b was s) := by
  unfold Machine.noticeCountdownClear; split
  exacts [h.notify _ _, h]

theorem HoldsStart.noticeCountdownStart (w : CountdownName) (n : Option Nat) (h : HoldsStart s0 s) :
    HoldsStart s0 (Machine.noticeCountdownStart w n s) := by
  unfold Machine.noticeCountdownStart; split
  · exact h
  · dsimp only; split
    exacts [(h.notify _ _).notify _ _, h.notify _ _]

theorem HoldsStart.enterRecord (c : PhaseChange) (h : HoldsStart s0 s) : HoldsStart s0 (Machine.enterRecord c s) := by
  have hr : HoldsStart s0 { s with perf := s.perf.after c s.uptime } := h.same
  exact ((((((hr.notify _ _).noticeClearanceEnd _ _ _).noticeClearanceEnd _ _ _).noticeCountdownClear _ _ _).noticeCountdownClear
    _ _ _).noticeCountdownStart _ _).noticeCountdownStart _ _

theorem HoldsStart.curtainDeparture (h : HoldsStart s0 s) : HoldsStart s0 (Machine.curtainDeparture s) := by
  unfold Machine.curtainDeparture; split
  exacts [(h.enterRecord _).enterPhase _ _ _, h]

/-! ## The curtain's change of state -/

theorem HoldsStart.placeWarning (h : HoldsStart s0 s) : HoldsStart s0 (Machine.placeWarning s) :=
  (h.mapCurtain _).placeFlash _

theorem HoldsStart.judgeWarning (new previous : CurtainState) (h : HoldsStart s0 s) : HoldsStart s0 (Machine.judgeWarning new previous s) := by
  unfold Machine.judgeWarning; split
  · exact h.placeWarning
  split
  · exact (h.removeFlash _).mapCurtain _
  · exact h

theorem HoldsStart.shiftCurtain (new : CurtainState) (h : HoldsStart s0 s) : HoldsStart s0 (Machine.shiftCurtain new s) := by
  unfold Machine.shiftCurtain; dsimp only
  refine HoldsStart.judgeWarning _ _ ?_
  split
  · exact (h.mapCurtain _ fun _ => rfl).curtainDeparture
  · exact h.mapCurtain _ fun _ => rfl

theorem HoldsStart.enterCurtain (new : CurtainState) (cause : CurtainCause) (mid : State → State) (h : HoldsStart s0 s)
    (hmid : ∀ {s : State}, HoldsStart s0 s → HoldsStart s0 (mid s)) : HoldsStart s0 (Machine.enterCurtain new cause mid s) := by
  unfold Machine.enterCurtain; dsimp only; split
  · exact h
  · exact (hmid (h.shiftCurtain new)).notify _ _

theorem HoldsStart.abandonFields (r : AbandonReason) (h : HoldsStart s0 s) : HoldsStart s0 (Machine.abandonFields r s) := by
  unfold Machine.abandonFields; split
  exacts [h, (h.mapCurtain _).notify _ _]

theorem HoldsStart.judgeDisplayLowering (h : HoldsStart s0 s) : HoldsStart s0 (Machine.judgeDisplayLowering s) := by
  unfold Machine.judgeDisplayLowering
  split_ifs
  · exact h.abandonFields _
  · exact h.abandonFields _
  · exact h.abandonFields _
  · exact h.abandonFields _
  · exact (h.mapCurtain _).enterCurtain _ _ _ id

/-! ## The call line -/

theorem HoldsStart.mapCalls (f : Calls → Calls) (h : HoldsStart s0 s) : HoldsStart s0 (Machine.mapCalls f s) := h.same

theorem HoldsStart.outcomeNotice (out : CallOutcome) (o : Order) (h : HoldsStart s0 s) : HoldsStart s0 (Machine.outcomeNotice out o s) := by
  unfold Machine.outcomeNotice callNotice; split
  · exact h.placeOn _ _ _
  · exact h.placeOn _ _ _
  all_goals exact h.notify _ _

theorem HoldsStart.handOutcome (g : CallOrigin) (tag : Nat) (out : CallOutcome) (h : HoldsStart s0 s) :
    HoldsStart s0 (Machine.handOutcome g tag out s) := by
  cases g with
  | stage | front | sequencer => exact h
  | alarm => exact h.same
  | curtain =>
    show HoldsStart s0 (announcementOutcome tag out s)
    unfold announcementOutcome; dsimp only
    split_ifs
    exacts [(h.mapCurtain _).judgeDisplayLowering, h.mapCurtain _, h]

theorem HoldsStart.endOrder (out : CallOutcome) (o : Order) (h : HoldsStart s0 s) : HoldsStart s0 (Machine.endOrder out o s) := by
  unfold Machine.endOrder; dsimp only
  refine ((HoldsStart.mapCalls _ ?_).handOutcome _ _ _).outcomeNotice _ _
  split
  · exact (h.withLanes _ (Lanes.placeCancel (fun _ => True) _ s.loop).core).mapCalls _
  · exact h

theorem HoldsStart.arbitrateFuel (k : Nat) : ∀ {s : State}, HoldsStart s0 s → HoldsStart s0 (Machine.arbitrateFuel k s) := by
  induction k with
  | zero => exact id
  | succ k ih =>
    intro s h
    unfold Machine.arbitrateFuel; dsimp only
    split
    · exact h
    split
    · exact h
    split
    · exact ih (h.endOrder _ _)
    split
    · exact ((h.withLanes _ (Lanes.placeCall (fun _ => True) _ _ s.loop).core).mapCalls _).notify _ _
    · exact h

theorem HoldsStart.arbitrate (h : HoldsStart s0 s) : HoldsStart s0 (Machine.arbitrate s) := h.arbitrateFuel _

theorem HoldsStart.contend (h : HoldsStart s0 s) : HoldsStart s0 (Machine.contend s) := by
  unfold Machine.contend; split
  · exact h.arbitrate
  split
  exacts [(h.endOrder _ _).arbitrate, h]

theorem HoldsStart.enqueue (o : Order) (h : HoldsStart s0 s) : HoldsStart s0 (Machine.enqueue o s) := (h.mapCalls _).contend

theorem HoldsStart.placeEvac (h : HoldsStart s0 s) : HoldsStart s0 (Machine.placeEvac s) := by
  unfold Machine.placeEvac; dsimp only
  refine HoldsStart.enqueue _ ?_
  split
  · exact h
  split
  exacts [h.endOrder _ _, h]

theorem HoldsStart.placeStaff (x : Target) (message : Nat) (h : HoldsStart s0 s) : HoldsStart s0 (Machine.placeStaff x message s) := by
  unfold Machine.placeStaff; split
  · exact h.enqueue _
  split
  · exact (h.endOrder _ _).enqueue _
  · exact ((h.mapCalls _).handOutcome _ _ _).outcomeNotice _ _

theorem HoldsStart.withdrawOrder (o : Order) (h : HoldsStart s0 s) : HoldsStart s0 (Machine.withdrawOrder o s) := by
  unfold Machine.withdrawOrder; split
  exacts [h.mapCalls _, h.endOrder _ _]

theorem HoldsStart.withdrawIds (ids : List Nat) (h : HoldsStart s0 s) : HoldsStart s0 (Machine.withdrawIds ids s) := by
  have hf := HoldsStart.foldl (fun s id => match s.calls.order id with
    | some o => Machine.withdrawOrder o s
    | none => s) (fun _ h => by split; exacts [h.withdrawOrder _, h]) ids h
  unfold Machine.withdrawIds; dsimp only; split
  exacts [hf.arbitrate, hf]

theorem HoldsStart.withdrawInternal (g : CallOrigin) (tag : Nat) (h : HoldsStart s0 s) : HoldsStart s0 (Machine.withdrawInternal g tag s) :=
  h.withdrawIds _

theorem HoldsStart.cutEvac (tag : Nat) (h : HoldsStart s0 s) : HoldsStart s0 (Machine.cutEvac tag s) := by
  unfold Machine.cutEvac finishOrder; split
  · split
    exacts [(h.endOrder _ _).arbitrate, h.endOrder _ _]
  · exact h

theorem HoldsStart.placePlanEntry (w : CountdownName) (start : Nat) (e : Option PlanEntry × Nat) (h : HoldsStart s0 s) :
    HoldsStart s0 (Machine.placePlanEntry w start s e) := by
  unfold Machine.placePlanEntry; split
  · exact h
  split_ifs
  exacts [h, h.enqueue _, h.notify _ _]

theorem HoldsStart.callsPhaseEntry (new : Phase) (h : HoldsStart s0 s) : HoldsStart s0 (Machine.callsPhaseEntry new s) := by
  unfold Machine.callsPhaseEntry discardIds; split
  · refine (HoldsStart.foldl _ (fun _ h => ?_) _ h).arbitrate
    split
    exacts [h.endOrder _ _, h]
  · exact h

theorem HoldsStart.endRepetition (o : Order) (h : HoldsStart s0 s) : HoldsStart s0 (Machine.endRepetition o s) := by
  unfold Machine.endRepetition; split
  · exact h
  rename_i n _
  have hover := (h.withLanes _ (Lanes.removeCall (fun _ => True) n s.loop).core).mapCalls
    (fun u => { u.change o.id (fun _ => { o with done := satSucc 255 o.done, state := .due o.since }) with repetition := none })
  dsimp only
  split_ifs
  exacts [(hover.endOrder _ _).arbitrate, (hover.endOrder _ _).arbitrate, hover.arbitrate]

theorem HoldsStart.callUnitGone (a : Nat) (h : HoldsStart s0 s) : HoldsStart s0 (Machine.callUnitGone a s) := by
  unfold Machine.callUnitGone judgeRepetition; dsimp only
  split
  · split
    · split
      · split
        exacts [((h.mapCalls _).mapCalls _).endRepetition _, (h.mapCalls _).mapCalls _]
      · exact (h.mapCalls _).mapCalls _
    · exact h.mapCalls _
  · exact h.mapCalls _

/-! ## A change of phase -/

theorem HoldsStart.handClear (w : CountdownName) (b : Bool) (was : Option Nat) (h : HoldsStart s0 s) :
    HoldsStart s0 (Machine.handClear w b was s) := by
  unfold Machine.handClear; split
  exacts [(h.mapCalls _).withdrawIds _, h]

theorem HoldsStart.handStart (w : CountdownName) (n : Option Nat) (h : HoldsStart s0 s) : HoldsStart s0 (Machine.handStart w n s) := by
  unfold Machine.handStart; split
  · exact h
  · exact HoldsStart.foldl _ (fun _ h => h.placePlanEntry _ _ _) _ (h.mapCalls _).contend

theorem HoldsStart.changePhase (c : PhaseChange) (h : HoldsStart s0 s) : HoldsStart s0 (Machine.changePhase c s) :=
  ((((((h.enterRecord c).handClear _ _ _).handClear _ _ _).callsPhaseEntry _).enterPhase _ _ _).handStart _ _).handStart _ _

theorem HoldsStart.claimEvacuation (h : HoldsStart s0 s) : HoldsStart s0 (Machine.claimEvacuation s) := by
  unfold Machine.claimEvacuation; split
  exacts [h, h.changePhase _]

/-! ## The release timer and the drop -/

theorem HoldsStart.abandonDisplay (r : AbandonReason) (h : HoldsStart s0 s) : HoldsStart s0 (Machine.abandonDisplay r s) := by
  unfold Machine.abandonDisplay; split
  · exact h
  · dsimp only
    refine HoldsStart.notify _ _ ?_
    split
    exacts [(h.mapCurtain _).withdrawInternal _ _, h.mapCurtain _]

theorem HoldsStart.idleTimer (n : Notice) (h : HoldsStart s0 s) : HoldsStart s0 (Machine.idleTimer n s) := by
  unfold Machine.idleTimer; split
  exacts [h, (h.mapCurtain _).notify _ _]

theorem HoldsStart.dropTimer (cause : DropCause) (h : HoldsStart s0 s) : HoldsStart s0 (Machine.dropTimer cause s) := by
  unfold Machine.dropTimer
  cases cause with
  | release | graceEnd => exact h.mapCurtain _
  | emergency | test | startUp => exact h.idleTimer _

theorem HoldsStart.beginDrop (cause : DropCause) (faults : State → State) (h : HoldsStart s0 s)
    (hf : ∀ {s : State}, HoldsStart s0 s → HoldsStart s0 (faults s)) : HoldsStart s0 (Machine.beginDrop cause faults s) := by
  unfold Machine.beginDrop; split
  · exact h.idleTimer _
  · exact h.enterCurtain _ _ _ fun h => ((hf (h.mapCurtain _)).dropTimer _).abandonDisplay _

theorem HoldsStart.judgeEmergency (h : HoldsStart s0 s) : HoldsStart s0 (Machine.judgeEmergency s) := by
  unfold Machine.judgeEmergency; split
  exacts [h.beginDrop _ _ id, h]

theorem HoldsStart.endGrace (h : HoldsStart s0 s) : HoldsStart s0 (Machine.endGrace s) := h.beginDrop _ _ fun h => h.raiseCurtainFault _

theorem HoldsStart.expireRelease (h : HoldsStart s0 s) : HoldsStart s0 (Machine.expireRelease s) := by
  have hn : HoldsStart s0 (curtainNotice (.releaseExpired s.lines.obstructed) s) := h.notify _ _
  unfold Machine.expireRelease; dsimp only
  split_ifs
  · exact hn.idleTimer _
  · exact (hn.mapCurtain _).endGrace
  · exact hn.mapCurtain _
  · exact hn.beginDrop _ _ id

theorem HoldsStart.startRelease (zone : Nat) (h : HoldsStart s0 s) : HoldsStart s0 (Machine.startRelease zone s) := by
  have hstarted : HoldsStart s0 (startTimer zone s) := (h.mapCurtain _).notify _ _
  unfold Machine.startRelease expireAtOnce; split
  exacts [hstarted.expireRelease, hstarted]

theorem HoldsStart.curtainTrigger (zone : Nat) (h : HoldsStart s0 s) : HoldsStart s0 (Machine.curtainTrigger zone s) := by
  have habandoned := h.abandonDisplay .alarm
  unfold Machine.curtainTrigger; dsimp only
  split_ifs
  exacts [habandoned.notify _ _, habandoned, habandoned.startRelease _, habandoned]

/-! ## The Alarm Unit -/

theorem HoldsStart.mapAlarm (f : AlarmUnit → AlarmUnit) (h : HoldsStart s0 s) : HoldsStart s0 (Machine.mapAlarm f s) := h.same

theorem HoldsStart.abortStore (zone : Nat) (h : HoldsStart s0 s) : HoldsStart s0 (Machine.abortStore zone s) := by
  obtain ⟨u, q, e⟩ := abortStore_eq zone s
  rw [e]; exact h.same

theorem HoldsStart.refreshPresented (h : HoldsStart s0 s) : HoldsStart s0 (Machine.refreshPresented s) := by
  obtain ⟨l, q, e⟩ := refreshPresented_eq s
  rw [e]; exact h.same

theorem HoldsStart.soundAlarm (h : HoldsStart s0 s) : HoldsStart s0 (Machine.soundAlarm s) := by
  unfold Machine.soundAlarm; dsimp only; split
  exacts [h.mapAlarm _, ((h.mapAlarm _).mapAlarm _).placeEvac]

theorem HoldsStart.soundStep (fresh : Bool) (h : HoldsStart s0 s) : HoldsStart s0 (Machine.soundStep fresh s) := by
  unfold Machine.soundStep; split
  · exact h
  all_goals exact h.soundAlarm

theorem HoldsStart.withdrawStaff (e : AlarmEntry) (h : HoldsStart s0 s) : HoldsStart s0 (Machine.withdrawStaff e s) := by
  unfold Machine.withdrawStaff; split
  exacts [h.withdrawInternal _ _, h]

theorem HoldsStart.generalHandOffs (e : AlarmEntry) (fresh : Bool) (h : HoldsStart s0 s) : HoldsStart s0 (Machine.generalHandOffs e fresh s) := by
  have hsound := ((h.claimEvacuation.withdrawStaff e).mapAlarm fun u => { u with relay := true }).soundStep fresh
  unfold Machine.generalHandOffs; dsimp only; split
  exacts [hsound.curtainTrigger _, hsound]

theorem HoldsStart.makeGeneral (fresh : Bool) (zone : Nat) (h : HoldsStart s0 s) : HoldsStart s0 (Machine.makeGeneral fresh s zone) := by
  unfold Machine.makeGeneral; split
  · exact h
  · exact ((h.mapAlarm _).mapAlarm _).generalHandOffs _ _

theorem HoldsStart.takeAlarm (n zone : Nat) (type : ChannelType) (h : HoldsStart s0 s) : HoldsStart s0 (Machine.takeAlarm n zone type s) := by
  have hd : HoldsStart s0 (disturb s) := h.mapAlarm _
  unfold Machine.takeAlarm; dsimp only; split
  · unfold newGeneral newStaffAlert; dsimp only; split
    · refine HoldsStart.generalHandOffs _ _ ?_
      exact HoldsStart.foldl _ (fun zone h => h.makeGeneral false zone) _ (((hd.mapAlarm _).mapAlarm _).abortStore zone)
    · exact ((hd.mapAlarm _).abortStore zone).placeStaff _ _
  · split
    exacts [hd.mapAlarm _, (hd.mapAlarm _).makeGeneral _ _]

theorem HoldsStart.takeStandDown (zone : Nat) (inAlarm : List Nat) (h : HoldsStart s0 s) : HoldsStart s0 (Machine.takeStandDown zone inAlarm s) := by
  unfold Machine.takeStandDown; split
  · exact h
  split_ifs
  exacts [(h.mapAlarm _).notifyAlways _, (h.mapAlarm _).makeGeneral _ _, h]

theorem HoldsStart.resetSucceeds (h : HoldsStart s0 s) : HoldsStart s0 (Machine.resetSucceeds s) := by
  have hempty : HoldsStart s0 (emptyAlarms s) := h.same
  have hcut : HoldsStart s0 (cutHeldEvac (emptyAlarms s)) := by
    unfold cutHeldEvac; split
    exacts [hempty.cutEvac _, hempty]
  rw [resetSucceeds_eq]
  exact ((hcut.idleTimer _).notifyAlways _).mapAlarm _

theorem HoldsStart.takeReset (inAlarm : List Nat) (h : HoldsStart s0 s) : HoldsStart s0 (Machine.takeReset inAlarm s) := by
  unfold Machine.takeReset; split
  · exact h
  split
  exacts [h.resetSucceeds, (h.notifyAlways _).mapAlarm _]

theorem HoldsStart.takeReport (r : ScanReport) (h : HoldsStart s0 s) : HoldsStart s0 (Machine.takeReport s r) := by
  cases r with
  | alarm n zone type mark => exact h.takeAlarm n zone type
  | outOfAlarm n zone => exact h.same
  | result p inAlarm =>
    cases p with
    | standDown zone => exact h.takeStandDown zone inAlarm
    | alarmReset => exact h.takeReset inAlarm

theorem HoldsStart.handReports (l : List ScanReport) (h : HoldsStart s0 s) : HoldsStart s0 (Machine.handReports l s) := by
  unfold Machine.handReports; split
  · exact HoldsStart.foldl _ (fun r h => h.takeReport r) l h
  · exact h.same

/-! ## The unit table -/

theorem HoldsStart.loopNotice (n : Notice) (h : HoldsStart s0 s) : HoldsStart s0 (Machine.loopNotice n s) := h.notify _ _

theorem HoldsStart.raiseUnitFault (a : Nat) (k : FaultKind) (h : HoldsStart s0 s) : HoldsStart s0 (Machine.raiseUnitFault a k s) :=
  h.trans (.of_table (.raiseUnitFault a k s))

theorem HoldsStart.reportAbsence (a : Nat) (e : UnitKind) (h : HoldsStart s0 s) : HoldsStart s0 (Machine.reportAbsence a e s) := by
  cases e with
  | lamp => exact h.onField _ rfl
  | call => exact h.callUnitGone a
  | none => exact h

theorem HoldsStart.reportPresence (a : Nat) (outputs : Option Nat) (h : HoldsStart s0 s) : HoldsStart s0 (Machine.reportPresence a outputs s) := by
  unfold Machine.reportPresence; split
  · exact h.onField _ (present_core a _ _).2
  · unfold callUnitPresent; split
    exacts [h, h.mapCalls _]
  · exact h

theorem HoldsStart.miss (a : Nat) (h : HoldsStart s0 s) : HoldsStart s0 (Machine.miss a s) := by
  have hlose : HoldsStart s0 (mapLoop (Loop.lose a) s) := h.same
  unfold Machine.miss; split
  · exact h
  split
  · split
    · exact ((hlose.raiseUnitFault a .unitAbsent).reportAbsence a _).loopNotice _
    · exact h.trans (.of_table (.mapRow ..))
  · exact h

theorem HoldsStart.takeNothing (a : Nat) (o : LoopOutcome) (h : HoldsStart s0 s) : HoldsStart s0 (Machine.takeNothing a o s) := by
  cases hr : s.loop.row a with
  | none => rw [Machine.takeNothing, hr]; exact h
  | some r =>
    cases hp : r.present with
    | false => exact h.trans (.of_table (takeNothing_absent o hr hp).1)
    | true =>
      rw [Machine.takeNothing, hr]
      simp only [hp, if_true]
      refine HoldsStart.miss a ?_
      split
      exacts [h.trans (.of_table (recordKind_work a .none s)), h]

theorem HoldsStart.raiseMissing (a : Nat) (h : HoldsStart s0 s) : HoldsStart s0 (Machine.raiseMissing s a) := by
  unfold Machine.raiseMissing; split
  exacts [h, h.raiseUnitFault _ _]

theorem HoldsStart.handPresence (a : Nat) (h : HoldsStart s0 s) : HoldsStart s0 (Machine.handPresence s a) := by
  unfold Machine.handPresence; split
  exacts [h, h.reportPresence _ _]

/-! ## The end of an event -/

theorem HoldsStart.serveRoom (k : Nat) : ∀ {s : State}, HoldsStart s0 s → HoldsStart s0 (Machine.serveRoom k s) := by
  induction k with
  | zero => exact fun h => h.same
  | succ k ih =>
    intro s h
    have hserved : HoldsStart s0 (mapLoop (fun u => { u with roomOwed := false }) s) := h.same
    unfold Machine.serveRoom; split
    · exact ih (hserved.onField Field.rehand (Refreshes.rehandList _ _).core).arbitrate
    · exact h

theorem HoldsStart.settle (h : HoldsStart s0 s) : HoldsStart s0 (Machine.settle s) := by
  have hs := settle_schedule s
  have hl := (Leaves.refl s).settle
  refine h.trans ⟨?_, fun hr => ?_⟩
  · have hstate : (Machine.settle s).loop.state = s.loop.state := (congrArg Loop.state hs :)
    have hsurvey : (Machine.settle s).loop.survey = s.loop.survey := (congrArg Loop.survey hs :)
    unfold State.progress
    rw [hl.startStep, hl.uptime, hl.scanner, hstate, hsurvey]
  · show (transmit (takeWork _)).curtain.resolved = true
    rw [takeWork_eq]
    exact ((HoldsStart.refl s).serveRoom 8).resolved hr

end

end Sys2Proof.Machine

/-! The end of the start-up survey (R99, R158, R172, R195): the last steps of start-up in one event. -/

namespace Sys2Proof.Machine

section
variable {s : State} {v : Survey}

/-! ## The last steps of start-up -/

/-- R99: the curtain is resolved by its resolution, and start-up stands. -/
theorem resolveCurtain_resolves (s : State) : (resolveCurtain s).progress = s.progress ∧ (resolveCurtain s).curtain.resolved = true := by
  have finish : ∀ {u : State}, HoldsStart u (resolveCurtain s) → u.progress = s.progress → u.curtain.resolved = true →
      (resolveCurtain s).progress = s.progress ∧ (resolveCurtain s).curtain.resolved = true :=
    fun k hp hr => ⟨k.progress.trans hp, k.resolved hr⟩
  by_cases hr : s.curtain.resolved = true
  · refine finish (u := s) ?_ rfl hr
    rw [resolveCurtain, if_pos hr]
    exact (HoldsStart.refl s).notify _ _
  · refine finish (u := mapCurtain (Curtain.resolve s.lines (stepRecent s) s.settings.curtain s.uptime) s) ?_ rfl rfl
    rw [resolveCurtain, if_neg hr, resolveFresh]
    refine HoldsStart.judgeEmergency (HoldsStart.notify _ _ ?_)
    split
    · exact (HoldsStart.refl _).raiseCurtainFault _
    · exact (HoldsStart.refl _).placeWarning
    all_goals exact .refl _

/-- R195 step 6: uptime begins, and the reports held are handed over. -/
theorem startUptime_holdsStart (s : State) : HoldsStart { s with startStep := .done } (startUptime s) :=
  have hclock : HoldsStart { s with startStep := .done } (mapClock Clock.started { s with startStep := .done }) := (HoldsStart.refl _).same
  have hnotice := hclock.notify .phase (.phase .dark none .startUp s.perf.number s.perf.act s.uptime)
  (hnotice.same (t := mapScanner (fun u => { u with heldReports := [] }) _)).handReports _ |>.refreshPresented

/-- Start-up is complete: the loop runs with no survey, the Scanner scans and the curtain is resolved. -/
structure StartedUp (uptime : Nat) (t : State) : Prop where
  progress : t.progress = (.done, uptime, .running, none, true)
  resolved : t.curtain.resolved = true

theorem HoldsStart.startedUp {t : State} {n : Nat} (h : HoldsStart s t) (k : StartedUp n s) : StartedUp n t :=
  ⟨h.progress.trans k.progress, h.resolved k.resolved⟩

theorem endStartUp_startedUp (hr : s.loop.state = .running) (hv : s.loop.survey = none) : StartedUp s.uptime (endStartUp s) := by
  obtain ⟨hprogress, hresolved⟩ := resolveCurtain_resolves (startScanning s)
  refine (startUptime_holdsStart _).startedUp ⟨?_, hresolved⟩
  have hscanning : (startScanning s).progress = (.scanner, s.uptime, .running, none, true) := by
    rw [← hr, ← hv]; rfl
  rw [hscanning] at hprogress
  exact congrArg (fun x => (StartStep.done, x.2)) hprogress

/-! ## The survey's end -/

/-- R172: the faults and the presence reports of the start-up survey's end. -/
def reportFindings (s : State) : State :=
  let s1 := (s.loop.addressesWhere (missingRow s.settings)).foldl raiseMissing s
  (s1.loop.addressesWhere (·.present)).foldl handPresence s1

theorem reportFindings_holdsStart (s : State) : HoldsStart s (reportFindings s) :=
  HoldsStart.foldl _ (fun a h => h.handPresence a) _ (HoldsStart.foldl _ (fun a h => h.raiseMissing a) _ (.refl s))

/-- R172, R173: the loop runs, in its first survey period. -/
def beginRunning (s : State) : State :=
  mapLoop (fun u => { u.newPeriod s.uptime s.settings.loop.surveyPeriod with state := .running, survey := none }) s

theorem endStartUpSurvey_eq (v : Survey) (s : State) : endStartUpSurvey v s = endStartUp (loopNotice (.surveyDone .startUp v.retrains
    (surveyLists (beginRunning (reportFindings s)).settings (beginRunning (reportFindings s)).loop)) (beginRunning (reportFindings s))) := rfl

theorem progress_uptime {s t : State} (h : t.progress = s.progress) : t.uptime = s.uptime := congrArg (fun x => x.2.1) h

theorem endStartUpSurvey_startedUp (v : Survey) (s : State) : StartedUp s.uptime (endStartUpSurvey v s) := by
  rw [endStartUpSurvey_eq]
  generalize Notice.surveyDone .startUp v.retrains _ = n
  have hnotice := (HoldsStart.refl (beginRunning (reportFindings s))).loopNotice n
  have hprogress : (loopNotice n (beginRunning (reportFindings s))).progress = _ := hnotice.progress
  have hfindings : (reportFindings s).uptime = s.uptime := progress_uptime (reportFindings_holdsStart s).progress
  have huptime : (loopNotice n (beginRunning (reportFindings s))).uptime = s.uptime := (progress_uptime hprogress).trans hfindings
  rw [← huptime]
  exact endStartUp_startedUp (congrArg (fun x => x.2.2.1) hprogress) (congrArg (fun x => x.2.2.2.1) hprogress)

/-- R172: the third attempt at address 31 is the survey's last. -/
theorem advanceSurvey_last (hv : s.loop.survey = some v) (hc : v.cause = .startUp) (hn : v.next = 31) (ha : v.attempts = 2) :
    advanceSurvey false s = endStartUpSurvey v s := by
  have hafter : (v.after false).next = 32 := by rw [Survey.after, if_pos (.inr (by omega)), hn]
  rw [advanceSurvey, hv]
  dsimp only
  rw [if_pos (by omega), hc]

theorem takeOutcome_lastProbe (hv : s.loop.survey = some v) (hc : v.cause = .startUp) (hn : v.next = 31) (ha : v.attempts = 2) :
    StartedUp s.uptime (takeOutcome (.probe 31 .survey) .noReply s) := by
  have hnothing : HoldsStart s (takeNothing 31 .noReply (endTransaction s)) := ((HoldsStart.refl s).same (t := endTransaction s)).takeNothing 31 .noReply
  have hsurvey : (takeNothing 31 .noReply (endTransaction s)).loop.survey = some v :=
    (congrArg (fun x => x.2.2.2.1) hnothing.progress).trans hv
  show StartedUp s.uptime (advanceSurvey false (takeNothing 31 .noReply (endTransaction s)))
  rw [advanceSurvey_last hsurvey hc hn ha, ← progress_uptime hnothing.progress]
  exact endStartUpSurvey_startedUp v _

end

/-! ## Settled -/

/-- Settles O14: the last finding ends the survey, and what follows in the event undoes no step of start-up. -/
theorem surveyEndCompletesStartUp : Obligations.SurveyEndCompletesStartUp := by
  intro s v h ht hv hc hn ha
  have hlast := takeOutcome_lastProbe (s := mapClock (Clock.reach s.loop.windowAt) s) hv hc hn ha
  obtain ⟨hprogress, hresolved⟩ := (HoldsStart.refl _).refreshPresented.settle.startedUp hlast
  simp only [State.progress, Prod.mk.injEq] at hprogress
  obtain ⟨hstep, huptime, hstate, hsurvey, hscanning⟩ := hprogress
  refine ⟨_, ?_, hstep, hstate, hsurvey, hscanning, hresolved, huptime⟩
  show execReplyWindowExpiry s = _
  rw [execReplyWindowExpiry, command_next _ h.1, ht]

end Sys2Proof.Machine

/-! The command ports and the step: the bounds of the Port Units as an invariant (R182, R184), and the next state that every command has. -/

namespace Sys2Proof.Machine

/-! ## The bounds of the Port Units -/

theorem reset_bounded : PortUnit.reset.bounded := by unfold PortUnit.bounded; decide

/-- R189: start-up begins with both Port Units empty. -/
theorem Begins.ports {s t : State} (h : Begins s t) : t.ports.bounded := by
  obtain ⟨c, b, -, hk⟩ := h
  exact hk.ports ⟨reset_bounded, reset_bounded⟩

/-- R189: an assertion of RESET_N stops the transmitters and leaves what stands in the Port Units. -/
theorem assertReset_bounded {s : State} (h : s.ports.bounded) : (assertReset s).ports.bounded := h

theorem Ports.bounded.port {s : State} (h : s.ports.bounded) (p : Port) : (s.port p).bounded := by
  cases p
  · exact h.1
  · exact h.2

/-- Settles O9: R182 and R184 as an invariant of the step, by what a step can do. -/
theorem portQueuesStayBounded : Obligations.PortQueuesStayBounded := by
  intro s t hs h
  suffices ht : t.ports.bounded from ⟨ht, fun p => bounded_queue _ (ht.port p)⟩
  obtain ⟨q, hk | rfl | hb⟩ := step_outcomes s t h
  · exact hk.ports hs
  · exact assertReset_bounded hs
  · exact hb.ports

/-! ## The next state of every command -/

/-- The commands that may assert RESET_N or begin start-up. -/
def mayReset : Instr → Bool
  | .powerOn | .resetNAsserted | .resetNReleased | .frameSent _ => true
  | _ => false

/-- Every command that neither asserts RESET_N nor may begin start-up has a next state and secures the invariants. -/
theorem exec_secures (c : Instr) (s : State) (h : mayReset c = false) : ∃ t, exec c s = .next t ∧ Secures s t := by
  cases c
  case powerOn | resetNAsserted | resetNReleased | frameSent => cases h
  case performanceStatus p tag first => exact execPerformanceStatus_keeps p tag first s
  case curtainStatus p tag first => exact execCurtainStatus_keeps p tag first s
  exacts [execReceivedFrame_keeps .., execBadSync_keeps .., execBadLength_keeps .., execIncomplete_keeps .., execBadCheck_keeps ..,
    execBadFraming_keeps .., execRequestPassedOn_keeps .., execPhase_keeps .., execGiveClearance_keeps .., execWithdrawClearance_keeps ..,
    execSetCountdown_keeps .., execSetCountdownClear_keeps .., execExtendInterval_keeps .., execClearanceLapse_keeps ..,
    execUptimeAdvance_keeps .., execCountdownReachesZero_keeps .., execVisit_keeps .., execOffTimeEnd_keeps .., execBlankingEnd_keeps ..,
    execVerificationWindowEnd_keeps .., execIsolate_keeps .., execRestore_keeps .., execReadChannel_keeps .., execAcknowledge_keeps ..,
    execCancel_keeps .., execSilence_keeps .., execEvacuate_keeps .., execResetAlarms_keeps .., execAlarmList_keeps ..,
    execAckWindowExpiry_keeps .., execInvestigationWindowExpiry_keeps .., execCurtainLower_keeps .., execCurtainRaise_keeps ..,
    execCurtainStop_keeps .., execCurtainDropTest_keeps .., execCurtainClearFault_keeps .., execCurtainHold_keeps ..,
    execCurtainDisplay_keeps .., execLimitBottomActive_keeps .., execLimitBottomLost_keeps .., execLimitTopActive_keeps ..,
    execLimitTopLost_keeps .., execEncoderStep_keeps .., execMotionWatchEnd_keeps .., execSettingLineChange_keeps ..,
    execReleaseExpiry_keeps .., execGraceEnd_keeps .., execDropOverdue_keeps .., execDwellEnd_keeps .., execEmergReleaseAsserted_keeps ..,
    execEmergReleaseReleased_keeps .., execManualLevel_keeps .., execManualLevelRelease_keeps .., execGoPreset_keeps ..,
    execLightStatus_keeps .., execFadeAdvance_keeps .., execFadeEnd_keeps .., execFlashClockHalf_keeps .., execPlaceCall_keeps ..,
    execWithdrawCall_keeps .., execCallStatus_keeps .., execCallTimeLimit_keeps .., execAcknowledgeFault_keeps ..,
    execAcknowledgeFaultLost_keeps .., execFaultList_keeps .., execLoopReply_keeps .., execReplyWindowExpiry_keeps ..,
    execLoopBroadcastSent_keeps .., execPollDue_keeps .., execSurveyPeriodEnd_keeps .., execRetrainLoop_keeps .., execUnitTable_keeps ..,
    execSubscribe_keeps .., execPortStatus_keeps .., execPortStatusReadAndClear_keeps .., execIdentify_keeps .., execConfig_keeps ..,
    execGetConfig_keeps .., execStoreSection_keeps .., execStoreWriteEnd_keeps .., execRestart_keeps ..]

theorem settle_pending (s : State) : (settle s).pending = s.pending := (Keeps.refl s).settle.pending

/-- R184, R189: the end of a frame, that of the RESTART reply included, leaves the queue of waiting commands alone. -/
theorem execFrameSent_pending (p : Port) (s : State) : ∃ t, execFrameSent p s = .next t ∧ t.pending = s.pending := by
  unfold execFrameSent command
  split
  · exact ⟨s, rfl, rfl⟩
  · dsimp only
    split
    · exact ⟨_, rfl, (restart_afterRebuild s).pending⟩
    · exact ⟨_, rfl, settle_pending _⟩

/-- Settles O3: the commands that may begin start-up by its first steps, the others by what they secure. -/
theorem everyCommandGoesOn : Obligations.EveryCommandGoesOn := by
  intro c s
  by_cases h : mayReset c = true
  · cases c with
    | powerOn => exact ⟨_, rfl, (startUp_afterRebuild _ _).pending⟩
    | resetNAsserted => exact ⟨_, rfl, by split <;> rfl⟩
    | resetNReleased =>
      refine ⟨_, rfl, ?_⟩
      split
      · exact (startUp_afterRebuild _ _).pending
      · rfl
    | frameSent p => exact execFrameSent_pending p s
    | _ => cases h
  · obtain ⟨t, ht, hk⟩ := exec_secures c s (by simpa using h)
    exact ⟨t, ht, hk.pending⟩

/-! ## IDENTIFY -/

/-- Settles O22: IDENTIFY is a reply alone. -/
theorem identify : Obligations.Identify := fun _ _ _ h ho => request_replied h ho rfl

end Sys2Proof.Machine

/-! What the operations of a Port Unit do to its fields: receiving, the own answers, passing on, the flow notices and the transmitter (R180 to
R184). -/

namespace Sys2Proof.Machine

/-! ## The own answers and the requests passed on -/

/-- Every request held has been answered. -/
def allAnswered (l : List IntakeEntry) : Bool := l.all (fun e => e.step == .replyQueued)

theorem allAnswered_cons (e : IntakeEntry) (l : List IntakeEntry) :
    allAnswered (e :: l) = true ↔ e.step = .replyQueued ∧ allAnswered l = true := by
  simp [allAnswered]

/-- R180: behind answered requests the own answers are those of the rest. -/
theorem answerOwn_answered {a : List IntakeEntry} (h : allAnswered a = true) (l : List IntakeEntry) :
    answerOwn (a ++ l) = (a ++ (answerOwn l).1, (answerOwn l).2) := by
  induction a with
  | nil => rfl
  | cons e a ih =>
    obtain ⟨he, ha⟩ := (allAnswered_cons e a).1 h
    rw [List.cons_append, answerOwn, he, ih ha]; rfl

/-- R180: while a request that was owed no own answer stands unanswered, no request behind it is given one. -/
theorem answerOwn_unanswered {a : List IntakeEntry} (hown : answerOwn a = (a, [])) (h : allAnswered a = false) (l : List IntakeEntry) :
    answerOwn (a ++ l) = (a ++ l, []) := by
  induction a with
  | nil => cases h
  | cons e a ih =>
    rw [answerOwn] at hown
    rw [List.cons_append, answerOwn]
    cases hs : e.step with
    | withOwner => rfl
    | waiting =>
      cases ha : e.answer with
      | none => rfl
      | some r => simp [hs, ha] at hown
    | replyQueued =>
      simp only [hs, Prod.mk.injEq, List.cons.injEq, true_and] at hown
      have hall : allAnswered a = false := by simpa [allAnswered, hs] using h
      simp only [ih (Prod.ext hown.1 hown.2) hall]

/-- R180: behind answered requests the next one is passed on. -/
theorem passOn_answered {a : List IntakeEntry} (h : allAnswered a = true) (l : List IntakeEntry) : passOn (a ++ l) = a ++ passOn l := by
  induction a with
  | nil => rfl
  | cons e a ih =>
    obtain ⟨he, ha⟩ := (allAnswered_cons e a).1 h
    rw [List.cons_append, passOn, he, ih ha]; rfl

/-- R180: a request that waits for its owner is passed on. -/
theorem passOn_waiting {e : IntakeEntry} (hs : e.step = .waiting) (ha : e.answer = none) (l : List IntakeEntry) :
    passOn (e :: l) = { e with step := .withOwner } :: l := by
  rw [passOn, hs, ha]; rfl

/-- R180: behind a request with its owner none is passed on. -/
theorem passOn_withOwner {e : IntakeEntry} (hs : e.step = .withOwner) (l : List IntakeEntry) : passOn (e :: l) = e :: l := by
  rw [passOn, hs]

/-- R180: behind a request with its owner no own answer is given. -/
theorem answerOwn_withOwner {e : IntakeEntry} (hs : e.step = .withOwner) (l : List IntakeEntry) : answerOwn (e :: l) = (e :: l, []) := by
  rw [answerOwn, hs]

/-- R180: the own answers of a frame just received: none while it waits for its owner, or its own refusal. -/
theorem answerOwn_received (f : PortFrame) (own : Option Reason) :
    answerOwn [⟨f.tag, f.kind, .waiting, own⟩] = match own with
      | none => ([⟨f.tag, f.kind, .waiting, none⟩], [])
      | some r => ([⟨f.tag, f.kind, .replyQueued, some r⟩], [.reply f.tag (.refused r)]) := by
  cases own <;> rfl

/-! ## The flow notices -/

/-- R183: the judgement of the flow changes held-off and the pending flow notice alone. -/
theorem judgeFlow_eq (u : PortUnit) : u.judgeFlow = { u with heldOff := u.judgeFlow.heldOff, flow := u.judgeFlow.flow } := by
  have hraise : ∀ (x : FlowNotice) (w : PortUnit), w.raiseFlow x = { w with flow := (w.raiseFlow x).flow } := fun x w => by
    unfold PortUnit.raiseFlow; dsimp only
    split
    · rfl
    · split <;> rfl
    · rfl
  unfold PortUnit.judgeFlow
  split
  · rw [hraise]
  · split
    · rw [hraise]
    · rfl

theorem raiseFlow_heldOff (x : FlowNotice) (u : PortUnit) : (u.raiseFlow x).heldOff = u.heldOff := by
  unfold PortUnit.raiseFlow; dsimp only
  split
  · rfl
  · split <;> rfl
  · rfl

/-- `w` holds the flow notice of `u`, and its dropped count, and is sending the same flow notice if any. -/
structure SameFlow (u w : PortUnit) : Prop where
  flow : w.flow = u.flow
  dropped : w.dropped = u.dropped
  sends : ∀ g, w.sending = some (.flow g) ↔ u.sending = some (.flow g)

/-- R183: with no flow notice pending one is made pending, with the fill and the dropped count of the moment. -/
theorem raiseFlow_none {x : FlowNotice} {u : PortUnit} (hf : u.flow = none) : (u.raiseFlow x).flow = some ⟨x, u.intake.length, u.dropped⟩ := by
  rw [PortUnit.raiseFlow, hf]

/-- R183: one that is being sent is not unsent, so the next is made pending (log entry 29). -/
theorem raiseFlow_sending {x : FlowNotice} {g : PendingFlow} {u : PortUnit} (hf : u.flow = some g) (hs : u.sending = some (.flow g)) :
    (u.raiseFlow x).flow = some ⟨x, u.intake.length, u.dropped⟩ := by
  rw [PortUnit.raiseFlow, hf, hs]; simp

/-- R183: one still unsent is cancelled. -/
theorem raiseFlow_unsent {x : FlowNotice} {g : PendingFlow} {u : PortUnit} (hf : u.flow = some g) (hs : u.sending ≠ some (.flow g)) :
    (u.raiseFlow x).flow = none := by
  rw [PortUnit.raiseFlow, hf]
  split
  · contradiction
  · rename_i f h hfg hsend
    rw [if_neg]
    rintro rfl
    exact hs (Option.some.inj hfg ▸ hsend)
  · rfl

/-- R183: a flow notice made pending, or the opposite one cancelled (log entry 29). -/
theorem raiseFlow_raised {u w : PortUnit} (x : FlowNotice) (h : SameFlow u w) : PortUnit.raised x w.intake.length u (w.raiseFlow x) := by
  refine ⟨fun hf => ?_, fun g hf hs => ?_, fun g hf _ hs => ?_⟩
  · rw [raiseFlow_none (h.flow.trans hf), h.dropped]
  · rw [raiseFlow_sending (h.flow.trans hf) ((h.sends g).2 hs), h.dropped]
  · exact raiseFlow_unsent (h.flow.trans hf) fun hw => hs g ((h.sends g).1 hw) rfl

/-- R183: held-off and the pending flow notice after a change of the intake. -/
theorem judgeFlow_warned {u w : PortUnit} (hheld : w.heldOff = u.heldOff) (h : SameFlow u w) :
    PortUnit.warned w.intake.length u w.judgeFlow := by
  unfold PortUnit.warned PortUnit.judgeFlow
  rw [hheld]
  refine ⟨fun hn hh => ?_, fun hn hh => ?_, fun h3 h1 => ?_⟩
  · rw [if_pos ⟨hn, hh⟩, raiseFlow_heldOff]
    exact ⟨rfl, raiseFlow_raised (w := { w with heldOff := true }) .holdOff ⟨h.flow, h.dropped, h.sends⟩⟩
  · rw [if_neg (by omega), if_pos ⟨hn, hh⟩, raiseFlow_heldOff]
    exact ⟨rfl, raiseFlow_raised (w := { w with heldOff := false }) .resume ⟨h.flow, h.dropped, h.sends⟩⟩
  · rw [if_neg h3, if_neg h1]
    exact ⟨hheld, h.flow⟩

/-- R183 speaks of held-off and the pending flow notice alone. -/
theorem warned_congr {n : Nat} {u v w : PortUnit} (hheld : w.heldOff = v.heldOff) (hflow : w.flow = v.flow) (h : PortUnit.warned n u v) :
    PortUnit.warned n u w := by
  unfold PortUnit.warned PortUnit.raised at *
  rwa [hheld, hflow]

/-! ## Frames received -/

/-- R182: a frame that finds 4 requests held is refused FULL, while the refusal list has room (log entry 22), and counted. -/
theorem receive_full {own : Option Reason} {f : PortFrame} {u : PortUnit} (h : 4 ≤ u.intake.length) :
    u.receive own f = { u with
      reader := .hunting, refusals := if u.refusals.length < 24 then u.refusals ++ [f.tag] else u.refusals
      fullRefusals := min 65535 (u.fullRefusals + 1) } := by
  rw [← satSucc_eq_min]
  exact if_pos h

/-- The Port Unit with a frame in its intake, before the own answers and the flow are judged. -/
def PortUnit.joined (own : Option Reason) (f : PortFrame) (u : PortUnit) : PortUnit :=
  { u with reader := .hunting, intake := u.intake ++ [⟨f.tag, f.kind, .waiting, own⟩] }

theorem receive_joined {own : Option Reason} {f : PortFrame} {u : PortUnit} (h : u.intake.length < 4) :
    u.receive own f = (u.joined own f).answerOwn.judgeFlow :=
  if_neg (Nat.not_le.2 h)

/-- R180, R182, R183: any other frame joins the intake, and what was received of it is judged. -/
structure Receives (own : Option Reason) (f : PortFrame) (u v : PortUnit) : Prop where
  intake : v.intake = (answerOwn (u.intake ++ [⟨f.tag, f.kind, .waiting, own⟩])).1
  queue : v.queue = u.queue ++ (answerOwn (u.intake ++ [⟨f.tag, f.kind, .waiting, own⟩])).2
  refusals : v.refusals = u.refusals
  warned : PortUnit.warned (u.intake.length + 1) u v

theorem receive_receives {own : Option Reason} {f : PortFrame} {u : PortUnit} (h : u.intake.length < 4) : Receives own f u (u.receive own f) := by
  rw [receive_joined h]
  have hlen : (u.joined own f).answerOwn.intake.length = u.intake.length + 1 :=
    (answerOwn_length _).trans List.length_append
  have hwarned := judgeFlow_warned (u := u) (w := (u.joined own f).answerOwn) rfl ⟨rfl, rfl, fun _ => Iff.rfl⟩
  rw [hlen] at hwarned
  refine ⟨?_, ?_, ?_, hwarned⟩
  all_goals rw [judgeFlow_eq]; rfl

section
variable {own : Option Reason} {f : PortFrame} {u v : PortUnit}

/-- R180: a frame that waits for its owner joins the tail of the intake. -/
theorem Receives.waits (h : Receives none f u v) (hown : answerOwn u.intake = (u.intake, [])) :
    v.intake = u.intake ++ [⟨f.tag, f.kind, .waiting, none⟩] ∧ v.queue = u.queue := by
  have e : answerOwn (u.intake ++ [⟨f.tag, f.kind, .waiting, none⟩]) = (u.intake ++ [⟨f.tag, f.kind, .waiting, none⟩], []) := by
    by_cases ha : allAnswered u.intake = true
    · rw [answerOwn_answered ha, answerOwn_received]
    · exact answerOwn_unanswered hown (by simpa using ha) _
  obtain ⟨hi, hq, -, -⟩ := h
  rw [hi, hq, e]
  exact ⟨rfl, List.append_nil _⟩

/-- R180: the Port Unit's own answer, given at once behind answered requests. -/
theorem Receives.answered {r : Reason} (h : Receives (some r) f u v) (ha : allAnswered u.intake = true) :
    v.intake = u.intake ++ [⟨f.tag, f.kind, .replyQueued, some r⟩] ∧ v.queue = u.queue ++ [.reply f.tag (.refused r)] := by
  obtain ⟨hi, hq, -, -⟩ := h
  rw [hi, hq, answerOwn_answered ha, answerOwn_received]
  exact ⟨rfl, rfl⟩

/-- R180: the Port Unit's own answer waits for its turn behind an unanswered request. -/
theorem Receives.owesAnswer (h : Receives own f u v) (hown : answerOwn u.intake = (u.intake, [])) (ha : allAnswered u.intake = false) :
    v.intake = u.intake ++ [⟨f.tag, f.kind, .waiting, own⟩] ∧ v.queue = u.queue := by
  obtain ⟨hi, hq, -, -⟩ := h
  rw [hi, hq, answerOwn_unanswered hown ha]
  exact ⟨rfl, List.append_nil _⟩

end

/-! ## The transmitter -/

/-- R184: the transmitter changes nothing but what is being sent. -/
theorem transmit_eq (u : PortUnit) : u.transmit = { u with sending := u.transmit.sending } := by
  unfold PortUnit.transmit
  split
  · rfl
  · split
    · rfl
    · split
      · rfl
      · split <;> rfl

theorem port_transmit (s : State) (p : Port) : (transmit s).port p = (s.port p).transmit := by cases p <;> rfl

/-- What the transmitter chooses from (R184). -/
def PortUnit.outgoing (u : PortUnit) : Option Sending × Option PendingFlow × List Tag × List OutFrame := (u.sending, u.flow, u.refusals, u.queue)

/-- R184: a transmitter with nothing to begin has nothing to begin after a change of other fields. -/
theorem transmit_of_outgoing {u v : PortUnit} (h : v.outgoing = u.outgoing) (hu : u.transmit = u) : v.transmit = v := by
  simp only [PortUnit.outgoing, Prod.mk.injEq] at h
  obtain ⟨hs, hf, hr, hq⟩ := h
  have hsend : v.transmit.sending = u.transmit.sending := by
    unfold PortUnit.transmit
    rw [hs, hf, hr, hq]
    split
    · exact hs
    · split
      · rfl
      · split
        · rfl
        · split
          · rfl
          · exact hs
  rw [transmit_eq, hsend, hu, ← hs]

/-! ## One Port Unit changed in an event -/

section
variable {s : State} {p : Port}

theorem mapPort_congr {f g : PortUnit → PortUnit} (h : f (s.port p) = g (s.port p)) : s.mapPort p f = s.mapPort p g := by
  unfold State.mapPort; rw [h]

/-- On an idle controller a change of one Port Unit has only frames to send. -/
theorem settle_mapPort (f : PortUnit → PortUnit) (h : s.idle) : settle (s.mapPort p f) = transmit (s.mapPort p f) :=
  settle_frames s _ h rfl rfl rfl rfl rfl

/-- On an idle controller a change of one Port Unit that leaves its outgoing frames alone sends none. -/
theorem settle_mapPort_quiet {f : PortUnit → PortUnit} (h : s.idle) (hf : (f (s.port p)).outgoing = (s.port p).outgoing) :
    settle (s.mapPort p f) = s.mapPort p f := by
  have hsent : transmit s = s := ((idle_iff s).1 h).2.2.2
  have hport : ∀ q, (s.port q).transmit = s.port q := fun q => by rw [← port_transmit, hsent]
  have hchanged := transmit_of_outgoing hf (hport p)
  rw [settle_mapPort f h]
  cases p
  · show { s with ports := ⟨(f (s.port .stage)).transmit, (s.port .front).transmit⟩ } = _
    rw [hchanged, hport .front]; rfl
  · show { s with ports := ⟨(s.port .stage).transmit, (f (s.port .front)).transmit⟩ } = _
    rw [hchanged, hport .stage]; rfl

/-- On a controller that takes commands and has no event under way, a command that changes one Port Unit. -/
theorem command_mapPort (f : State → PortUnit → PortUnit) (h : s.awake) :
    command (fun s => s.mapPort p (f s)) s = .next (transmit (s.mapPort p (f s))) := by
  rw [command_next _ h.1, settle_mapPort (f s) h.2]

/-- The same where the outgoing frames are left alone. -/
theorem command_mapPort_quiet (f : PortUnit → PortUnit) (h : s.awake) (hf : (f (s.port p)).outgoing = (s.port p).outgoing) :
    command (fun s => s.mapPort p f) s = .next (s.mapPort p f) := by
  rw [command_next _ h.1, settle_mapPort_quiet h.2 hf]

end

end Sys2Proof.Machine

/-! The Port Units (R179 to R184): frame errors, frames received, requests passed on, and frames sent. -/

namespace Sys2Proof.Machine

/-! ## Frames received -/

section
variable {s : State} {p : Port}

/-- R179: a frame error is counted, saturating, and the reader hunts again. -/
theorem frameError_eq : PortUnit.frameError = fun u => { u with frameErrors := min 65535 (u.frameErrors + 1), reader := .hunting } := by
  funext u
  rw [PortUnit.frameError, satSucc_eq_min]

/-- R179: each of the five frame errors is the same event. -/
theorem exec_frameError {c : Instr} (h : s.awake)
    (hc : c ∈ [Instr.badSync p, .badLength p, .incomplete p, .badCheck p, .badFraming p]) :
    exec c s = .next (s.mapPort p (fun u => { u with frameErrors := min 65535 (u.frameErrors + 1), reader := .hunting })) := by
  have hexec : exec c s = command (fun s => s.mapPort p PortUnit.frameError) s := by
    simp only [List.mem_cons, List.not_mem_nil, or_false] at hc
    obtain rfl | rfl | rfl | rfl | rfl := hc <;> rfl
  rw [hexec, frameError_eq]
  exact command_mapPort_quiet _ h rfl

theorem execReceivedFrame_awake (f : PortFrame) (h : s.awake) : exec (.receivedFrame p f) s =
    .next (transmit (s.mapPort p (PortUnit.receive (portJudgement s.settings.ports.frontFitted p f) f))) :=
  command_mapPort (fun s => PortUnit.receive (portJudgement s.settings.ports.frontFitted p f) f) h

/-- R182: a frame that finds 4 requests held (log entries 22 and 36). -/
theorem execReceivedFrame_full {f : PortFrame} (h : s.awake) (hfull : 4 ≤ (s.port p).intake.length) :
    exec (.receivedFrame p f) s = .next (transmit (s.mapPort p (fun u => { u with
      reader := .hunting, refusals := if u.refusals.length < 24 then u.refusals ++ [f.tag] else u.refusals
      fullRefusals := min 65535 (u.fullRefusals + 1) }))) := by
  rw [execReceivedFrame_awake f h]
  exact congrArg (fun x => Host.Outcome.next (transmit x)) (mapPort_congr (receive_full hfull))

/-- R180: a frame that is taken, at the end of its event. -/
theorem execReceivedFrame_taken {f : PortFrame} (h : s.awake) (hroom : (s.port p).intake.length < 4) :
    ∃ t, exec (.receivedFrame p f) s = .next t ∧ t = { s with ports := t.ports } ∧
      Receives (portJudgement s.settings.ports.frontFitted p f) f (s.port p) (t.port p) := by
  refine ⟨_, execReceivedFrame_awake f h, rfl, ?_⟩
  obtain ⟨hi, hq, hr, hw⟩ := receive_receives (own := portJudgement s.settings.ports.frontFitted p f) (f := f) hroom
  rw [port_transmit, mapPort_port_self, transmit_eq]
  exact ⟨hi, hq, hr, hw⟩

end

/-- R180, R188: the Port Unit's own judgement, as the rules give it. -/
theorem portJudgement_eq (fitted : Bool) (p : Port) (f : PortFrame) : portJudgement fitted p f = match f.kind with
    | .unknown _ => some .unknownKind
    | .request _ => if p = .front ∧ fitted = false then some .notPermitted else if f.lengthAllowed then none else some .invalid := by
  unfold portJudgement
  cases f.kind with
  | unknown => rfl
  | request => cases fitted <;> cases f.lengthAllowed <;> simp

/-- Settles O54: the frame errors, then the frame received by what it finds. -/
theorem framesReceived : Obligations.FramesReceived := by
  refine ⟨fun s p c => exec_frameError, fun s p f h => ⟨execReceivedFrame_full h, fun hroom hown => ?_⟩⟩
  obtain ⟨t, ht, hports, k⟩ := execReceivedFrame_taken (f := f) h hroom
  refine ⟨t, ht, k.refusals, hports, k.warned, fun own e => ?_⟩
  have hown' : own = portJudgement s.settings.ports.frontFitted p f := e.trans (portJudgement_eq ..).symm
  rw [← hown'] at k
  refine ⟨?_, ?_, ?_⟩
  · rintro rfl
    exact k.waits hown
  · rintro r rfl ha
    exact k.answered ha
  · rintro r rfl ha
    exact k.owesAnswer hown ha

/-! ## Requests passed on -/

/-- R180: the oldest request not yet passed on goes to its owner. -/
theorem execRequestPassedOn_waiting {s : State} {p : Port} {a b : List IntakeEntry} {e : IntakeEntry} (h : s.awake)
    (hi : (s.port p).intake = a ++ e :: b) (ha : allAnswered a = true) (hs : e.step = .waiting) (hn : e.answer = none) :
    exec (.requestPassedOn p) s = .next (s.mapPort p (fun u => { u with intake := a ++ { e with step := .withOwner } :: b })) := by
  have hexec : exec (.requestPassedOn p) s = .next (s.mapPort p (fun u => { u with intake := passOn u.intake })) :=
    command_mapPort_quiet _ h rfl
  rw [hexec]
  refine congrArg _ (mapPort_congr ?_)
  rw [hi, passOn_answered ha, passOn_waiting hs hn]

/-! ## Frames sent -/

section
variable {s : State} {p : Port}

/-- R184: the end of a frame that is not the RESTART reply. -/
theorem execFrameSent_done {v : PortUnit} (h : s.awake) (hr : (s.port p).sendsRestart = false) (hv : (s.port p).frameDone = v) :
    exec (.frameSent p) s = .next (transmit (s.mapPort p (fun _ => v))) := by
  show execFrameSent p s = _
  rw [execFrameSent, command_next _ h.1, hr, ← hv]
  exact congrArg _ (settle_mapPort _ h.2)

/-- R184: what is sent that is no frame of the output queue is no RESTART reply. -/
theorem sendsRestart_of_sending {u : PortUnit} {x : Sending} (hs : u.sending = some x) (hx : x ≠ .queued) : u.sendsRestart = false := by
  unfold PortUnit.sendsRestart
  rw [hs]
  cases x with
  | queued => exact absurd rfl hx
  | flow => rfl
  | fullRefusal => rfl

/-- R184: the output queue's oldest frame has been sent. -/
theorem frameDone_queued {u : PortUnit} (hs : u.sending = some .queued) : u.frameDone = PortUnit.sentQueued { u with sending := none } := by
  unfold PortUnit.frameDone
  rw [hs]

/-- R184: a notice that has been sent leaves the output queue. -/
theorem execFrameSent_notice {d : Nat} {n : Notice} {l : List OutFrame} (h : s.awake) (hs : (s.port p).sending = some .queued)
    (hq : (s.port p).queue = .notice d n :: l) :
    exec (.frameSent p) s = .next (transmit (s.mapPort p (fun u => { u with sending := none, queue := l }))) := by
  refine execFrameSent_done h ?_ ?_
  · unfold PortUnit.sendsRestart; rw [hs, hq]
  · rw [frameDone_queued hs]; unfold PortUnit.sentQueued; dsimp only; rw [hq]

/-- R183, R184: a reply that has been sent leaves the output queue and its request the intake, and the flow is judged. -/
theorem frameDone_reply {u : PortUnit} {tag : Tag} {o : ReplyOutcome} {l : List OutFrame} (hs : u.sending = some .queued)
    (hq : u.queue = .reply tag o :: l) :
    u.frameDone = PortUnit.judgeFlow { u with sending := none, queue := l, intake := leaveIntake tag u.intake } := by
  rw [frameDone_queued hs]; unfold PortUnit.sentQueued; dsimp only; rw [hq]

theorem execFrameSent_reply {tag : Tag} {o : ReplyOutcome} {l : List OutFrame} (h : s.awake) (hs : (s.port p).sending = some .queued)
    (hq : (s.port p).queue = .reply tag o :: l) (ho : o ≠ .done .restart) :
    ∃ v : PortUnit, exec (.frameSent p) s = .next (transmit (s.mapPort p (fun _ => v))) ∧
      v = { s.port p with
        sending := none, queue := l, intake := leaveIntake tag (s.port p).intake, heldOff := v.heldOff, flow := v.flow } ∧
      PortUnit.warned v.intake.length (s.port p) v := by
  have hr : (s.port p).sendsRestart = false := by
    unfold PortUnit.sendsRestart; rw [hs, hq]
    exact beq_false_of_ne ho
  refine ⟨_, execFrameSent_done h hr (frameDone_reply hs hq), judgeFlow_eq _, ?_⟩
  have hnone : ∀ g, (none : Option Sending) = some (.flow g) ↔ (s.port p).sending = some (.flow g) := fun g => by rw [hs]; simp
  have hwarned := judgeFlow_warned (u := s.port p)
    (w := { s.port p with sending := none, queue := l, intake := leaveIntake tag (s.port p).intake }) rfl ⟨rfl, rfl, hnone⟩
  rw [judgeFlow_eq] at hwarned ⊢
  exact hwarned

/-- R184: a FULL refusal that has been sent leaves the refusal list. -/
theorem execFrameSent_fullRefusal (h : s.awake) (hs : (s.port p).sending = some .fullRefusal) :
    exec (.frameSent p) s = .next (transmit (s.mapPort p (fun u => { u with sending := none, refusals := u.refusals.drop 1 }))) := by
  refine execFrameSent_done h (sendsRestart_of_sending hs nofun) ?_
  unfold PortUnit.frameDone; rw [hs]

/-- R184: a flow notice that has been sent leaves its own place, if no other has taken it (log entry 29). -/
theorem execFrameSent_flow {n : PendingFlow} (h : s.awake) (hs : (s.port p).sending = some (.flow n)) :
    exec (.frameSent p) s = .next (transmit (s.mapPort p (fun u =>
      { u with sending := none, flow := if u.flow = some n then none else u.flow }))) := by
  refine execFrameSent_done h (sendsRestart_of_sending hs nofun) ?_
  unfold PortUnit.frameDone; rw [hs]

end

/-! ## The next frame -/

section
variable {u : PortUnit}

/-- R184: an idle transmitter takes a pending flow notice first. -/
theorem transmit_flow {n : PendingFlow} (hs : u.sending = none) (hf : u.flow = some n) : u.transmit.sending = some (.flow n) := by
  unfold PortUnit.transmit; rw [hs, hf]

/-- R184: then the oldest refusal. -/
theorem transmit_refusal (hs : u.sending = none) (hf : u.flow = none) (hr : u.refusals ≠ []) : u.transmit.sending = some .fullRefusal := by
  unfold PortUnit.transmit; rw [hs, hf]
  exact congrArg PortUnit.sending (if_pos hr)

/-- R184: then the oldest frame of the output queue. -/
theorem transmit_oldest (hs : u.sending = none) (hf : u.flow = none) (hr : u.refusals = []) (hq : u.queue ≠ []) :
    u.transmit.sending = some .queued := by
  unfold PortUnit.transmit; rw [hs, hf]
  exact congrArg PortUnit.sending ((if_neg (not_not.2 hr)).trans (if_pos hq))

end

/-- Settles O55: the request passed on, the frame sent by its class, and the frame chosen next. -/
theorem framesLeaveThePort : Obligations.FramesLeaveThePort := by
  refine ⟨fun s p a b e => execRequestPassedOn_waiting, fun s p h => ⟨fun d n l => execFrameSent_notice h, fun tag o l => execFrameSent_reply h,
    execFrameSent_fullRefusal h, fun n => execFrameSent_flow h⟩, fun s p hs => ?_⟩
  rw [port_transmit]
  exact ⟨fun n => transmit_flow hs, transmit_refusal hs, transmit_oldest hs⟩

end Sys2Proof.Machine

/-! How a request's own command brings it to its owner (R180, R182; log entry 6). -/

namespace Sys2Proof.Machine

/-! ## The form of a request -/

/-- Every request's command goes through `request`. -/
theorem exec_request {c : Instr} {p : Port} {tag : Tag} {k : RequestKind} (hc : c.request = some (p, tag, k)) :
    ∃ f : State → State, ∀ s, exec c s = request p tag k f s := by
  cases c <;> cases hc <;> exact ⟨_, fun _ => by unfold exec; exact rfl⟩

section
variable {s : State} {p : Port} {tag : Tag} {k : RequestKind}

/-- R180: a request with its owner after it has been brought is taken by it. -/
theorem request_brought (f : State → State) (h : s.resetHeld = false) (ho : (s.bring p tag k).owns p tag k = true) :
    request p tag k f s = request p tag k f (s.bring p tag k) := by
  rw [request_owned (s := s.bring p tag k) f h ho, request, command_next _ h, if_pos ho]

/-- R180: one that has not been passed on changes nothing but the intake. -/
theorem request_unowned (f : State → State) (h : s.resetHeld = false) (ho : (s.bring p tag k).owns p tag k = false) :
    request p tag k f s = .next (settle (s.bring p tag k)) := by
  rw [request, command_next _ h, ho]; rfl

end

/-! ## Requests in an intake -/

section
variable {u : PortUnit} {tag : Tag} {k : RequestKind} {a b : List IntakeEntry} {e : IntakeEntry}

/-- No request of an intake is the one of a tag and kind with its owner. -/
theorem owned_eq_false (h : ∀ x ∈ u.intake, x.isFor tag k = true → x.step ≠ .withOwner) : u.owned tag k = false := by
  rw [PortUnit.owned, List.any_eq_false]
  intro x hx hw
  rw [Bool.and_eq_true, beq_iff_eq] at hw
  exact h x hx hw.1 hw.2

theorem owned_of_mem (he : e ∈ u.intake) (hfor : e.isFor tag k = true) (hs : e.step = .withOwner) : u.owned tag k = true :=
  List.any_eq_true.2 ⟨e, he, by rw [hfor, hs]; rfl⟩

theorem awaits_of_mem (he : e ∈ u.intake) (hfor : e.isFor tag k = true) (hs : e.step = .waiting) : u.awaits tag k = true :=
  List.any_eq_true.2 ⟨e, he, by rw [hfor, hs]; rfl⟩

theorem step_of_allAnswered (h : allAnswered a = true) (he : e ∈ a) : e.step = .replyQueued :=
  eq_of_beq (List.all_eq_true.1 h e he)

/-- R180: behind answered requests a request of a tag and kind, waiting for its owner, is passed on. -/
theorem pass_waiting (hi : u.intake = a ++ e :: b) (ha : allAnswered a = true) (hfor : e.isFor tag k = true) (hs : e.step = .waiting)
    (hn : e.answer = none) : u.pass tag k = { u with intake := a ++ { e with step := .withOwner } :: b } := by
  have hpass : passOn u.intake = a ++ { e with step := .withOwner } :: b := by
    rw [hi, passOn_answered ha, passOn_waiting hs hn]
  unfold PortUnit.pass
  rw [hpass]
  exact if_pos (owned_of_mem (e := { e with step := .withOwner }) (List.mem_append_right _ (List.mem_cons_self ..)) hfor rfl)

/-- R180: behind a request with its owner nothing is passed on. -/
theorem pass_behind (hi : u.intake = a ++ e :: b) (ha : allAnswered a = true) (hs : e.step = .withOwner) : u.pass tag k = u := by
  have hpass : passOn u.intake = u.intake := by rw [hi, passOn_answered ha, passOn_withOwner hs]
  unfold PortUnit.pass
  rw [hpass, ite_self]

/-- `e` is the first unanswered request of the intake `l`, and those behind it wait. -/
structure FirstUnanswered (e : IntakeEntry) (a b l : List IntakeEntry) : Prop where
  intake : l = a ++ e :: b
  before : allAnswered a = true
  behind : ∀ x ∈ b, x.step = .waiting

/-- Of such an intake only the first unanswered request can be with its owner. -/
theorem FirstUnanswered.owned_eq_false (h : FirstUnanswered e a b u.intake) (he : e.isFor tag k = true → e.step ≠ .withOwner) :
    u.owned tag k = false := by
  refine Machine.owned_eq_false fun x hx hfor => ?_
  rw [h.intake, List.mem_append, List.mem_cons] at hx
  obtain hx | rfl | hx := hx
  · rw [step_of_allAnswered h.before hx]; nofun
  · exact he hfor
  · rw [h.behind x hx]; nofun

/-- R182: a frame received behind a request with its owner waits. -/
theorem FirstUnanswered.receive {own : Option Reason} {f : PortFrame} (h : FirstUnanswered e a b u.intake) (hs : e.step = .withOwner) :
    ∃ b', FirstUnanswered e a b' (u.receive own f).intake := by
  by_cases hfull : 4 ≤ u.intake.length
  · exact ⟨b, by rw [receive_full hfull]; exact h⟩
  · obtain ⟨hi, hb, hw⟩ := h
    refine ⟨b ++ [⟨f.tag, f.kind, .waiting, own⟩], ?_, hb, fun x hx => ?_⟩
    · rw [(receive_receives (Nat.lt_of_not_le hfull)).intake, hi, List.append_assoc, List.cons_append, answerOwn_answered hb,
        answerOwn_withOwner hs]
    · obtain hx | hx := List.mem_append.1 hx
      · exact hw x hx
      · rw [List.mem_singleton.1 hx]

/-- R180: behind another request with its owner a request is not passed on. -/
theorem FirstUnanswered.bring_unowned (fitted : Bool) (p : Port) (h : FirstUnanswered e a b u.intake) (hs : e.step = .withOwner)
    (he : e.isFor tag k = false) : (u.bring fitted p tag k).owned tag k = false := by
  have hno : e.isFor tag k = true → e.step ≠ .withOwner := fun ht => by rw [he] at ht; cases ht
  unfold PortUnit.bring
  rw [if_neg (by rw [h.owned_eq_false hno]; nofun)]
  split
  · rw [pass_behind h.intake h.before hs]
    exact h.owned_eq_false hno
  · obtain ⟨b', hr⟩ := h.receive (own := portJudgement fitted p ⟨tag, .request k, [], true⟩) (f := ⟨tag, .request k, [], true⟩) hs
    rw [pass_behind hr.intake hr.before hs]
    exact hr.owned_eq_false hno

/-- R180: a request that waits next is passed on. -/
theorem FirstUnanswered.bring_waiting (fitted : Bool) (p : Port) (h : FirstUnanswered e a b u.intake) (hs : e.step = .waiting)
    (hn : e.answer = none) (he : e.isFor tag k = true) : u.bring fitted p tag k = { u with intake := a ++ { e with step := .withOwner } :: b } := by
  have hmem : e ∈ u.intake := by rw [h.intake]; exact List.mem_append_right _ (List.mem_cons_self ..)
  unfold PortUnit.bring
  rw [if_neg (by rw [h.owned_eq_false fun _ => by rw [hs]; nofun]; nofun), if_pos (awaits_of_mem hmem he hs),
    pass_waiting h.intake h.before he hs hn]

/-- R180, R182: a request that does not stand in the intake is received, and passed on behind answered requests (log entry 6). -/
theorem bring_received {fitted : Bool} {p : Port} (ha : allAnswered u.intake = true) (hroom : u.intake.length < 4)
    (hfit : p = .front → fitted = true) :
    (u.bring fitted p tag k).intake = u.intake ++ [⟨tag, .request k, .withOwner, none⟩] ∧ (u.bring fitted p tag k).queue = u.queue ∧
      (u.bring fitted p tag k).refusals = u.refusals ∧ PortUnit.warned (u.intake.length + 1) u (u.bring fitted p tag k) := by
  have hstep : ∀ x ∈ u.intake, x.step = .replyQueued := fun x hx => step_of_allAnswered ha hx
  have hown : answerOwn u.intake = (u.intake, []) := by
    have h := answerOwn_answered ha []
    rwa [List.append_nil, answerOwn, List.append_nil] at h
  have hawaits : u.awaits tag k = false := by
    rw [PortUnit.awaits, List.any_eq_false]
    intro x hx
    rw [hstep x hx]; simp
  have hjudged : portJudgement fitted p ⟨tag, .request k, [], true⟩ = none := by
    rw [portJudgement_eq]
    cases p with
    | stage => rfl
    | front => rw [hfit rfl]; rfl
  have hr := receive_receives (own := none) (f := ⟨tag, .request k, [], true⟩) hroom
  obtain ⟨hi, hq⟩ := hr.waits hown
  unfold PortUnit.bring
  rw [if_neg (by rw [owned_eq_false fun x hx _ => by rw [hstep x hx]; nofun]; nofun), if_neg (by rw [hawaits]; nofun), hjudged,
    pass_waiting hi ha (by simp [IntakeEntry.isFor]) rfl rfl]
  exact ⟨rfl, hq, hr.refusals, warned_congr rfl rfl hr.warned⟩

end

/-- Settles O2: by whether the request is with its owner once it has been brought, and by what its intake holds before. -/
theorem requestTakenInTurn : Obligations.RequestTakenInTurn := by
  intro c p tag k s hc h
  obtain ⟨f, hexec⟩ := exec_request hc
  refine ⟨fun ho => ?_, fun ho => ?_, rfl, fun q hq => mapPort_port_other s p q _ hq, bring_of_owns, fun ha hroom hfit => ?_,
    fun a b e hi ha hb => ?_⟩
  · rw [hexec, hexec, request_brought f h ho]
  · rw [hexec, request_unowned f h ho]
  · rw [State.bring, mapPort_port_self]
    exact bring_received ha hroom hfit
  · have hn : FirstUnanswered e a b (s.port p).intake := ⟨hi, ha, fun x hx => eq_of_beq (List.all_eq_true.1 hb x hx)⟩
    refine ⟨fun hs ha htag hk => ?_, fun hs hne => ?_⟩
    · exact mapPort_congr (hn.bring_waiting _ p hs ha (by rw [IntakeEntry.isFor, htag, hk]; simp))
    · rw [State.owns, State.bring, mapPort_port_self]
      refine hn.bring_unowned _ p hs ?_
      rw [IntakeEntry.isFor, Bool.and_eq_false_iff]
      exact hne.imp beq_false_of_ne beq_false_of_ne

end Sys2Proof.Machine

/-! SUBSCRIBE (R185), and the port frames as bytes (R178, R179). -/

namespace Sys2Proof.Machine

/-! ## SUBSCRIBE -/

section
variable {s : State} {p : Port} {tag : Tag} {l : List (Option Family × Bool)}

theorem execSubscribe_owned (h : s.resetHeld = false) (ho : s.owns p tag .subscribe = true) (hl : familiesKnown l = true) :
    exec (.subscribe p tag l) s = .next (settle (reply p tag (.done (.subscriptions (subscribeAll l (s.settings.ports.subs p))))
      (setSubscriptions p (subscribeAll l (s.settings.ports.subs p)) s))) := by
  show execSubscribe p tag l s = _
  rw [execSubscribe, request_owned _ h ho, if_pos hl]

/-- R185: SUBSCRIBE of no family, or of one that is none of the table. -/
theorem execSubscribe_unknown (h : s.awake) (ho : s.owns p tag .subscribe = true) (hl : familiesKnown l = false) :
    exec (.subscribe p tag l) s = .next (transmit (reply p tag (.refused .invalid) s)) := by
  show execSubscribe p tag l s = _
  rw [execSubscribe, request_replied h ho]
  rw [hl]; rfl

/-- R185, R190: the subscriptions of one port set, and nothing but the changed mark of PORTS beside them. -/
theorem setSubscriptions_eq (p : Port) (u : Subscriptions) (s : State) : ∃ v, setSubscriptions p u s =
    { s with settings := { s.settings with ports := s.settings.ports.setSubs p u }, store := v } := by
  unfold setSubscriptions; dsimp only
  split
  · exact ⟨s.store, rfl⟩
  · exact ⟨_, rfl⟩

theorem familiesKnown_eq_false (h : l = [] ∨ ∃ q ∈ l, q.1 = none) : familiesKnown l = false := by
  obtain rfl | ⟨q, hq, hn⟩ := h
  · rfl
  · rw [familiesKnown, Bool.and_eq_false_iff, List.all_eq_false]
    exact .inr ⟨q, hq, by rw [hn]; nofun⟩

end

/-- Settles O56: the subscriptions set stand to the end of the event, and the refusal is a reply alone. -/
theorem subscribe : Obligations.Subscribe := by
  intro s p tag l h ho
  refine ⟨fun hl => ⟨_, execSubscribe_owned h ho hl, ?_⟩, fun hidle hl => execSubscribe_unknown ⟨h, hidle⟩ ho (familiesKnown_eq_false hl)⟩
  obtain ⟨v, e⟩ := setSubscriptions_eq p (subscribeAll l (s.settings.ports.subs p)) s
  rw [e]
  have k := (Leaves.refl (reply p tag (.done (.subscriptions (subscribeAll l (s.settings.ports.subs p)))) { s with
    settings := { s.settings with ports := s.settings.ports.setSubs p (subscribeAll l (s.settings.ports.subs p)) }, store := v })).settle
  exact ⟨settle_answered ho (by cases p <;> rfl), k.settings, k.perf, k.sup, (Keeps.refl _).settle.stages⟩

/-! ## Port frames -/

theorem checkBytes_length (l : List Byte) : (checkBytes l).length = 2 := rfl

/-- R178, R179: a port frame reads back as what it was built from. -/
theorem readPortFrame_portFrame (kind tag : Byte) (payload : List Byte) (h : payload.length ≤ 120) :
    readPortFrame ((portFrame kind tag payload).drop 1) = .received kind tag payload := by
  have hlen : (BitVec.ofNat 8 payload.length).toNat = payload.length := by rw [BitVec.toNat_ofNat]; omega
  show readPortFrame (BitVec.ofNat 8 payload.length :: kind :: tag :: (payload ++ checkBytes (portBody kind tag payload))) = _
  rw [readPortFrame, if_neg (by omega)]
  rw [hlen, if_neg (by rw [List.length_append, checkBytes_length]; omega), List.drop_left, List.take_left,
    List.take_of_length_le (Nat.le_of_eq (checkBytes_length _))]
  exact if_pos rfl

theorem contains_shifted_range (first count n : Nat) :
    ((List.range (count + 1)).map (· + first)).contains n = true ↔ first ≤ n ∧ n ≤ first + count := by
  rw [List.contains_iff_mem, List.mem_map]
  constructor
  · rintro ⟨m, hm, rfl⟩
    have := List.mem_range.1 hm
    omega
  · rintro ⟨hfirst, hlast⟩
    exact ⟨n - first, List.mem_range.2 (by omega), by omega⟩

/-- R178: whether a code is of a class. -/
def FrameClass.hasCode (n : Nat) (c : FrameClass) : Bool := c.codes.contains n

/-- R178: a kind byte has at most one class, since the codes of the classes lie apart. -/
theorem frameClass_eq (kind : Byte) : frameClass kind =
    if 1 ≤ kind.toNat ∧ kind.toNat ≤ 63 then some .request
    else if 64 ≤ kind.toNat ∧ kind.toNat ≤ 127 then some .reply
    else if 128 ≤ kind.toNat ∧ kind.toNat ≤ 191 then some .notice else none := by
  have hrequest : FrameClass.hasCode kind.toNat .request = true ↔ 1 ≤ kind.toNat ∧ kind.toNat ≤ 63 := contains_shifted_range 1 62 _
  have hreply : FrameClass.hasCode kind.toNat .reply = true ↔ 64 ≤ kind.toNat ∧ kind.toNat ≤ 127 := contains_shifted_range 64 63 _
  have hnotice : FrameClass.hasCode kind.toNat .notice = true ↔ 128 ≤ kind.toNat ∧ kind.toNat ≤ 191 := contains_shifted_range 128 63 _
  show [FrameClass.request, .reply, .notice].find? (FrameClass.hasCode kind.toNat) = _
  split
  next h => exact List.find?_cons_of_pos (hrequest.2 h)
  next h =>
    rw [List.find?_cons_of_neg (mt hrequest.1 h)]
    split
    next h => exact List.find?_cons_of_pos (hreply.2 h)
    next h =>
      rw [List.find?_cons_of_neg (mt hreply.1 h)]
      split
      next h => exact List.find?_cons_of_pos (hnotice.2 h)
      next h => exact List.find?_cons_of_neg (mt hnotice.1 h)

/-- Settles O60: the frame read back, and the heads of the frames that a Port Unit sends. -/
theorem portFrameReadsBack : Obligations.PortFrameReadsBack :=
  ⟨readPortFrame_portFrame, fun _ _ => rfl, fun _ _ => ⟨rfl, rfl⟩, fun _ _ => rfl, frameClass_eq⟩

end Sys2Proof.Machine

/-! RESTART (R196, R189, R100): the reply alone while it waits, the start-up that its sending begins, and the curtain kept through it. -/

namespace Sys2Proof.Machine

/-! ## The reply sent -/

theorem sendsRestart_of_reply {u : PortUnit} {tag : Tag} {l : List OutFrame} (hs : u.sending = some .queued)
    (hq : u.queue = .reply tag (.done .restart) :: l) : u.sendsRestart = true := by
  unfold PortUnit.sendsRestart
  rw [hs, hq]
  exact beq_self_eq_true _

theorem execFrameSent_restart {s : State} {p : Port} (h : s.resetHeld = false) (hr : (s.port p).sendsRestart = true) :
    exec (.frameSent p) s = .next (settle (restartController s)) := by
  show execFrameSent p s = _
  rw [execFrameSent, command_next _ h, if_pos hr]

/-! ## The start-up begun -/

/-- R98: the notice of an abandoned display drop is no more than a notice. -/
theorem Raises.restartNotice {s0 s : State} (d : Option DisplayStep) (h : Raises s0 s) : Raises s0 (Machine.restartNotice d s) := by
  cases d with
  | none => exact h
  | some x => exact h.notify _ _

theorem restartController_raises (s : State) : Raises (rebuild (restartCurtain s.curtain) s) (restartController s) :=
  Raises.foldl .zone (.inr rfl) _ (Raises.foldl .channel (.inr rfl) _ (Raises.foldl .store (.inl rfl) _ ((Raises.refl _).restartNotice _)))

/-- R189, R195: the end of the event puts the survey's first probe on the loop, and leaves every other record as rebuilt but Supervision's and
the ports'. -/
theorem settle_restartController (s : State) : ∃ u q, settle (restartController s) = { rebuild (restartCurtain s.curtain) s with
    sup := u, ports := q
    loop := { (rebuild (restartCurtain s.curtain) s).loop with
      transaction := some (.probe 1 .survey)
      windowAt := s.clock.now + (rebuild (restartCurtain s.curtain) s).settings.loop.replyWindow * 10 } } := by
  obtain ⟨u, q, hraised⟩ := (restartController_raises s).rest
  refine ⟨u, ⟨q.stage.transmit, q.front.transmit⟩, ?_⟩
  rw [hraised, settle_surveying rfl rfl]
  rfl

/-! ## The curtain kept -/

theorem keptState_iff (x : CurtainState) : keptState x = true ↔ x = .up ∨ x = .down ∨ x = .halted := by
  cases x <;> decide

/-- R100: a resolved curtain at UP, DOWN or HALTED keeps its state, its position and its hold. -/
theorem restartCurtain_kept {c : Curtain} (hr : c.resolved = true) (hk : c.state = .up ∨ c.state = .down ∨ c.state = .halted) :
    (restartCurtain c).state = c.state ∧ (restartCurtain c).position = c.position ∧ (restartCurtain c).hold = c.hold := by
  rw [restartCurtain, if_pos ⟨(keptState_iff _).2 hk, hr⟩]
  exact ⟨rfl, rfl, rfl⟩

/-! ## Settled -/

/-- R196: a RESTART that its judgement accepts is answered alone, its start-up left to the sending of the reply. -/
theorem execRestart_accepted {s : State} {tag : Tag} (h : s.awake) (ho : s.owns .stage tag .restart = true) (hg : gateRestart s = none) :
    exec (.restart .stage tag) s = .next (transmit (reply .stage tag (.done .restart) s)) := by
  show execRestart .stage tag s = _
  rw [execRestart, request_replied h ho]
  rw [hg]; rfl

/-- Settles O58: the reply by itself, and the start-up by the records rebuilt at its sending. -/
theorem restartBeginsWhenAnswered : Obligations.RestartBeginsWhenAnswered := by
  intro s tag
  refine ⟨execRestart_accepted, fun p l hh hs hq => ?_⟩
  obtain ⟨u, q, hsettled⟩ := settle_restartController s
  have hexec := execFrameSent_restart hh (sendsRestart_of_reply hs hq)
  exact ⟨_, hexec.trans (congrArg _ hsettled), rfl, rfl, rfl, rfl, rfl, rfl, rfl, restartCurtain_kept⟩

end Sys2Proof.Machine

/-! The step itself: the front command on the queue's rest, and the 0.1 ms that pass on an empty queue (log entries 5 and 3). -/

namespace Sys2Proof.Machine

theorem step_front {c : Instr} {q : List Instr} {s : State} (hp : s.pending = c :: q) : step s = exec c (s.withPending q) := by
  rw [step, hp]

theorem step_idleTick {s : State} (hp : s.pending = []) : step s = .next (idleTick s) := by
  rw [step, hp]

/-- Log entry 3: while RESET_N is asserted the clock alone moves. -/
theorem idleTick_held {s : State} (hh : s.resetHeld = true) : idleTick s = mapClock Clock.tick s := by
  rw [idleTick, if_pos hh]

/-- Log entry 5: with RESET_N released, what the passing of time has made due begins. -/
theorem idleTick_running {s : State} (hh : s.resetHeld = false) : idleTick s = settle (mapClock Clock.tick s) := by
  rw [idleTick, if_neg (by simp [hh])]

/-- Settles O1: by the two cases of the queue, and on an empty queue by the two levels of RESET_N. -/
theorem stepRunsFrontCommand : Obligations.StepRunsFrontCommand := by
  refine ⟨fun _ _ _ => step_front, fun s hp => ⟨fun hheld => ?_, fun hrunning => ?_⟩⟩
  · exact (step_idleTick hp).trans (congrArg _ (idleTick_held hheld))
  · exact (step_idleTick hp).trans (congrArg _ (idleTick_running hrunning))

end Sys2Proof.Machine
